-- ==== Sys2Proof/Word.lean ====
section
/-! DEFINITION. The word types of the module: what the spec treats as bits is a bit vector (R6: little-endian words). -/

namespace Sys2Proof

/-- One byte. -/
abbrev Byte := BitVec 8

/-- A general register of a core (R102), a counter, an address. -/
abbrev Word := BitVec 64

/-- A vector register: 64 lanes of 32 bits, lane i in bits [32i + 31 : 32i] (R102). -/
abbrev Lanes := BitVec 2048

/-- One KAF element: 128 bits (R46). -/
abbrev KafBits := BitVec 128

/-- A sparse table by number: keys strictly rising, no entry equal to what an unlisted key reads as. -/
abbrev Tbl (α : Type) := List (Nat × α)

end Sys2Proof
end

