-- ==== Sys2Proof/Args.lean ====
section
/-! DEFINITION. The operand structures of the commands. -/

namespace Sys2Proof

/-- What every syllable carries beside its operand field (R98, R100): the core by physical index 36 × row + column (R70),
the slot, the governing predicate and its sense, and whether it is the last syllable of its bundle to be presented. -/
structure Issue where
  core : Fin 1728
  slot : Fin 4
  pn : BitVec 3
  neg : Bool
  last : Bool
deriving DecidableEq, Repr

/-- The five kinds of message (R185). -/
inductive MsgKind where
  | data | completion | grant | grantAck | creditReturn
deriving DecidableEq, Repr

/-- A message, grant, acknowledgement or credit-return (R185). `units` is the charge, S or the returned units. -/
structure Msg where
  kind : MsgKind
  srcChip : BitVec 8
  srcRow : BitVec 6
  srcCol : BitVec 5
  dstChip : BitVec 8
  dstRow : BitVec 6
  dstCol : BitVec 5
  mbox : BitVec 4
  gen : BitVec 8
  seq : BitVec 16
  offset : BitVec 12
  units : BitVec 13
  len6 : BitVec 6
  payload : List Byte
deriving DecidableEq, Repr

/-- A Wesan frame without its link words (R242 to R246). -/
structure Frame where
  type : BitVec 8
  vc : BitVec 2
  dchip : BitVec 8
  schip : BitVec 8
  w1 : BitVec 64
  w2 : BitVec 64
  w3 : BitVec 64
  payload : List Byte
deriving DecidableEq, Repr

/-- LEN of a frame: 64-byte units of payload (R243). -/
def Frame.len (f : Frame) : Nat := f.payload.length / 64

/-- One sample of a bay (R443): 14 cells in 0.1 mV, pack in mV, leg current in 10 mA, thermistors in °C (none where one reads
open, beyond the −40 °C end of its range, R458), CID_L asserted. -/
structure CartSample where
  cells : List Nat
  pack : Nat
  cur : Int
  temps : List (Option Int)
  cid : Bool
deriving DecidableEq, Repr

/-- A command frame that the PTC sends on a die's set-point ring (R368), but for its OP; `flip`: the bits inverted before it is received. -/
structure RingFrame where
  die : Fin 2
  dst : BitVec 9
  seq : BitVec 8
  arg : BitVec 8
  slew : BitVec 3
  flip : BitVec 64
deriving DecidableEq, Repr

/-- What a regulator measured over a period of the flue (R373): rail voltage in mV, mean current, temperature, current limit met; `flip`: the
bits of its frame inverted before the PTC receives it. -/
structure FlueSample where
  vout : BitVec 10
  iout : BitVec 8
  temp : BitVec 7
  oc : Bool
  flip : BitVec 80
deriving DecidableEq, Repr

/-- What a phase measured over a period of its flue (R412); `flip`: the bits of its frame inverted before the loop engine receives it. -/
structure PhaseSample where
  iph : BitVec 10
  duty : BitVec 10
  vin : BitVec 10
  temp : BitVec 7
  fast : Bool
  flip : BitVec 80
deriving DecidableEq, Repr

/-- Who issues a command of the PTC set (R484): a function, or the rack with the number of its request; and the command's TAG. -/
structure PtcIssue where
  rack : Bool
  func : Fin 64
  seq : BitVec 16
  tag : BitVec 16
deriving DecidableEq, Repr

/-- Who orders what the host and the rack can both order: a function through its registers, or the rack with the request
number of its frame (R497, R531, R569). -/
inductive Requester where
  | host (fn : Fin 64)
  | rack (seq : BitVec 16)
deriving DecidableEq, Repr

end Sys2Proof
end

