-- ==== Sys2Proof/Syntax.lean ====
section
/-! DEFINITION. The commands of the block: one constructor per row of spec/opcode_table.json, in the table's order.
A syllable row (R98 to R171, R623) carries the core, slot and predicate in `iss` and its operand field [17:0] in `ops`,
laid out as its group's layout in the spec says. Every other row carries the operands of the event or request it is. -/

namespace Sys2Proof

/-- A command (R1 to R625; the rule of each row stands at its constructor). -/
inductive Instr where
  /-- NOP (R101): An all-zero syllable that has no effect. The row carries GRP, OP and operands as raw bits, so that any word of a
  slot can be presented, also one of a group or operation code that has no row (R99, R100). -/
  | nop (iss : Issue) (grp : BitVec 4) (op : BitVec 6) (ops : BitVec 18)
  /-- ADD (R119): gd = ga + gb, modulo 2^64. -/
  | add (iss : Issue) (ops : BitVec 18)
  /-- SUB (R119): gd = ga - gb, modulo 2^64. -/
  | sub (iss : Issue) (ops : BitVec 18)
  /-- AND (R119): Bitwise AND of ga and gb into gd. -/
  | and (iss : Issue) (ops : BitVec 18)
  /-- OR (R119): Bitwise OR of ga and gb into gd. -/
  | or (iss : Issue) (ops : BitVec 18)
  /-- XOR (R119): Bitwise XOR of ga and gb into gd. -/
  | xor (iss : Issue) (ops : BitVec 18)
  /-- SHL (R119): Shifts ga left by gb[5:0] into gd. -/
  | shl (iss : Issue) (ops : BitVec 18)
  /-- SHR (R119): Logical right shift of ga by gb[5:0] into gd. -/
  | shr (iss : Issue) (ops : BitVec 18)
  /-- SRA (R119): Arithmetic right shift of ga by gb[5:0] into gd. -/
  | sra (iss : Issue) (ops : BitVec 18)
  /-- MUL (R119): Writes the low 64 bits of ga times gb to gd. -/
  | mul (iss : Issue) (ops : BitVec 18)
  /-- MULH (R119): Writes the high 64 bits of the signed product to gd; allowed in S1 only. -/
  | mulh (iss : Issue) (ops : BitVec 18)
  /-- MULHU (R119): Writes the high 64 bits of the unsigned product to gd; allowed in S1 only. -/
  | mulhu (iss : Issue) (ops : BitVec 18)
  /-- DIV (R120): Signed quotient, truncated toward zero, defined for every operand pair and not pipelined. -/
  | div (iss : Issue) (ops : BitVec 18)
  /-- DIVU (R120): Unsigned quotient, with all ones on division by zero. -/
  | divu (iss : Issue) (ops : BitVec 18)
  /-- REM (R120): Signed remainder with the sign of ga, giving ga on division by zero. -/
  | rem (iss : Issue) (ops : BitVec 18)
  /-- REMU (R120): Unsigned remainder, giving ga on division by zero. -/
  | remu (iss : Issue) (ops : BitVec 18)
  /-- MIN (R119): Signed minimum of ga and gb into gd. -/
  | min (iss : Issue) (ops : BitVec 18)
  /-- MAX (R119): Signed maximum of ga and gb into gd. -/
  | max (iss : Issue) (ops : BitVec 18)
  /-- MINU (R119): Unsigned minimum of ga and gb into gd. -/
  | minu (iss : Issue) (ops : BitVec 18)
  /-- MAXU (R119): Unsigned maximum of ga and gb into gd. -/
  | maxu (iss : Issue) (ops : BitVec 18)
  /-- MOV (R119): Copies ga into gd. -/
  | mov (iss : Issue) (ops : BitVec 18)
  /-- CLZ (R119): Writes the count of leading zeros of ga to gd. -/
  | clz (iss : Issue) (ops : BitVec 18)
  /-- POPC (R119): Writes the count of set bits of ga to gd. -/
  | popc (iss : Issue) (ops : BitVec 18)
  /-- CMP (R119): Integer compare under mod, writing the result to all 64 bits of a predicate. -/
  | cmp (iss : Issue) (ops : BitVec 18)
  /-- FADD (R121): FP32 add on bits [31:0], with rounding mode and flags. -/
  | fadd (iss : Issue) (ops : BitVec 18)
  /-- FSUB (R121): FP32 subtract on bits [31:0], with rounding mode and flags. -/
  | fsub (iss : Issue) (ops : BitVec 18)
  /-- FMUL (R121): FP32 multiply on bits [31:0], with rounding mode and flags. -/
  | fmul (iss : Issue) (ops : BitVec 18)
  /-- FMA (R121): Computes gd + ga x gb in FP32, rounded once. -/
  | fma (iss : Issue) (ops : BitVec 18)
  /-- FMIN (R121): FP32 minimumNumber; NANIN is set on a NaN operand. -/
  | fmin (iss : Issue) (ops : BitVec 18)
  /-- FMAX (R121): FP32 maximumNumber; NANIN is set on a NaN operand. -/
  | fmax (iss : Issue) (ops : BitVec 18)
  /-- FCMP (R121): FP32 compare into a predicate, with NaN handling and NANIN. -/
  | fcmp (iss : Issue) (ops : BitVec 18)
  /-- MOVI (R122): Writes the sign-extended imm13 to gd. -/
  | movi (iss : Issue) (ops : BitVec 18)
  /-- MOVK (R122): Writes imm13 into bit field k of gd, with k from 0 to 4, and keeps the other bits. -/
  | movk (iss : Issue) (k : Fin 5) (ops : BitVec 18)
  /-- ADDI (R122): Adds the sign-extended imm13 to gd. -/
  | addi (iss : Issue) (ops : BitVec 18)
  /-- LD_B (R123): Loads a sign-extended byte from the scratchpad. -/
  | ldB (iss : Issue) (ops : BitVec 18)
  /-- LD_H (R123): Loads a sign-extended halfword from the scratchpad. -/
  | ldH (iss : Issue) (ops : BitVec 18)
  /-- LD_W (R123): Loads a sign-extended word from the scratchpad. -/
  | ldW (iss : Issue) (ops : BitVec 18)
  /-- LD_D (R123): Loads a doubleword from the scratchpad. -/
  | ldD (iss : Issue) (ops : BitVec 18)
  /-- LD_BU (R123): Loads a zero-extended byte from the scratchpad. -/
  | ldBu (iss : Issue) (ops : BitVec 18)
  /-- LD_HU (R123): Loads a zero-extended halfword from the scratchpad. -/
  | ldHu (iss : Issue) (ops : BitVec 18)
  /-- LD_WU (R123): Loads a zero-extended word from the scratchpad. -/
  | ldWu (iss : Issue) (ops : BitVec 18)
  /-- ST_B (R123): Stores the low byte of gd to the scratchpad. -/
  | stB (iss : Issue) (ops : BitVec 18)
  /-- ST_H (R123): Stores the low halfword of gd to the scratchpad. -/
  | stH (iss : Issue) (ops : BitVec 18)
  /-- ST_W (R123): Stores the low word of gd to the scratchpad. -/
  | stW (iss : Issue) (ops : BitVec 18)
  /-- ST_D (R123): Stores gd to the scratchpad. -/
  | stD (iss : Issue) (ops : BitVec 18)
  /-- BR (R117): Relative branch by off18 bundles. -/
  | br (iss : Issue) (ops : BitVec 18)
  /-- CALL (R117): Relative call that writes the return address to g31. -/
  | call (iss : Issue) (ops : BitVec 18)
  /-- JMP (R117): Jumps to ga, with range and alignment checks. -/
  | jmp (iss : Issue) (ops : BitVec 18)
  /-- CALLR (R117): Register call that writes the return address to g31 after reading ga. -/
  | callr (iss : Issue) (ops : BitVec 18)
  /-- LOOP (R117): Decrements gc and branches by off13 while gc is not zero. -/
  | loop (iss : Issue) (ops : BitVec 18)
  /-- BEAT (R129): Waiting syllable that waits until the boundary of beat beat18 has passed. -/
  | beat (iss : Issue) (ops : BitVec 18)
  /-- BEAT_NEXT (R129): Waiting syllable that waits for the next beat boundary. -/
  | beatNext (iss : Issue) (ops : BitVec 18)
  /-- BEAT_R (R129): Like BEAT, with the beat index taken from ga. -/
  | beatR (iss : Issue) (ops : BitVec 18)
  /-- KINDLE_ARM (R130): Waits until the arm instant and then arms M0 and M1. -/
  | kindleArm (iss : Issue) (ops : BitVec 18)
  /-- KINDLE_DISARM (R131): Disarms both matrix engines at issue, without waiting. -/
  | kindleDisarm (iss : Issue) (ops : BitVec 18)
  /-- HINT (R132): Posts a draw hint of level and lead onto the flue. -/
  | hint (iss : Issue) (ops : BitVec 18)
  /-- STAT_READ (R133): Reads the status value chosen by sel into gd, interlocked under R623. -/
  | statRead (iss : Issue) (ops : BitVec 18)
  /-- STAT_CLR (R623): Clears the arithmetic status word bits that are set in ga. -/
  | statClr (iss : Issue) (ops : BitVec 18)
  /-- STEPEND (R134): Stops issue at the end of the core's part of the step. -/
  | stepend (iss : Issue) (ops : BitVec 18)
  /-- BRK (R129): Raises BREAK and records code8. -/
  | brk (iss : Issue) (ops : BitVec 18)
  /-- WAITING_BUNDLE_ISSUE (R128): A bundle held by a waiting syllable issues whole once its condition is met. -/
  | waitingBundleIssue (core : Fin 1728)
  /-- VADD_F (R124): Per-lane FP32 add. -/
  | vaddF (iss : Issue) (ops : BitVec 18)
  /-- VSUB_F (R124): Per-lane FP32 subtract. -/
  | vsubF (iss : Issue) (ops : BitVec 18)
  /-- VMUL_F (R124): Per-lane FP32 multiply. -/
  | vmulF (iss : Issue) (ops : BitVec 18)
  /-- VFMA_F (R124): Per-lane FP32 fused multiply-add, rounded once. -/
  | vfmaF (iss : Issue) (ops : BitVec 18)
  /-- VMIN_F (R124): Per-lane FP32 minimum. -/
  | vminF (iss : Issue) (ops : BitVec 18)
  /-- VMAX_F (R124): Per-lane FP32 maximum. -/
  | vmaxF (iss : Issue) (ops : BitVec 18)
  /-- VABS_F (R124): Clears the sign bit of each lane, without flags. -/
  | vabsF (iss : Issue) (ops : BitVec 18)
  /-- VNEG_F (R124): Inverts the sign bit of each lane, without flags. -/
  | vnegF (iss : Issue) (ops : BitVec 18)
  /-- VADD_I (R124): Per-lane INT32 add, with optional saturation. -/
  | vaddI (iss : Issue) (ops : BitVec 18)
  /-- VSUB_I (R124): Per-lane INT32 subtract, with optional saturation. -/
  | vsubI (iss : Issue) (ops : BitVec 18)
  /-- VMUL_I (R124): Per-lane INT32 multiply, keeping the low 32 bits. -/
  | vmulI (iss : Issue) (ops : BitVec 18)
  /-- VMAD_I (R124): Per-lane INT32 multiply-add, keeping the low 32 bits. -/
  | vmadI (iss : Issue) (ops : BitVec 18)
  /-- VAND (R124): Per-lane bitwise AND. -/
  | vand (iss : Issue) (ops : BitVec 18)
  /-- VOR (R124): Per-lane bitwise OR. -/
  | vor (iss : Issue) (ops : BitVec 18)
  /-- VXOR (R124): Per-lane bitwise XOR. -/
  | vxor (iss : Issue) (ops : BitVec 18)
  /-- VSHL (R124): Per-lane left shift. -/
  | vshl (iss : Issue) (ops : BitVec 18)
  /-- VSHR (R124): Per-lane logical right shift. -/
  | vshr (iss : Issue) (ops : BitVec 18)
  /-- VSRA (R124): Per-lane arithmetic right shift. -/
  | vsra (iss : Issue) (ops : BitVec 18)
  /-- VMIN_I (R124): Per-lane signed minimum. -/
  | vminI (iss : Issue) (ops : BitVec 18)
  /-- VMAX_I (R124): Per-lane signed maximum. -/
  | vmaxI (iss : Issue) (ops : BitVec 18)
  /-- VSEL (R124): Selects each lane from va or vb by predicate p[mod]. -/
  | vsel (iss : Issue) (ops : BitVec 18)
  /-- VLD (R125): Loads 256 bytes into the active lanes. -/
  | vld (iss : Issue) (ops : BitVec 18)
  /-- VST (R125): Stores the active lanes, 256 bytes. -/
  | vst (iss : Issue) (ops : BitVec 18)
  /-- VPERM (R125): Permutes the lanes of va by vb. -/
  | vperm (iss : Issue) (ops : BitVec 18)
  /-- VROT (R125): Rotates the lanes of va by imm6. -/
  | vrot (iss : Issue) (ops : BitVec 18)
  /-- VBCAST (R125): Broadcasts ga[31:0] to every lane. -/
  | vbcast (iss : Issue) (ops : BitVec 18)
  /-- VRED_ADD_F (R126): FP32 sum of the 64 lanes over the fixed tree, into gd. -/
  | vredAddF (iss : Issue) (ops : BitVec 18)
  /-- VRED_ADD_I (R125): INT32 sum of the lanes, sign-extended into gd. -/
  | vredAddI (iss : Issue) (ops : BitVec 18)
  /-- VRED_MAX_F (R125): Fixed-tree FP32 maximum of the lanes into gd. -/
  | vredMaxF (iss : Issue) (ops : BitVec 18)
  /-- VRED_MIN_F (R125): Fixed-tree FP32 minimum of the lanes into gd. -/
  | vredMinF (iss : Issue) (ops : BitVec 18)
  /-- VEXT (R125): Extracts lane imm6, sign-extended, into gd. -/
  | vext (iss : Issue) (ops : BitVec 18)
  /-- VINS (R125): Inserts ga[31:0] into lane imm6 of vd. -/
  | vins (iss : Issue) (ops : BitVec 18)
  /-- VCMP_F (R127): FP32 lane compare into predicate lanes. -/
  | vcmpF (iss : Issue) (ops : BitVec 18)
  /-- VCMP_I (R127): INT32 lane compare into predicate lanes. -/
  | vcmpI (iss : Issue) (ops : BitVec 18)
  /-- PAND (R127): pd = pa AND pb. -/
  | pand (iss : Issue) (ops : BitVec 18)
  /-- POR (R127): pd = pa OR pb. -/
  | por (iss : Issue) (ops : BitVec 18)
  /-- PXOR (R127): pd = pa XOR pb. -/
  | pxor (iss : Issue) (ops : BitVec 18)
  /-- PANDN (R127): pd = pa AND NOT pb. -/
  | pandn (iss : Issue) (ops : BitVec 18)
  /-- PMOV_G (R127): Copies predicate pa to gd. -/
  | pmovG (iss : Issue) (ops : BitVec 18)
  /-- PMOV_P (R127): Copies ga to predicate pd. -/
  | pmovP (iss : Issue) (ops : BitVec 18)
  /-- MMA_KAF (R148): Fixed-window multiply-accumulate of A and B into a tile, waiting for kindling. -/
  | mmaKaf (iss : Issue) (ops : BitVec 18)
  /-- MMA_F32 (R148): Float-mode multiply-accumulate into a tile. -/
  | mmaF32 (iss : Issue) (ops : BitVec 18)
  /-- MWIN (R150): Sets TWIN and zeroes the tile on that window. -/
  | mwin (iss : Issue) (ops : BitVec 18)
  /-- MRWIN (R150): Re-windows every element of the tile to E. -/
  | mrwin (iss : Issue) (ops : BitVec 18)
  /-- MZERO_F (R150): Makes every element a float-mode +0 and clears the flag byte. -/
  | mzeroF (iss : Issue) (ops : BitVec 18)
  /-- MST (R151): Converts the tile into a format and stores it in operand layout. -/
  | mst (iss : Issue) (ops : BitVec 18)
  /-- MSTK (R152): Stores the tile's raw content and flag byte. -/
  | mstk (iss : Issue) (ops : BitVec 18)
  /-- MLDK (R152): Loads raw tile content, the flag byte and TWIN. -/
  | mldk (iss : Issue) (ops : BitVec 18)
  /-- MATRIX_OP_DONE (R154): A matrix-engine operation completes, writing its tile or memory, and the queued operation starts. -/
  | matrixOpDone (core : Fin 1728) (eng : Fin 2)
  /-- CVT (R157): Converts 64 packed elements between formats, with optional block scales. -/
  | cvt (iss : Issue) (mods : BitVec 6) (ops : BitVec 18)
  /-- DMA_LD (R159): Checks a device-to-scratchpad DMA and starts it, raising counter q. -/
  | dmaLd (iss : Issue) (ops : BitVec 18)
  /-- DMA_ST (R159): Checks a scratchpad-to-device DMA and starts it, raising counter q. -/
  | dmaSt (iss : Issue) (ops : BitVec 18)
  /-- DMA_FENCE (R158): Is accepted once every masked DMA counter is zero. -/
  | dmaFence (iss : Issue) (ops : BitVec 18)
  /-- DMA_ROW_MOVE (R161): The DMA unit checks one row against the layout and moves it, detecting DMA_PROT or DMA_POISON. -/
  | dmaRowMove (core : Fin 1728) (index : Fin 16)
  /-- DMA_COMPLETE (R160): The last byte of a DMA is written and its counter drops. -/
  | dmaComplete (core : Fin 1728) (index : Fin 16)
  /-- DEFERRED_FAULT_DELIVERY (R113): A fault detected after issue is delivered at the next bundle boundary and stops the core. -/
  | deferredFaultDelivery (core : Fin 1728)
  /-- SEND (R180): Places a message in the sub-ring, spends credits and copies the payload to the outbound buffer. -/
  | send (iss : Issue) (ops : BitVec 18)
  /-- RECV (R190): Returns the next held message of a mailbox, in ARRIVAL or ROTA order. -/
  | recv (iss : Issue) (ops : BitVec 18)
  /-- CREDIT (R182): Releases returned messages and sends credit-returns to their sources. -/
  | credit (iss : Issue) (ops : BitVec 18)
  /-- MESSAGE_DEPOSIT (R187): An arriving DATA or COMPLETION message is checked and deposited, or discarded, or aborts the context. -/
  | messageDeposit (m : Msg)
  /-- GRANT (R179): An arriving grant creates a credit-table entry and is acknowledged. -/
  | grant (m : Msg)
  /-- GRANT_ACK (R178): An arriving grant acknowledgement stops the repetition of that grant. -/
  | grantAck (m : Msg)
  /-- CREDIT_RETURN (R182): An arriving credit-return adds units to C, or aborts the context on an excess. -/
  | creditReturn (m : Msg)
  /-- GRANT_REPEAT (R178): Every 10 us RT, a grant that is still unacknowledged is sent again. -/
  | grantRepeat (core : Fin 1728)
  /-- RPUT_T (R166): Contributes a tile's elements and flag byte to a reduction descriptor. -/
  | rputT (iss : Issue) (ops : BitVec 18)
  /-- RPUT_S (R166): Contributes KAF elements from the scratchpad to a reduction descriptor. -/
  | rputS (iss : Issue) (ops : BitVec 18)
  /-- REDUCTION_PARTIAL_DONE (R267): A member's partial for a chunk instance is complete and goes to the owner. -/
  | reductionPartialDone (slot : Fin 1024) (desc : BitVec 8) (chunk : BitVec 16)
  /-- REDUCTION_INSTANCE_DONE (R269): An instance is final: the result is written and the completion is delivered to the mailbox. -/
  | reductionInstanceDone (slot : Fin 1024) (desc : BitVec 8) (chunk : BitVec 16)
  /-- CORE_ARRIVAL (R134): A core that has issued STEPEND reports its arrival once all its operations have completed. -/
  | coreArrival (core : Fin 1728)
  /-- RELEASE (R221): At the local release instant the step is released, cores resume at ENTRY and engines are disarmed. -/
  | release (slot : Fin 1024)
  /-- BEAT_BOUNDARY (R207): A beat boundary passes, with draw-plan entries, waits and clock changes taking effect. -/
  | beatBoundary (slot : Fin 1024)
  /-- KINDLE_WAVE (R226): A kindling wave starts and arms the engines of its clusters. -/
  | kindleWave (slot : Fin 1024) (wave : Fin 8)
  /-- PRE_BIAS_WAVE_SEND (R371): The PTC sends a WAVE frame 1,320 ns RT before a wave starts. -/
  | preBiasWaveSend (wave : Fin 8)
  /-- PRE_BIAS_END (R371): 2 us after a wave starts, a raised output returns to its set-point. -/
  | preBiasEnd (wave : Fin 8)
  /-- TIME_CODE (R558): A TIME frame is checked; lock, holdover exit or slewing follow under R204. -/
  | timeCode (frame : BitVec 100) (edges : Nat)
  /-- TICK_MISSING (R202): No TICK edge arrives within 30 ns LT, and the counter enters HOLDOVER. -/
  | tickMissing
  /-- TIME_CODES_MISSING (R202): A third consecutive missing or invalid TIME code takes the counter to HOLDOVER. -/
  | timeCodesMissing
  /-- HOLDOVER_LIMIT (R202): Holdover has lasted HOLD_LIMIT, and the counter enters LOST. -/
  | holdoverLimit
  /-- SLEW_CONVERGED (R204): While SLEWING, |e| falls to 2 ns or below and the counter becomes LOCKED. -/
  | slewConverged
  /-- RT_NOW_READ (R236): A read of RT_NOW returns the counter, latching or consuming the upper half for 4-byte reads. -/
  | rtNowRead (fn : Fin 64) (part : Fin 3)
  /-- FRAME_RECEIVE (R247): A Wesan frame is checked for CRC, form, LSEQ and DCHIP before delivery. `idle`: an IDLE word came before it;
  `corr`, `uncorr`: the codewords of R239 that carried it and were corrected, or could not be. -/
  | frameReceive (port : Fin 18) (idle : Bool) (words : List (BitVec 64)) (corr uncorr : BitVec 16)
  /-- MSG (R245): A received MSG frame is delivered to the message unit. -/
  | msg (port : Fin 18) (f : Frame)
  /-- RCONTRIB (R267): A received reduction partial or all-gather contribution is added or written. -/
  | rcontrib (port : Fin 18) (f : Frame)
  /-- RRESULT (R267): A received reduction result from the owner is written at the receiver. -/
  | rresult (port : Fin 18) (f : Frame)
  /-- BARRIER (R223): A received barrier-arrival frame is accepted, discarded or makes the context abort. -/
  | barrier (port : Fin 18) (f : Frame)
  /-- ABORT (R273): A received ABORT moves the matching context to ABORTED. -/
  | abort (port : Fin 18) (f : Frame)
  /-- LINK_ACK (R248): A received acknowledgement frees replay-buffer frames. -/
  | linkAck (port : Fin 18) (ackseq : BitVec 12)
  /-- LINK_NACK (R248): A received NACK makes the sender replay from NSEQ. -/
  | linkNack (port : Fin 18) (nseq : BitVec 12)
  /-- LINK_CREDIT (R250): A received credit return adds link credits to each VC. -/
  | linkCredit (port : Fin 18) (v0 v1 v2 : BitVec 16)
  /-- LINK_INIT (R251): A received LINK_INIT sets the initial credits and sequence, and the port comes UP. -/
  | linkInit (port : Fin 18) (v0 v1 v2 : BitVec 16) (rcvd : Bool) (version : BitVec 8)
  /-- LINK_INIT_SEND (R251): Every 10 us LT a port that is not yet UP sends LINK_INIT. -/
  | linkInitSend (port : Fin 18)
  /-- LINK_INIT_TIMEOUT (R260): No LINK_INIT exchange within 10 ms LT of lane alignment takes the port down. -/
  | linkInitTimeout (port : Fin 18)
  /-- LANES_ALIGNED (R251): Training completes with every active lane aligned, and the LINK_INIT exchange starts. -/
  | lanesAligned (port : Fin 18) (lanes : BitVec 4)
  /-- REPLAY_TIMEOUT (R248): 4 us LT without acknowledgement progress makes the sender replay. -/
  | replayTimeout (port : Fin 18)
  /-- LANE_RETIRE (R259): A lane that fails training, loses lock or has too many uncorrectable codewords is retired, and the port retrains on three lanes. -/
  | laneRetire (port : Fin 18) (lane : Fin 4)
  /-- LANE_RETRAIN_DONE (R259): A retrain completes and held frames resume with replay. -/
  | laneRetrainDone (port : Fin 18)
  /-- PORT_DOWN (R260): A port goes down and multi-member contexts using it are aborted. -/
  | portDown (port : Fin 18)
  /-- PORT_RETRAIN_ATTEMPT (R262): Every 1 s LT a down, non-disabled port attempts training. -/
  | portRetrainAttempt (port : Fin 18)
  /-- DISABLE (R260): Writing PORT_CTRL.DISABLE takes the port down and holds it DISABLED, or allows training again. -/
  | disable (fn : Fin 64) (port : Fin 18) (v : Bool)
  /-- RETRAIN (R252): Writing PORT_CTRL.RETRAIN retrains the port on its active lanes, holding frames. -/
  | retrain (fn : Fin 64) (port : Fin 18)
  /-- RESTORE_LANES (R262): Writing PORT_CTRL.RESTORE returns retired lanes and retrains on four lanes. -/
  | restoreLanes (fn : Fin 64) (port : Fin 18)
  /-- LOAD (R330): Checks the image, membership, layout and partition, and starts a context load. -/
  | load (fn : Fin 64) (slot : Fin 1024)
  /-- LOAD_COMPLETE (R330): The copy, reset, salt permutation and plan translation finish, and the slot is LOADED. -/
  | loadComplete (slot : Fin 1024)
  /-- START (R329): Schedules the release of a LOADED context, resetting state for a DONE rerun. -/
  | start (fn : Fin 64) (slot : Fin 1024)
  /-- PARK (R336): Parks a context at once or at the barrier of step s. -/
  | park (fn : Fin 64) (slot : Fin 1024)
  /-- PARK_SNAPSHOT (R336): At the local REL(s+1) instant, or at once, the context state is written to the park area. -/
  | parkSnapshot (slot : Fin 1024)
  /-- PARK_COMPLETE (R336): The snapshot completes and the context is PARKED. -/
  | parkComplete (slot : Fin 1024)
  /-- RESTORE (R337): Reads a parked context back into its partition for release at an instant. -/
  | restore (fn : Fin 64) (slot : Fin 1024)
  /-- RESTORE_COMPLETE (R337): The park area is read back and checked, and the context is LOADED awaiting release or ABORTED. -/
  | restoreComplete (slot : Fin 1024)
  /-- CTX_ABORT (R326): The ABORT command moves a context to ABORTED, with abort frames of cause 0x09. -/
  | ctxAbort (fn : Fin 64) (slot : Fin 1024)
  /-- TEARDOWN (R340): Moves the context to TORN, aborts and drops queued work. -/
  | teardown (fn : Fin 64) (slot : Fin 1024)
  /-- TEARDOWN_FENCE (R340): No request of the torn context remains, its state is zeroed, and the slot is FREE. -/
  | teardownFence (slot : Fin 1024)
  /-- PART_DEF_WRITE (R335): A write of a partition definition is checked and accepted or refused. -/
  | partDefWrite (fn : Fin 64) (k : Fin 16) (v : BitVec 64)
  /-- KEEP_RETIRE_WRITE (R92): The host retires or returns positions, merged with the required failed-regulator bits. -/
  | keepRetireWrite (fn : Fin 64) (row : Fin 48) (v : BitVec 36)
  /-- REPAIR_APPLY (R89): At a row's boundary, pending masks are applied: state saved, shift switched, regions gated, state restored. -/
  | repairApply
  /-- HOLD_ASSERT (R362): A region rail falls 25 mV below the reference, and HOLD stalls its cores. -/
  | holdAssert (region : Fin 432)
  /-- HOLD_RELEASE (R362): The rail rises to the reference minus 15 mV, and HOLD is released. -/
  | holdRelease (region : Fin 432)
  /-- BELLOWS_RELEASE (R364): The rail falls below the reference minus 12.5 mV, and the bellows releases charge. -/
  | bellowsRelease (region : Fin 432)
  /-- BELLOWS_STOP (R364): The bellows stops releasing when the rail recovers or the reservoir is empty, and recharges. -/
  | bellowsStop (region : Fin 432)
  /-- SET (R369): A ring command ramps the regulator output to a target code. -/
  | set (f : RingFrame)
  /-- BIAS_LOAD (R371): A ring command stores the planned increment b for the next WAVE. -/
  | biasLoad (f : RingFrame)
  /-- WAVE (R371): A ring broadcast that applies stored bias in the regions of one wave. -/
  | wave (f : RingFrame)
  /-- TIE (R377): A ring command that closes a region's tie to its cluster group. -/
  | tie (f : RingFrame)
  /-- UNTIE (R369): A ring command that opens a region's tie once it has reached the group set-point. -/
  | untie (f : RingFrame)
  /-- CAL (R381): A ring command that starts a calibration of one regulator. -/
  | cal (f : RingFrame)
  /-- QUERY (R369): A ring command that reports VCODE and IOUT. The row carries OP as raw bits, so that any frame of a ring can be
  presented, also one of an operation code that has no row. -/
  | query (op : BitVec 4) (f : RingFrame)
  /-- GATE (R369): A ring command that ramps the region to 0 V and discharges the bellows. -/
  | gate (f : RingFrame)
  /-- REGION_START (R369): The ring START command enables a region and ramps it from 0 V to a target. -/
  | regionStart (f : RingFrame)
  /-- SETPOINT_SETTLED (R369): A SET or START settles within 5 mV, or meets its limit, and the node responds. -/
  | setpointSettled (region : Fin 432) (limit : Option (Fin 161))
  /-- RING_RESPONSE (R368): The PTC receives a node's ACK or NACK response frame. -/
  | ringResponse (die : Fin 2) (w : BitVec 64)
  /-- RING_COMMAND_TIMEOUT (R370): No response arrives by the deadline; the command is repeated or the regulator is checked. -/
  | ringCommandTimeout (region : Fin 432)
  /-- RING_BROKEN (R372): A ring returns no frame for 100 us LT, and an L3 reset is decided. -/
  | ringBroken (die : Fin 2)
  /-- RING_KEEPALIVE (R474): The ACTIVE PTC sends a frame on each ring at least every 10 us LT. -/
  | ringKeepalive (region : Fin 432)
  /-- FLUE_FRAME (R373): The PTC receives a regulator's telemetry frame, with hints and fault reports. -/
  | flueFrame (region : Fin 432) (m : FlueSample)
  /-- FLUE_LANE_SILENT (R374): A lane delivers no valid frame for 10 us LT, and its regulators are marked STALE. Lanes 12 to 15 are the four of
  the phase flue (R412). -/
  | flueLaneSilent (lane : Fin 16)
  /-- FLUE_POLL (R374): Every 100 us LT, a regulator of a stale lane is polled with QUERY. -/
  | fluePoll (region : Fin 432)
  /-- STAGE_FAULT (R375): A power stage reports an internal fault, and the region ties itself. -/
  | stageFault (region : Fin 432)
  /-- RAIL_UNDERVOLT_FAIL (R375): The rail is more than 50 mV low for 2 us, and the region is failed and tied. -/
  | railUndervoltFail (region : Fin 432)
  /-- RAIL_OVERVOLT_FAIL (R375): The rail is more than 50 mV high for 1 us; the regulator opens its output and ties. -/
  | railOvervoltFail (region : Fin 432)
  /-- GUARD_SUM (R378): Every 1 us LT the cluster's flue currents are summed against G, and the cap is entered. -/
  | guardSum (cluster : Fin 108)
  /-- GUARD_ADJUST (R378): Every 10 us LT the guarded issue level rises or falls. -/
  | guardAdjust (cluster : Fin 108)
  /-- CLUSTER_LOSS (R380): A group stays 50 mV low for 20 us at level 1, and the cluster goes dark with its contexts aborted. -/
  | clusterLoss (cluster : Fin 108)
  /-- CALIBRATION_DONE (R381): The calibration measurement ends; trims are stored and the tie opens, or the regulator is failed. -/
  | calibrationDone (gain offset : Int)
  /-- CALIBRATION_ABANDON (R384): A cluster-mate fails during a calibration, and the calibrated regulator returns to the group. -/
  | calibrationAbandon
  /-- AUTO_CALIBRATION (R383): Periodically, the next powered regulator is calibrated when R382 allows. -/
  | autoCalibration
  /-- REGULATOR_SELF_LIMIT (R617): A tied regulator above 8 A for 100 us limits itself to 8 A until it has cooled. -/
  | regulatorSelfLimit (region : Fin 432)
  /-- LOOP_SAMPLE (R388): Every 500 ns LT the loop engine computes each rail's phase targets. -/
  | loopSample (rail : Fin 7) (uv : Nat)
  /-- FORCED_EXIT (R398): After SHED_HOLD without a trigger, the stage leaves FORCED. -/
  | forcedExit
  /-- TRIM_UPDATE (R390): Every 1 us LT the trim of each CCM phase is updated. -/
  | trimUpdate (rail : Fin 7)
  /-- SLOT_ROTATION (R391): Every 1,024 switching cycles, phase firing slots rotate by one. -/
  | slotRotation (rail : Fin 7)
  /-- VRSYNC_EDGE (R392): A VRSYNC rising edge places phases and re-spaces slots after a change. `ps`: the period it ends, in ps; `err`: how
  far in ns it lies from the placement in use. -/
  | vrsyncEdge (ps : Nat) (err : Int)
  /-- VRSYNC_LOSS (R394): VRSYNC is missing or out of range, and the stage free-runs with LOCK cleared. -/
  | vrsyncLoss
  /-- PHASE_SHED (R396): After SHED_HOLD with a lower N, one phase is shed per switching cycle. -/
  | phaseShed
  /-- DEM_ENTRY (R397): A phase whose target stays below 3 A for 8 cycles enters DEM. -/
  | demEntry (phase : Fin 76)
  /-- FAST_LIMIT_FAIL (R400): A phase meets its fast limit in 8 consecutive cycles and fails SHORT. -/
  | fastLimitFail (phase : Fin 76)
  /-- PHASE_OVERTEMP (R400): A phase clamps its target at 115 C and fails at 125 C. -/
  | phaseOvertemp (phase : Fin 76) (temp : Nat)
  /-- VFEED_WINDOW_EVENT (R402): VFEED leaves its window: a sag is counted, or a rail fault or short is handled. -/
  | vfeedWindowEvent (kind : Fin 4)
  /-- V12_LOSS (R403): V12 stays below 10.5 V for 2 us; every phase stops and the module goes to OFF. -/
  | v12Loss (mv : Nat)
  /-- PHASE_OPEN (R404): A phase with both senses low for 4 cycles is failed OPEN and replaced. `ind`, `sw`: the senses in 62.5 mA. -/
  | phaseOpen (phase : Fin 76) (ind sw : BitVec 10)
  /-- SENSE_MISMATCH (R405): Sense disagreement for 16 cycles leads to FOLLOW or FAILED. -/
  | senseMismatch (phase : Fin 76) (ind sw : BitVec 10)
  /-- PHASE_HOLD_MODE (R407): A phase without targets for 2 us LT enters HOLD mode. `err`: its local VFEED error in mV. -/
  | phaseHoldMode (phase : Fin 76) (err : Int)
  /-- FEED_COEF_WR (R409): A write of one loop coefficient is accepted if the resulting set is stable. -/
  | feedCoefWr (fn : Fin 64) (w : BitVec 64)
  /-- COEF_REVERT (R411): A rail that oscillates for 100 us LT reverts to its reset coefficients. -/
  | coefRevert (rail : Fin 7)
  /-- PHASE_FLUE_FRAME (R412): The loop engine receives a phase telemetry frame. -/
  | phaseFlueFrame (phase : Fin 76) (m : PhaseSample)
  /-- INPUT_STAGE_OPEN (R348): Bus under- or over-voltage opens the input stage, and the store converter holds VBUS_INT. -/
  | inputStageOpen (mv : Nat) (tooHigh : Bool)
  /-- INPUT_STAGE_CLOSE (R348): The bus has stayed in 45-57 V for 10 ms, and the stage closes. -/
  | inputStageClose (mv : Nat)
  /-- BUS_CONVERTER_FAIL (R353): A bus converter fails; it is reported and the stage-1 cap may apply. -/
  | busConverterFail (k : Fin 8)
  /-- RAIL_FAULT (R355): A privileged rail is outside its window for 10 us, and an L3 or power cycle follows. -/
  | railFault (rail : Fin 12) (mv : Nat)
  /-- STORE_CONTROL (R416): Every 10 us LT the PTC sets P_store to hold the bus at P_ramp, setting OVER or UNDER. -/
  | storeControl (pInt : Nat)
  /-- DAMPER_FAST_WINDOW (R421): Each 50 ns LT window, a die's estimate is compared with D_d and L_die is cut or raised. -/
  | damperFastWindow (die : Fin 2) (est : Nat)
  /-- DAMPER_SLOW_PATH (R422): Every 10 us LT the measured p_int is capped against A_int, and classes are reduced or restored. -/
  | damperSlowPath (pInt other : Nat)
  /-- HINT_CUT (R428): A hinted forecast above D_d cuts the level 200 ns RT before the hinted instant. -/
  | hintCut (die : Fin 2) (forecast : Nat)
  /-- DISTRUST_CHECK (R429): The estimate and measurement are compared, and distrust begins or ends. -/
  | distrustCheck (est meas : Nat)
  /-- SENSOR_CHECK (R430): Every 10 us LT p_int is checked against p_chk, and SENSOR_SUSPECT is set or cleared. -/
  | sensorCheck (pInt : Nat)
  /-- TRAJ (R431): The rack sends a dispatch trajectory, which is accepted as pending or refused. -/
  | traj (seq : BitVec 16) (p : List Byte)
  /-- TRAJECTORY_IN_FORCE (R432): A pending trajectory's first point time arrives, and it replaces the one in force. -/
  | trajectoryInForce
  /-- DRAW_LIMIT_SAMPLE (R434): Every 10 us LT DRAW_LIMIT is sampled, and absent or invalid values give 600 W. -/
  | drawLimitSample (duty : Option (Fin 2001))
  /-- SHELF_BRAKE_ASSERT (R435): The brake is asserted; issue is limited to level 8 and the bus draw goes to FLOOR. -/
  | shelfBrakeAssert
  /-- SHELF_BRAKE_RELEASE (R425): The brake is released, and P_ramp rises under RAMP. -/
  | shelfBrakeRelease
  /-- CEILING (R414): The rack or host sets the bus ceiling, writing a record. -/
  | ceiling (by_ : Requester) (w : BitVec 16)
  /-- TEL_FAST_ENTRY (R437): Every 10 us RT a fast telemetry entry is written. -/
  | telFastEntry (busW : BitVec 16)
  /-- TEL_WINDOW_END (R438): At the end of 1 ms and 1 s LT windows, averages and peaks are updated. -/
  | telWindowEnd (v cur p : BitVec 16)
  /-- TEL_PEAK_READ (R438): A read of TEL_PEAK returns the held peaks and starts a new hold. -/
  | telPeakRead (fn : Fin 64)
  /-- CARTRIDGE_SAMPLE (R443): Every 1 ms LT the cartridges are sampled, estimates formed and limits and faults applied. -/
  | cartridgeSample (a b : CartSample)
  /-- LEG_SELF_ISOLATE (R441): A leg whose cartridge leaves 30.8-53.2 V isolates itself within 10 us. -/
  | legSelfIsolate (bay : Fin 2) (mv : Nat)
  /-- EMBER_SAVE_TRIGGER (R447): With the stage open, E_low reaches the reserve or RIDE_S expires, and ember save starts. -/
  | emberSaveTrigger
  /-- TRAY_LOSS (R589): The input stage opens and TICK is lost together, triggering ember save at once. -/
  | trayLoss
  /-- EMBER_SAVE_PART_DONE (R514): One part of the save image is written, and the save moves to the next step. -/
  | emberSavePartDone
  /-- EMBER_SAVE_DONE (R514): The save closes its directory, turns off rails and enters INIT or OFF. `mv`: the bus voltage. -/
  | emberSaveDone (mv : BitVec 16)
  /-- LEG_REST_START (R451): A leg is rested for 20 ms LT while the other carries P_store. -/
  | legRestStart (bay : Fin 2)
  /-- LEG_REST_END (R452): A rest ends with a reference, an offset trim, and learning of c and r. -/
  | legRestEnd (bay : Fin 2) (offset : Int) (rm : Nat)
  /-- REFERENCE_OVERDUE (R453): A cartridge without a reference for REF_MAX_H hours is marked SUSPECT. -/
  | referenceOverdue (bay : Fin 2)
  /-- IMBALANCE_SETTLED (R450): The spread stays at or below 50 mV for 10 minutes, and a calibration is requested. -/
  | imbalanceSettled (bay : Fin 2)
  /-- CART_CAL_DUE (R455): CAL_DAYS expires or a module request is retried, and a calibration discharge is requested. -/
  | cartCalDue (bay : Fin 2)
  /-- CAL_DISCHARGE_STEP (R454): A calibration discharge moves through preparation, rests and discharge, ending DONE or OUT_OF_RANGE. -/
  | calDischargeStep (offset : Int) (q rm : Nat)
  /-- CAL_DISCHARGE_ABANDON (R456): A brake, stage opening, limit, fault or timeout abandons the calibration. -/
  | calDischargeAbandon (reason : Fin 8)
  /-- CARTRIDGE_INSERTION (R459): A present cartridge for 100 ms starts admission. -/
  | cartridgeInsertion (bay : Fin 2) (typeOk : Bool) (serial : BitVec 32) (m : CartSample)
  /-- ADMISSION_CHARGE_DONE (R459): Pre-charge reaches 2.50 V, and the bay becomes IN_SERVICE after the serial check. -/
  | admissionChargeDone (bay : Fin 2)
  /-- CART_RELEASE (R461): Ramps a leg to zero and isolates the bay as RELEASED. -/
  | cartRelease (iss : PtcIssue) (arg : BitVec 64)
  /-- CART_ADMIT (R461): Starts admission for a RELEASED or recoverably faulted bay. -/
  | cartAdmit (iss : PtcIssue) (arg : BitVec 64)
  /-- CART_CAL (R461): Requests a calibration discharge of a bay. -/
  | cartCal (iss : PtcIssue) (arg : BitVec 64)
  /-- HEARTBEAT (R465): Every 10 us LT the baton holder sends a heartbeat to the arbiter. -/
  | heartbeat
  /-- HEARTBEAT_LOST (R465): No heartbeat for 100 us LT, and the arbiter decides a takeover. -/
  | heartbeatLost
  /-- PTC_FAULT_REPORT (R469): The holder reports an internal fault, and a takeover is decided. -/
  | ptcFaultReport
  /-- TAKEOVER (R471): The baton moves; the successor loads the checkpoint, acts on the journal, syncs the rings and becomes ACTIVE. -/
  | takeover
  /-- CHECKPOINT (R467): Every 1 ms LT the ACTIVE PTC writes and reads back a checkpoint. -/
  | checkpoint (ok : Bool) (us : BitVec 16)
  /-- ABSENCE_5MS (R475): After 5 ms LT of absence, units take their safe settings. -/
  | absence5ms
  /-- ABSENCE_50MS (R476): After 50 ms LT of absence, the arbiter decides an L4 reset. -/
  | absence50ms
  /-- PROVING_DUE (R481): Every PROVE_H hours the standby PTC wakes to prove itself. -/
  | provingDue
  /-- PROVING_DONE (R481): A proving ends; the PTC returns to STANDBY or becomes FAILED. -/
  | provingDone (test : BitVec 8) (self : Bool)
  /-- STATUS (R485): The PTC STATUS command reports status. -/
  | status (iss : PtcIssue) (arg : BitVec 64)
  /-- SWITCH (R485): Hands the baton to the standby PTC after a final checkpoint. -/
  | switch (iss : PtcIssue) (arg : BitVec 64)
  /-- RETURN (R482): Takes a FAILED PTC into RESYNC and proving. -/
  | returnPtc (iss : PtcIssue) (arg : BitVec 64)
  /-- PROVE (R481): Commands a proving of the standby PTC. -/
  | prove (iss : PtcIssue) (arg : BitVec 64)
  /-- FW_STAGE (R483): Commits one 64 KiB piece of a firmware image to the free slot. -/
  | fwStage (iss : PtcIssue) (arg : BitVec 64)
  /-- FW_UPDATE (R483): Makes the standby PTC load the staged image and resync. -/
  | fwUpdate (iss : PtcIssue) (arg : BitVec 64) (version : BitVec 32) (crcOk fmtOk : Bool)
  /-- REG_CAL (R485): Requests a calibration of one region regulator. -/
  | regCal (iss : PtcIssue) (arg : BitVec 64)
  /-- SELFTEST (R485): Runs a ring, flue, phase-rotation or input-sense self-test. -/
  | selftest (iss : PtcIssue) (arg : BitVec 64)
  /-- PTC_COMMAND_DONE (R484): A running PTC command ends with a status and raises the completion interrupt. -/
  | ptcCommandDone (detail : BitVec 8)
  /-- WATCHDOG_EXPIRED (R491): IDLE_MS reaches LIMIT_MS; EXPIRED is set and the owner is interrupted. -/
  | watchdogExpired (slot : Fin 1024)
  /-- STOP_ORDER_TIMEOUT (R492): A core fails to stop within 10 us LT, and an L1 is decided. -/
  | stopOrderTimeout (core : Fin 1728)
  /-- ENGINE_STALL (R492): A matrix engine makes no step in 10 ms LT, and an L1 is decided. -/
  | engineStall (core : Fin 1728) (m1 : Bool)
  /-- DMA_TIMEOUT (R492): A DMA outstanding for 100 ms LT leads to an L1 of the core. -/
  | dmaTimeout (core : Fin 1728)
  /-- SEND_COPY_TIMEOUT (R492): An accepted SEND does not copy within 1 ms LT, and an L1 is decided. -/
  | sendCopyTimeout (core : Fin 1728)
  /-- LINK_STALL (R492): A mesh or bridge link holds a frame for 10 ms LT, and an L3 is decided. -/
  | linkStall
  /-- CHANNEL_STALL (R492): A memory channel completes nothing for 100 ms LT, and an L3 is decided. -/
  | channelStall (ch : Fin 384)
  /-- REDUCTION_STALL (R492): A full reduction instance does not finish within 10 ms LT, and an L3 is decided. -/
  | reductionStall
  /-- RESET (R493): RST_CMD orders a reset at level L0 to L4 of a target. -/
  | reset (by_ : Requester) (level : BitVec 3) (target : BitVec 11)
  /-- DUMP (R506): Dumps a slot's partition to the ember store without a reset. -/
  | dump (fn : Fin 64) (slot : Fin 1024)
  /-- DUMP_COPY (R506): Copies a dump or the save image into tier-2 data. -/
  | dumpCopy (fn : Fin 64) (target : BitVec 11)
  /-- DUMP_FREE (R506): Frees a dump entry or the save image. -/
  | dumpFree (fn : Fin 64) (target : BitVec 11)
  /-- BENCH_CLEAR (R520): Clears the bench log and LATCH and sets NOCOUNT. -/
  | benchClear (by_ : Requester)
  /-- REPLAY (R510): Resets the faulting core, restores the snapshot and re-releases a suspect single-member step. -/
  | replay (fn : Fin 64) (slot : BitVec 11)
  /-- DRAIN_DISCARD_END (R501): 50 us LT after the decision, every port stops and its transmitters idle. -/
  | drainDiscardEnd
  /-- RESET_RECOVERED (R493): A reset's recovery condition is met, and contexts and service state settle. -/
  | resetRecovered (level : Fin 5) (target : BitVec 11) (failed : List (Fin 1728))
  /-- RESET_ESCALATION (R498): A reset not recovered in time, or meeting another fault, escalates a level. -/
  | resetEscalation (level : Fin 5) (target : BitVec 11)
  /-- SAVE_LIST_WRITE (R513): A write of SAVE_LIST reads, checks and holds a copy of the save list. -/
  | saveListWrite (fn : Fin 64) (addr : BitVec 48)
  /-- SCRUB_READ (R311): Background scrub reads, corrects and poisons codewords and pages. -/
  | scrubRead (tier2 : Bool) (errs : List (Nat × Nat × Nat))
  /-- HOT_WINDOW_END (R290): Every 1 ms LT channel loads are compared with the mean, and hot states change. -/
  | hotWindowEnd (busy : List Nat)
  /-- HOT_REPEAT (R292): Each further full second in the hot state repeats its record. -/
  | hotRepeat (ch : Fin 256)
  /-- STACK_TEMP_SAMPLE (R293): Every 1 ms LT stack temperature is read, and the throttle level and refresh rate updated. -/
  | stackTempSample (stack : Fin 8) (temp : BitVec 8)
  /-- MEM_SALT_ROT (R295): Starts a salt rotation of a LOADED or PARKED context. -/
  | memSaltRot (fn : Fin 64) (slot : Fin 1024) (salt : BitVec 32)
  /-- SALT_ROTATION_DONE (R295): Every stripe is permuted; the new salt is stored and RESULT reads DONE. -/
  | saltRotationDone (stripes : BitVec 32)
  /-- MEM_REPAIR_REQ (R316): The host requests a tier-1 row repair. -/
  | memRepairReq (fn : Fin 64) (v : BitVec 64)
  /-- ROW_REPAIR_START (R317): An automatic or queued repair starts copying a row to a spare. -/
  | rowRepairStart
  /-- ROW_REPAIR_DONE (R317): The copy ends; the remap completes and KEEP_ROWMAP is written. -/
  | rowRepairDone
  /-- MEM_INJECT (R320): The host arms an error injection into the next whole write. -/
  | memInject (fn : Fin 64) (v : BitVec 64)
  /-- KEEP_T2_CODE_WRITE (R304): A write of the tier-2 code strength takes effect at the next full fill. -/
  | keepT2CodeWrite (fn : Fin 64) (code : BitVec 2)
  /-- MW_READ (R543): A host read of device memory or scratchpad through MW. -/
  | mwRead (fn : Fin 64) (addr : BitVec 64) (len : BitVec 13)
  /-- MW_WRITE (R543): A host write through MW, with read-merge-write for partial codewords. -/
  | mwWrite (fn : Fin 64) (addr : BitVec 64) (bytes : List Byte)
  /-- RECORD_SUBMIT (R526): An event is submitted to the recorder, stamped and merged or written. -/
  | recordSubmit (type : BitVec 10) (key : BitVec 64) (vals : List (BitVec 64)) (full : Bool)
  /-- FLOOD_SECOND_END (R527): At the end of each OPSEC second, suppressed counts are submitted as FLOOD records. -/
  | floodSecondEnd
  /-- REC_CLEAR (R531): A clear with the right KEY and SEQ discards written records and writes CLEARED. -/
  | recClear (by_ : Requester) (key : BitVec 16) (seq : BitVec 32)
  /-- OPSEC_TICK (R523): Every 1 ms LT the operating-time count is stored. -/
  | opsecTick
  /-- FUNCTION_LEVEL_RESET (R536): A function's FLR tears down its slots and resets its interrupt blocks. -/
  | functionLevelReset (fn : Fin 64)
  /-- PERST_ASSERT (R598): PERST_L holds the host port in reset and drops its link. -/
  | perstAssert
  /-- INT_MASK_WRITE (R548): Clearing a mask bit with its cause pending sends the MSI-X message. -/
  | intMaskWrite (fn block : Fin 64) (mask : BitVec 8)
  /-- KEEP_WRITE (R541): A stored write to a keep register is made durable and counted. -/
  | keepWrite (fn : Fin 64) (off : BitVec 16) (len : BitVec 13) (v : BitVec 64)
  /-- REGISTER_WRITE (R539): A CW write to a register without its own row acts under its access class and R537. -/
  | registerWrite (fn : Fin 64) (dw : Bool) (off : BitVec 26) (len : BitVec 13) (v : Option (BitVec 64))
  /-- TSL_STATUS (R570): The tray STATUS request returns the 24-byte status payload. -/
  | tslStatus (seq : BitVec 16)
  /-- IDENT (R569): Sets CHIP_ID, slot offset, SLOT_PH and RT_DELAY. -/
  | ident (seq : BitVec 16) (p : List Byte)
  /-- MEMB_READ (R569): Returns a slot's membership table entries. -/
  | membRead (seq : BitVec 16) (p : List Byte)
  /-- JOB_ABORT (R569): Aborts the slot carrying JOB. -/
  | jobAbort (seq : BitVec 16) (p : List Byte)
  /-- REC_READ (R569): Returns recorder pointers and ring bytes over the tray serial link. -/
  | recRead (seq : BitVec 16) (p : List Byte)
  /-- KEEPALIVE (R569): Returns an empty response. -/
  | keepalive (seq : BitVec 16)
  /-- TSL_FRAME_RECEIVE (R567): A tray serial frame is checked, queued, answered BUSY or deduplicated. -/
  | tslFrameReceive (bytes : List Byte)
  /-- TELEM (R571): Every 80 us RT the module sends a TELEM frame. -/
  | telem
  /-- TSL_LINK_LOST (R572): No valid rack frame for 10 ms LT; the link is lost and trajectories end. -/
  | tslLinkLost
  /-- OPERATION (R574): PMBus OPERATION reads 0x80 and refuses writes. -/
  | operation (write pecOk : Bool)
  /-- CLEAR_FAULTS (R574): PMBus command that clears the status bytes. -/
  | clearFaults (pecOk : Bool)
  /-- CAPABILITY (R574): PMBus command that returns the capabilities. -/
  | capability
  /-- STATUS_BYTE (R574): PMBus status byte read. -/
  | statusByte
  /-- STATUS_WORD (R574): PMBus status word read. -/
  | statusWord
  /-- STATUS_INPUT (R574): PMBus input status read. -/
  | statusInput
  /-- STATUS_TEMPERATURE (R574): PMBus temperature status read. -/
  | statusTemperature
  /-- STATUS_CML (R574): PMBus communication status read. -/
  | statusCml
  /-- READ_EIN (R574): Reads the bus input energy accumulator. -/
  | readEin
  /-- READ_VIN (R574): Reads the bus voltage. -/
  | readVin
  /-- READ_IIN (R574): Reads the bus current. -/
  | readIin
  /-- READ_PIN (R574): Reads the bus power. -/
  | readPin
  /-- READ_TEMPERATURE_1 (R574): Reads the highest region temperature. -/
  | readTemperature1
  /-- PMBUS_REVISION (R574): Returns 0x44. -/
  | pmbusRevision
  /-- MFR_ID (R574): Returns the manufacturer. -/
  | mfrId
  /-- MFR_MODEL (R574): Returns the model. -/
  | mfrModel
  /-- MFR_SERIAL (R574): Returns ID_SERIAL. -/
  | mfrSerial
  /-- MFR_VIN_MIN (R574): Returns 44 V. -/
  | mfrVinMin
  /-- MFR_VIN_MAX (R574): Returns 58 V. -/
  | mfrVinMax
  /-- MFR_PIN_MAX (R574): Returns 2,900 W. -/
  | mfrPinMax
  /-- MFR_PEAK_PIN (R574): Returns the rack's peak power. -/
  | mfrPeakPin
  /-- MFR_PEAK_IIN (R574): Returns the rack's peak current. -/
  | mfrPeakIin
  /-- MFR_MIN_VIN (R574): Returns the rack's minimum voltage. -/
  | mfrMinVin
  /-- MFR_PEAK_TEMP (R574): Returns the rack's peak temperature. -/
  | mfrPeakTemp
  /-- MFR_PEAK_RESET (R574): Starts a new hold of the rack's peaks. -/
  | mfrPeakReset (pecOk : Bool)
  /-- PMBUS_UNSUPPORTED (R574): An unsupported command or a write to a read-only command sets CML status. -/
  | pmbusUnsupported (pecOk : Bool)
  /-- SETDASA (R575): I3C CCC that assigns the dynamic address from the static address. -/
  | setdasa (static dyn : BitVec 7)
  /-- RSTDAA (R575): I3C CCC that resets the dynamic address. -/
  | rstdaa
  /-- ENEC (R575): I3C CCC that enables in-band interrupts. -/
  | enec (addr : Option (BitVec 7)) (events : BitVec 8)
  /-- DISEC (R575): I3C CCC that disables in-band interrupts. -/
  | disec (addr : Option (BitVec 7)) (events : BitVec 8)
  /-- GETSTATUS (R575): I3C CCC that returns status. -/
  | getstatus (addr : BitVec 7)
  /-- SENSOR_READ (R575): An index write then a two-byte read returns a sensor value. -/
  | sensorRead (addr : BitVec 7) (index : BitVec 8) (v : BitVec 16)
  /-- SENSOR_THRESHOLD_IBI (R575): A region or cartridge sensor reaches its threshold and an in-band interrupt is raised. -/
  | sensorThresholdIbi (k : Fin 4)
  /-- EXTEST (R606): JTAG boundary test, acting only in BENCHED or early INIT. -/
  | extest (pins data : BitVec 212)
  /-- IDCODE (R605): Selects the 0x1D20_0B5D identification register. -/
  | idcode
  /-- SAMPLE_PRELOAD (R605): Samples or preloads the boundary register. -/
  | samplePreload (pins data : BitVec 212)
  /-- CLAMP (R606): Clamps outputs, acting only in BENCHED or early INIT. -/
  | clamp
  /-- HIGHZ (R606): Floats outputs, acting only in BENCHED or early INIT. -/
  | highz
  /-- BYPASS (R605): Selects the bypass register. -/
  | bypass
  /-- POWER_ON (R577): The bus arrives at a module in OFF, VAUX comes up and INIT starts. -/
  | powerOn (mv : BitVec 16)
  /-- COOLANT_HOLD_CHECK (R577): Every 1 s LT during INIT the pressure drop is checked before rails start. -/
  | coolantHoldCheck (dp : BitVec 16)
  /-- INIT_TRAINING_DONE (R577): Grid test and memory training succeed, and the module enters FILLING. -/
  | initTrainingDone (regFail : List (Fin 432)) (coreFail : List (Fin 1728)) (memOk : Bool)
  /-- FILL_COMPLETE (R289): Tier fill finishes, and the module enters READY or DEGRADED. -/
  | fillComplete (tier2 : Bool) (pct : BitVec 7)
  /-- RAIL_START_TIMEOUT (R579): A rail not in window within 10 ms LT is retried or a power cycle is requested. -/
  | railStartTimeout (rail : Fin 12)
  /-- DRAIN (R588): Sets DRAINED so the module can be removed without a save. -/
  | drain (fn : Fin 64)
  /-- UNDRAIN (R588): Clears DRAINED. -/
  | undrain (fn : Fin 64)
  /-- SVC_JOIN (R586): Sets JOINED when the written epoch matches. -/
  | svcJoin (fn : Fin 64) (epoch : BitVec 24)
  /-- PWR_CYCLE_REQUEST (R563): An L4 asserts PWR_CYCLE_REQ_L after the abort and drain-discard. -/
  | pwrCycleRequest
  /-- FLOW_SAMPLE (R610): Every 1 ms LT the pressure drop is sampled, and flow loss and return are decided. -/
  | flowSample (dp : BitVec 16)
  /-- STACK_L3_TRIP (R612): A stack at throttle level 3 for 10 s LT leads to an L3 with cause THERMAL. -/
  | stackL3Trip (stack : Fin 8)
  /-- THERMAL_TRIP (R600): A region reaches 105 C; its die drops to level 1, and an L3 follows if the heat persists. -/
  | thermalTrip (region : Fin 432)
  /-- THERMAL_HOLD_RELEASE (R600): The cold plate and flow recover, and the held compute dies leave reset. -/
  | thermalHoldRelease (plate : BitVec 16) (dp : BitVec 16)
  /-- VAUX_FALL (R564): VBUS_INT falls below 30 V, the auxiliary converter stops, VAUX falls and the module enters OFF. -/
  | vauxFall
  /-- TICK_PRESENT (R200): TICK edges appear at the connector, and the rack-time counter leaves NONE for ACQUIRING. -/
  | tickPresent
  /-- PERST_RELEASE (R598): PERST_L is deasserted, the host port leaves reset and CW, DW and MW become reachable again. -/
  | perstRelease
  /-- D3HOT (R534): A function enters or leaves D3hot, stopping or resuming its decoding of CW, DW and MW. -/
  | d3hot (fn : Fin 64) (enter : Bool)
  /-- BELLOWS_RECHARGE_DONE (R364): A recharging bellows reaches full, and its state goes from RECHARGING to FULL. -/
  | bellowsRechargeDone (region : Fin 432)
  /-- REGULATOR_LIMIT_RELEASE (R617): A self-limited tied regulator has carried 8 A or less for 900 us, and its 8 A limit is lifted. -/
  | regulatorLimitRelease (region : Fin 432)
  /-- RST_CMD_DONE (R506): A DUMP or DUMP_COPY finishes writing or copying, RST_STATUS becomes final and the RST interrupt is raised. -/
  | rstCmdDone (ok : Bool)
  /-- SCRUB_PERIOD_END (R311): A scrub period ends with the pass unfinished; OVERRUNS is counted and the pass continues. -/
  | scrubPeriodEnd (tier2 : Bool)
deriving DecidableEq, Repr

end Sys2Proof
end

