-- ==== Sys2Proof/Decode.lean ====
section
/-! DEFINITION. The commands a word spells. No row of spec/opcode_table.json gives bits (the commands are events and requests
with operands), so no word of the table's numbering spells one. A syllable's 32-bit word and a bundle's 128 bits are the spec's own
encoding (R98 to R101): they are decoded here, one function per group. -/

namespace Sys2Proof

/-- The command a word of nbits spells by the table's bits: none, because no row gives any. -/
def decodeTableWord (_nbits _w : Nat) : Option Instr := none

/-! Syllables (R98 to R100). An operation code that a group does not define spells no command. -/

/-- Group 0x1 (R119 to R121): the operation that OP names. -/
def decodeGroup1 (iss : Issue) (o : BitVec 18) : Nat → Option Instr
  | 0x00 => some (.add iss o)
  | 0x01 => some (.sub iss o)
  | 0x02 => some (.and iss o)
  | 0x03 => some (.or iss o)
  | 0x04 => some (.xor iss o)
  | 0x05 => some (.shl iss o)
  | 0x06 => some (.shr iss o)
  | 0x07 => some (.sra iss o)
  | 0x08 => some (.mul iss o)
  | 0x09 => some (.mulh iss o)
  | 0x0A => some (.mulhu iss o)
  | 0x0B => some (.div iss o)
  | 0x0C => some (.divu iss o)
  | 0x0D => some (.rem iss o)
  | 0x0E => some (.remu iss o)
  | 0x0F => some (.min iss o)
  | 0x10 => some (.max iss o)
  | 0x11 => some (.minu iss o)
  | 0x12 => some (.maxu iss o)
  | 0x13 => some (.mov iss o)
  | 0x14 => some (.clz iss o)
  | 0x15 => some (.popc iss o)
  | 0x18 => some (.cmp iss o)
  | 0x20 => some (.fadd iss o)
  | 0x21 => some (.fsub iss o)
  | 0x22 => some (.fmul iss o)
  | 0x23 => some (.fma iss o)
  | 0x24 => some (.fmin iss o)
  | 0x25 => some (.fmax iss o)
  | 0x26 => some (.fcmp iss o)
  | _ => none

/-- Group 0x2 (R122): the operation that OP names. -/
def decodeGroup2 (iss : Issue) (o : BitVec 18) : Nat → Option Instr
  | 0x00 => some (.movi iss o)
  | 0x01 => some (.movk iss 0 o)
  | 0x02 => some (.movk iss 1 o)
  | 0x03 => some (.movk iss 2 o)
  | 0x04 => some (.movk iss 3 o)
  | 0x05 => some (.movk iss 4 o)
  | 0x08 => some (.addi iss o)
  | _ => none

/-- Group 0x3 (R123): the operation that OP names. -/
def decodeGroup3 (iss : Issue) (o : BitVec 18) : Nat → Option Instr
  | 0x00 => some (.ldB iss o)
  | 0x01 => some (.ldH iss o)
  | 0x02 => some (.ldW iss o)
  | 0x03 => some (.ldD iss o)
  | 0x04 => some (.ldBu iss o)
  | 0x05 => some (.ldHu iss o)
  | 0x06 => some (.ldWu iss o)
  | 0x08 => some (.stB iss o)
  | 0x09 => some (.stH iss o)
  | 0x0A => some (.stW iss o)
  | 0x0B => some (.stD iss o)
  | _ => none

/-- Group 0x4 (R117): the operation that OP names. -/
def decodeGroup4 (iss : Issue) (o : BitVec 18) : Nat → Option Instr
  | 0x00 => some (.br iss o)
  | 0x01 => some (.call iss o)
  | 0x02 => some (.jmp iss o)
  | 0x03 => some (.callr iss o)
  | 0x04 => some (.loop iss o)
  | _ => none

/-- Group 0x5 (R129): the operation that OP names. -/
def decodeGroup5 (iss : Issue) (o : BitVec 18) : Nat → Option Instr
  | 0x00 => some (.beat iss o)
  | 0x01 => some (.beatNext iss o)
  | 0x02 => some (.beatR iss o)
  | 0x04 => some (.kindleArm iss o)
  | 0x05 => some (.kindleDisarm iss o)
  | 0x08 => some (.hint iss o)
  | 0x0C => some (.statRead iss o)
  | 0x0D => some (.statClr iss o)
  | 0x10 => some (.stepend iss o)
  | 0x11 => some (.brk iss o)
  | _ => none

/-- Group 0x6 (R124): the operation that OP names. -/
def decodeGroup6 (iss : Issue) (o : BitVec 18) : Nat → Option Instr
  | 0x00 => some (.vaddF iss o)
  | 0x01 => some (.vsubF iss o)
  | 0x02 => some (.vmulF iss o)
  | 0x03 => some (.vfmaF iss o)
  | 0x04 => some (.vminF iss o)
  | 0x05 => some (.vmaxF iss o)
  | 0x06 => some (.vabsF iss o)
  | 0x07 => some (.vnegF iss o)
  | 0x10 => some (.vaddI iss o)
  | 0x11 => some (.vsubI iss o)
  | 0x12 => some (.vmulI iss o)
  | 0x13 => some (.vmadI iss o)
  | 0x14 => some (.vand iss o)
  | 0x15 => some (.vor iss o)
  | 0x16 => some (.vxor iss o)
  | 0x17 => some (.vshl iss o)
  | 0x18 => some (.vshr iss o)
  | 0x19 => some (.vsra iss o)
  | 0x1A => some (.vminI iss o)
  | 0x1B => some (.vmaxI iss o)
  | 0x20 => some (.vsel iss o)
  | _ => none

/-- Group 0x7 (R125): the operation that OP names. -/
def decodeGroup7 (iss : Issue) (o : BitVec 18) : Nat → Option Instr
  | 0x00 => some (.vld iss o)
  | 0x01 => some (.vst iss o)
  | 0x08 => some (.vperm iss o)
  | 0x09 => some (.vrot iss o)
  | 0x0A => some (.vbcast iss o)
  | 0x10 => some (.vredAddF iss o)
  | 0x11 => some (.vredAddI iss o)
  | 0x12 => some (.vredMaxF iss o)
  | 0x13 => some (.vredMinF iss o)
  | 0x14 => some (.vext iss o)
  | 0x15 => some (.vins iss o)
  | _ => none

/-- Group 0x8 (R127): the operation that OP names. -/
def decodeGroup8 (iss : Issue) (o : BitVec 18) : Nat → Option Instr
  | 0x00 => some (.vcmpF iss o)
  | 0x01 => some (.vcmpI iss o)
  | 0x08 => some (.pand iss o)
  | 0x09 => some (.por iss o)
  | 0x0A => some (.pxor iss o)
  | 0x0B => some (.pandn iss o)
  | 0x0C => some (.pmovG iss o)
  | 0x0D => some (.pmovP iss o)
  | _ => none

/-- Group 0x9 (R146): the operation that OP names. -/
def decodeGroup9 (iss : Issue) (o : BitVec 18) : Nat → Option Instr
  | 0x00 => some (.mmaKaf iss o)
  | 0x01 => some (.mmaF32 iss o)
  | 0x08 => some (.mwin iss o)
  | 0x09 => some (.mrwin iss o)
  | 0x0A => some (.mzeroF iss o)
  | 0x10 => some (.mst iss o)
  | 0x11 => some (.mstk iss o)
  | 0x12 => some (.mldk iss o)
  | _ => none

/-- Group 0xB (R158): the operation that OP names. -/
def decodeGroupB (iss : Issue) (o : BitVec 18) : Nat → Option Instr
  | 0x00 => some (.dmaLd iss o)
  | 0x01 => some (.dmaSt iss o)
  | 0x08 => some (.dmaFence iss o)
  | _ => none

/-- Group 0xC (R162): the operation that OP names. -/
def decodeGroupC (iss : Issue) (o : BitVec 18) : Nat → Option Instr
  | 0x00 => some (.send iss o)
  | 0x04 => some (.recv iss o)
  | 0x08 => some (.credit iss o)
  | _ => none

/-- Group 0xD (R165): the operation that OP names. -/
def decodeGroupD (iss : Issue) (o : BitVec 18) : Nat → Option Instr
  | 0x00 => some (.rputT iss o)
  | 0x01 => some (.rputS iss o)
  | _ => none

/-- The syllable of a group, an operation code and an operand field. Group 0x0 is NOP and is not read here (R101); CVT's OP field holds
its modifiers (R156); groups 0xE and 0xF are reserved (R99). -/
def decodeOp (iss : Issue) (grp : BitVec 4) (op : BitVec 6) (o : BitVec 18) : Option Instr :=
  match grp.toNat with
  | 0x1 => decodeGroup1 iss o op.toNat
  | 0x2 => decodeGroup2 iss o op.toNat
  | 0x3 => decodeGroup3 iss o op.toNat
  | 0x4 => decodeGroup4 iss o op.toNat
  | 0x5 => decodeGroup5 iss o op.toNat
  | 0x6 => decodeGroup6 iss o op.toNat
  | 0x7 => decodeGroup7 iss o op.toNat
  | 0x8 => decodeGroup8 iss o op.toNat
  | 0x9 => decodeGroup9 iss o op.toNat
  | 0xA => some (.cvt iss op o)
  | 0xB => decodeGroupB iss o op.toNat
  | 0xC => decodeGroupC iss o op.toNat
  | 0xD => decodeGroupD iss o op.toNat
  | _ => none

/-- The command that raw syllable bits stand for: the row of their operation, or the raw bits themselves, which are a NOP when all are
zero and an illegal instruction otherwise (R99 to R101). -/
def Instr.decoded : Instr → Instr
  | .nop iss grp op o => (decodeOp iss grp op o).getD (.nop iss grp op o)
  | i => i

/-- The syllable a 32-bit word spells in slot k of core c (R100). -/
def decodeSyllable (c : Fin 1728) (k : Fin 4) (w : BitVec 32) : Instr :=
  Instr.decoded (.nop { core := c, slot := k, pn := w.extractLsb' 19 3, neg := w.getLsbD 18, last := decide (k = 3) }
    (w.extractLsb' 28 4) (w.extractLsb' 22 6) (w.extractLsb' 0 18))

/-- R98: syllable k of a 128-bit bundle is bits [32k + 31:32k]. -/
def decodeBundle (c : Fin 1728) (b : BitVec 128) : List Instr :=
  [0, 1, 2, 3].map fun k : Fin 4 => decodeSyllable c k (b.extractLsb' (32 * k.val) 32)

end Sys2Proof
end

