-- ==== Sys2Proof/Config.lean ====
section
/-! DEFINITION. What the spec leaves open: constants with no body, so that no proof can see a value of them. -/

namespace Sys2Proof.Config

/-- The n-th open value a run takes, where the spec names a value and does not say which (log entry 1). -/
opaque freeNat : Nat → Nat

/-- The sign of an FP32 sum that is zero and whose terms are not both zeros of one sign: the rounding-mode code, and
the significand and exponent of the first term. No rule states it (log entry 5). -/
opaque zeroSumNegative : BitVec 2 → Nat → Int → Bool

/-- The significand bits that R47 and R169 leave to a tile that an MMA with unreadable operands leaves undefined (log entry 6). -/
opaque undefinedTileElement : Nat → Nat → BitVec 128

/-- A byte of device memory that a rule leaves undefined (R296, R301, R303, R327): the range's number and the byte's device address. -/
opaque undefByte : Nat → Nat → BitVec 8

/-- Whether a quotient that is shown as a whole number is rounded up, where no rule says (log entry 14). -/
opaque roundsUp : Int → Nat → Bool

/-- A value of a record that no rule names, of the record with this SEQ and TYPE: the fixed count of R524 has room for it (log entry 16). -/
opaque recordValue : Nat → Nat → Nat → Nat

/-- Pseudo-channel, bank and row of a codeword in a tier-1 channel (R321 gives the fields and no rule places an address). -/
opaque tier1Row : Nat → Nat → BitVec 22

/-- Whether the first symbol of a codeword is the coefficient of x^0 or of the highest power, in tier 1 (false) and tier 2 (true): R299 and
R302 give the symbols in order and no degrees (log entry 73). -/
opaque symbolsAscend : Bool → Bool

end Sys2Proof.Config
end

