-- ==== Sys2Proof/Machine/Table.lean ====
section
/-! DEFINITION. Sparse tables in one canonical form: the register files, memories and per-unit records of the module are
lists of (key, value) pairs with rising keys, and a key that is not listed reads as the table's default. -/

namespace Sys2Proof.Machine

/-- A quotient shown as a whole number: exact where it is one, and next to it otherwise, on the side that no rule states (log entry 14). -/
def openDiv (n d : Nat) : Nat := n / d + if n % d ≠ 0 ∧ Config.roundsUp n d = true then 1 else 0
def openDivInt (n : Int) (d : Nat) : Int := if n < 0 then -(openDiv n.natAbs d : Int) else openDiv n.natAbs d

/-- What key `k` of the table reads as; `d` is what an unlisted key reads as. -/
def Tbl.get {α : Type} (d : α) : Tbl α → Nat → α
  | [], _ => d
  | (k, v) :: t, n => if n = k then v else Tbl.get d t n

/-- The table with key `n` holding `v`. The canonical form is kept: an entry equal to the default is not listed. -/
def Tbl.set {α : Type} [DecidableEq α] (d : α) : Tbl α → Nat → α → Tbl α
  | [], n, v => if v = d then [] else [(n, v)]
  | (k, w) :: t, n, v =>
    if n = k then (if v = d then Tbl.set d t n v else (n, v) :: t)
    else if n < k ∧ v ≠ d then (n, v) :: (k, w) :: t
    else (k, w) :: Tbl.set d t n v

/-- The table with key `k` changed by `f`. -/
def Tbl.update {α : Type} [DecidableEq α] (d : α) (t : Tbl α) (k : Nat) (f : α → α) : Tbl α :=
  Tbl.set d t k (f (Tbl.get d t k))

/-- The canonical form, with every key at least `lo`. -/
def Tbl.wfFrom {α : Type} [DecidableEq α] (d : α) : Nat → Tbl α → Bool
  | _, [] => true
  | lo, (k, v) :: t => decide (lo ≤ k) && decide (v ≠ d) && Tbl.wfFrom d (k + 1) t

/-- The canonical form of a table: keys strictly rising, no entry equal to the default. -/
def Tbl.wf {α : Type} [DecidableEq α] (d : α) (t : Tbl α) : Bool := Tbl.wfFrom d 0 t

end Sys2Proof.Machine
end

