-- ==== Sys2Proof/Machine/Bytes.lean ====
section
/-! DEFINITION. Byte memories and byte order (R6: little-endian), and bit fields. A memory is a list of Host.Cell in the
canonical form of tables; a byte nothing has written reads as zero (R212, R289). -/

namespace Sys2Proof.Machine

/-- A byte memory. -/
abbrev Mem := List Host.Cell

/-- The canonical form of a memory. -/
abbrev Memory.wf (m : Mem) : Prop := Tbl.wf (0#8) m = true

def Mem.read8 (m : Mem) (a : Nat) : Byte := Tbl.get 0#8 m a

def Mem.write8 (m : Mem) (a : Nat) (b : Byte) : Mem := Tbl.set 0#8 m a b

/-- n bytes from address a, lowest first. -/
def Mem.read (m : Mem) (a : Nat) : Nat → List Byte
  | 0 => []
  | n + 1 => Mem.read8 m a :: Mem.read m (a + 1) n

/-- Bytes stored from address a upward. -/
def Mem.write (m : Mem) (a : Nat) : List Byte → Mem
  | [] => m
  | b :: bs => Mem.write (Mem.write8 m a b) (a + 1) bs

/-- A little-endian number. -/
def leNat : List Byte → Nat
  | [] => 0
  | b :: bs => b.toNat + 256 * leNat bs

/-- The n little-endian bytes of a number. -/
def toLE : Nat → Nat → List Byte
  | 0, _ => []
  | n + 1, x => BitVec.ofNat 8 x :: toLE n (x / 256)

/-- The n-byte little-endian number at address a. -/
def Mem.readLE (m : Mem) (a n : Nat) : Nat := leNat (Mem.read m a n)

/-- Bits [hi : lo] of a number. -/
def bits (x hi lo : Nat) : Nat := (x >>> lo) % 2 ^ (hi + 1 - lo)

/-- One bit of a number. -/
def bit (x i : Nat) : Bool := x.testBit i

/-- A number as a field at bit lo. -/
def field (x width lo : Nat) : Nat := (x % 2 ^ width) <<< lo

/-- A count in a field of n bits, where it saturates. -/
def satField (x n lo : Nat) : Nat := field (min (2 ^ n - 1) x) n lo

/-- A flag as a field at bit lo. -/
def flag1 (b : Bool) (lo : Nat) : Nat := if b then 2 ^ lo else 0

/-- One bit of a CRC-8 with polynomial x^8 + x^2 + x + 1 (R367). -/
def crc8Step (c : Nat) (b : Bool) : Nat := (c * 2 % 256) ^^^ (if c.testBit 7 != b then 7 else 0)

/-- R367: the CRC-8 of the n low bits of a number, initial value 0, the most significant bit first (the bit order is log entry 145). -/
def crc8 (n x : Nat) : Nat := (List.range n).foldl (fun c i => crc8Step c (x.testBit (n - 1 - i))) 0

/-- A saturating sum. -/
def satAdd (top x n : Nat) : Nat := if top ≤ x + n then top else x + n

end Sys2Proof.Machine
end

