-- ==== Sys2Proof/Machine/ReedSolomon.lean ====
section
/-! DEFINITION. The Reed-Solomon codes of device memory (R298 to R303): the fields GF(2^8) and GF(2^12), the coded forms, and a decoder
that corrects what lies within t symbols of a codeword. A pattern of bad symbols is a table from a symbol's place to the bits that differ;
the codes are linear, so what a decoder does depends on that pattern alone. -/

namespace Sys2Proof.Machine

/-- A field GF(2^m) with its field polynomial; α is 2. -/
structure Gf where
  m : Nat
  poly : Nat
deriving DecidableEq, Repr

def Gf.double (F : Gf) (a : Nat) : Nat := if a.testBit (F.m - 1) then (2 * a) ^^^ F.poly else 2 * a

/-- The product by the n low bits of b. -/
def Gf.mulBits (F : Gf) : Nat → Nat → Nat → Nat
  | 0, _, _ => 0
  | n + 1, a, b => (if b % 2 = 1 then a else 0) ^^^ F.mulBits n (F.double a) (b / 2)

def Gf.mul (F : Gf) (a b : Nat) : Nat := F.mulBits F.m a b

/-- a to the power of the n low bits of e. -/
def Gf.powBits (F : Gf) : Nat → Nat → Nat → Nat
  | 0, _, _ => 1
  | n + 1, a, e => F.mul (if e % 2 = 1 then a else 1) (F.powBits n (F.mul a a) (e / 2))

def Gf.pow (F : Gf) (a e : Nat) : Nat := F.powBits F.m a (e % (2 ^ F.m - 1))
def Gf.inv (F : Gf) (a : Nat) : Nat := F.pow a (2 ^ F.m - 2)

/-- α to a power, negative ones too. -/
def Gf.alpha (F : Gf) (e : Int) : Nat := F.pow 2 (e % (2 ^ F.m - 1 : Int)).toNat

/-- The value of a polynomial, lowest coefficient first. -/
def Gf.eval (F : Gf) (p : List Nat) (x : Nat) : Nat := p.foldr (fun c v => c ^^^ F.mul v x) 0

/-- A code: its symbols, its check symbols with the generator's first root, the errors it corrects, and whether symbol i is the coefficient
of x^i or of x^(size − 1 − i), which R299 and R302 leave open (log entry 73). -/
structure RsCode where
  gf : Gf
  size : Nat
  checks : Nat
  root : Nat
  t : Nat
  ascend : Bool
deriving DecidableEq, Repr

/-- R298, R299: symbols 0 to 71 as they are stored, and 72 to 77 the six virtual ones, which are coded before them. -/
def code1 : RsCode := { gf := { m := 8, poly := 0x11D }, size := 78, checks := 6, root := 0, t := 2, ascend := Config.symbolsAscend false }

/-- R302: 2731 data symbols and 2t parity symbols. -/
def code2 (t : Nat) : RsCode :=
  { gf := { m := 12, poly := 0x1053 }, size := 2731 + 2 * t, checks := 2 * t, root := 1, t, ascend := Config.symbolsAscend true }

/-- The place in the codeword of tier 1's symbol i. -/
def place1 (i : Nat) : Nat := if i < 72 then i + 6 else i - 72
def symbol1 (p : Nat) : Nat := if p < 6 then p + 72 else p - 6

def RsCode.degree (c : RsCode) (p : Nat) : Nat := if c.ascend then p else c.size - 1 - p

/-- The syndromes of a pattern by place. -/
def RsCode.syndromes (c : RsCode) (e : Tbl Nat) : List Nat :=
  (List.range c.checks).map fun j => e.foldl (fun s x => s ^^^ c.gf.mul x.2 (c.gf.alpha ((c.root + j) * c.degree x.1 : Nat))) 0

/-- p − f · x^k · q over the field. -/
def Gf.sub (F : Gf) (p : List Nat) (f k : Nat) (q : List Nat) : List Nat :=
  (List.range (max p.length (q.length + k))).map fun i => p.getD i 0 ^^^ (if k ≤ i then F.mul f (q.getD (i - k) 0) else 0)

/-- The state of the Berlekamp–Massey recursion. -/
structure Massey where
  c : List Nat
  b : List Nat
  len : Nat
  gap : Nat
  last : Nat
deriving DecidableEq, Repr

def Gf.masseyStep (F : Gf) (s : List Nat) (z : Massey) (n : Nat) : Massey :=
  let d := (List.range (z.len + 1)).foldl (fun v i => v ^^^ F.mul (z.c.getD i 0) (s.getD (n - i) 0)) 0
  if d = 0 then { z with gap := z.gap + 1 }
  else
    let c := F.sub z.c (F.mul d (F.inv z.last)) z.gap z.b
    if 2 * z.len ≤ n then { c, b := z.c, len := n + 1 - z.len, gap := 1, last := d } else { z with c, gap := z.gap + 1 }

/-- The shortest register that makes the syndromes: the error locator. -/
def Gf.locator (F : Gf) (s : List Nat) : Massey :=
  (List.range s.length).foldl (F.masseyStep s) { c := [1], b := [1], len := 0, gap := 1, last := 1 }

/-- The value of the error at a place, from the locator and the syndromes. -/
def RsCode.magnitude (c : RsCode) (s lam : List Nat) (p : Nat) : Nat :=
  let F := c.gf
  let x := F.alpha (-(c.degree p : Int))
  let omega := (List.range c.checks).map fun i => (List.range (i + 1)).foldl (fun v k => v ^^^ F.mul (s.getD (i - k) 0) (lam.getD k 0)) 0
  let slope := (List.range lam.length).map fun i => if i % 2 = 0 then lam.getD (i + 1) 0 else 0
  F.mul (F.mul (F.alpha ((1 - (c.root : Int)) * c.degree p)) (F.eval omega x)) (F.inv (F.eval slope x))

/-- The pattern of at most t symbols with these syndromes, if there is one. -/
def RsCode.solve (c : RsCode) (s : List Nat) : Option (Tbl Nat) :=
  let z := c.gf.locator s
  if c.t < z.len then none
  else
    let ps := (List.range c.size).filter fun p => decide (c.gf.eval z.c (c.gf.alpha (-(c.degree p : Int))) = 0)
    let e : Tbl Nat := ps.map fun p => (p, c.magnitude s z.c p)
    if ps.length = z.len ∧ c.syndromes e = s then some e else none

/-- R301, R303: what the decoder takes for the bad symbols. Up to t of them are seen as they are; more are reported, but where the word lies
within t symbols of another codeword, which the distance rules out up to checks − t. -/
def RsCode.decode (c : RsCode) (e : Tbl Nat) : Option (Tbl Nat) :=
  if e.length ≤ c.t then some e else if e.length + c.t ≤ c.checks then none else c.solve (c.syndromes e)

/-- Two patterns laid over each other. -/
def joinErr (e d : Tbl Nat) : Tbl Nat := d.foldl (fun t x => Tbl.update 0 t x.1 (· ^^^ x.2)) e

/-- A pattern with its places renamed. -/
def renameErr (f : Nat → Nat) (e : Tbl Nat) : Tbl Nat := e.foldl (fun t x => Tbl.set 0 t (f x.1) x.2) []

/-- R301: a codeword's decode, by the symbols of R298. -/
def decodeWord (e : Tbl Nat) : Option (Tbl Nat) := (code1.decode (renameErr place1 e)).map (renameErr symbol1)

/-- R303: a page's decode. -/
def decodePage (t : Nat) (e : Tbl Nat) : Option (Tbl Nat) := (code2 t).decode e

/-! The coded forms (R298, R302). -/

/-- The remainder of a message, highest coefficient first, by a generator without its leading 1. -/
def Gf.remainder (F : Gf) (gen msg : List Nat) : List Nat :=
  msg.foldl (fun r m =>
    let f := m ^^^ r.headD 0
    (List.range gen.length).map fun i => r.getD (i + 1) 0 ^^^ F.mul f (gen.getD i 0)) (List.replicate gen.length 0)

/-- The generator's coefficients below its leading 1, highest first. -/
def RsCode.generator (c : RsCode) : List Nat :=
  ((List.range c.checks).foldl (fun g j => c.gf.sub (0 :: g) (c.gf.alpha (c.root + j : Nat)) 0 g) [1]).reverse.drop 1

/-- The check symbols of a message in the order of its symbols, the checks after it: with the degrees rising, the reversed generator divides
the message from the other end. -/
def RsCode.checkSymbols (c : RsCode) (msg : List Nat) : List Nat :=
  if c.ascend then
    let g := 1 :: c.generator
    let low := c.gf.inv (g.getD c.checks 0)
    c.gf.remainder ((g.reverse.drop 1).map (c.gf.mul low)) msg
  else c.gf.remainder c.generator msg

/-- R298 to R300: the 72 stored symbols of the codeword at address a. -/
def codeWord1 (a : Nat) (data : List Byte) (poison : Bool) : List Nat :=
  let stored := data.map BitVec.toNat ++ [flag1 poison 0, 0]
  let virt := (List.range 6).map fun i => a / 64 / 256 ^ (5 - i) % 256
  stored ++ code1.checkSymbols (virt ++ stored)

/-- R302: the data and parity symbols of a page. -/
def codeWord2 (t : Nat) (data : List Byte) : List Nat :=
  let x := leNat data
  let ms := (List.range 2731).map fun i => bits x (12 * i + 11) (12 * i)
  ms ++ (code2 t).checkSymbols ms

end Sys2Proof.Machine
end

