-- ==== Sys2Proof/Machine/Numeric.lean ====
section
/-! DEFINITION. The eight element formats: exact values, decoding, rounding and encoding (R28 to R45), and exact arithmetic
on FP32 (R121). -/

namespace Sys2Proof.Machine

/-- The eight element formats, in the order of their codes (R28). -/
inductive Fmt where
  | fp32 | fp16 | bf16 | e4m3 | e5m2 | e3m2 | e2m1 | int8
deriving DecidableEq, Repr

/-- R28: a code from 0x8 to 0xF names no format. -/
def Fmt.ofCode (c : Nat) : Option Fmt :=
  match c with
  | 0 => some .fp32 | 1 => some .fp16 | 2 => some .bf16 | 3 => some .e4m3
  | 4 => some .e5m2 | 5 => some .e3m2 | 6 => some .e2m1 | 7 => some .int8
  | _ => none

/-- R28: the width in bits. -/
def Fmt.width : Fmt → Nat
  | .fp32 => 32 | .fp16 => 16 | .bf16 => 16 | .e4m3 => 8 | .e5m2 => 8 | .e3m2 => 6 | .e2m1 => 4 | .int8 => 8

/-- R28: whether a block scale is allowed. -/
def Fmt.scalable : Fmt → Bool
  | .fp32 | .fp16 | .bf16 => false
  | _ => true

/-- R30: the mantissa width; unused for INT8. -/
def Fmt.mant : Fmt → Nat
  | .fp32 => 23 | .fp16 => 10 | .bf16 => 7 | .e4m3 => 3 | .e5m2 => 2 | .e3m2 => 2 | .e2m1 => 1 | .int8 => 7

/-- R30: the exponent width; unused for INT8. -/
def Fmt.expBits : Fmt → Nat
  | .fp32 => 8 | .fp16 => 5 | .bf16 => 8 | .e4m3 => 4 | .e5m2 => 5 | .e3m2 => 3 | .e2m1 => 2 | .int8 => 0

/-- R30: the exponent bias; unused for INT8. -/
def Fmt.bias : Fmt → Int
  | .fp32 => 127 | .fp16 => 15 | .bf16 => 127 | .e4m3 => 7 | .e5m2 => 15 | .e3m2 => 3 | .e2m1 => 1 | .int8 => 0

/-- R31: whether the format has infinities. -/
def Fmt.hasInf : Fmt → Bool
  | .fp32 | .fp16 | .bf16 | .e5m2 => true
  | _ => false

/-- R32: the canonical NaN, where the format has NaN. -/
def Fmt.nanCode : Fmt → Option Nat
  | .fp32 => some 0x7FC00000 | .fp16 => some 0x7E00 | .bf16 => some 0x7FC0
  | .e5m2 => some 0x7E | .e4m3 => some 0x7F | _ => none

/-- The magnitude code of the largest finite value (R30, R31, R39). -/
def Fmt.maxCode : Fmt → Nat
  | .fp32 => 0x7F7FFFFF | .fp16 => 0x7BFF | .bf16 => 0x7F7F | .e4m3 => 0x7E
  | .e5m2 => 0x7B | .e3m2 => 0x1F | .e2m1 => 0x7 | .int8 => 0x7F

/-- The magnitude code of infinity, where the format has one (R31). -/
def Fmt.infCode (f : Fmt) : Nat := (2 ^ f.expBits - 1) * 2 ^ f.mant

/-- R44: emax of a scaled format. -/
def Fmt.emax : Fmt → Int
  | .e4m3 => 8 | .e5m2 => 15 | .e3m2 => 4 | .e2m1 => 2 | _ => 0

/-- R18: the MAC rate of a format per engine cycle. -/
def Fmt.macRate : Fmt → Nat
  | .fp32 => 128 | .fp16 | .bf16 => 512 | .e4m3 | .e5m2 | .int8 => 1024 | .e3m2 | .e2m1 => 2048

/-- The exact value a code denotes: a dyadic number keeps the sign of a zero. -/
inductive FVal where
  | nan
  | inf (neg : Bool)
  | fin (neg : Bool) (m : Nat) (e : Int)
deriving DecidableEq, Repr

/-- The four rounding modes (R40). -/
inductive RMode where
  | rne | rtz | rdn | rup
deriving DecidableEq, Repr

def RMode.ofBits (b : BitVec 2) : RMode :=
  match b.toNat with
  | 0 => .rne | 1 => .rtz | 2 => .rdn | _ => .rup

/-- A flag byte (R64). -/
abbrev FlagByte := BitVec 8

def flINVALID : FlagByte := 0x01#8
def flOVERFLOW : FlagByte := 0x02#8
def flUNDERFLOW : FlagByte := 0x04#8
def flINEXACT : FlagByte := 0x08#8
def flTERMSAT : FlagByte := 0x10#8
def flTRUNC : FlagByte := 0x20#8
def flHEADROOM : FlagByte := 0x40#8
def flNANIN : FlagByte := 0x80#8

/-- A flag if a condition holds. -/
def flagIf (c : Bool) (f : FlagByte) : FlagByte := if c then f else 0#8

/-- `m × 2^e` shifted by a power of two. -/
def FVal.scale (v : FVal) (x : Int) : FVal :=
  match v with
  | .fin s m e => .fin s m (e + x)
  | w => w

def FVal.isNan : FVal → Bool
  | .nan => true
  | _ => false

def FVal.isInf : FVal → Bool
  | .inf _ => true
  | _ => false

/-- Decoding of a floating-point code (R30, R31, R33). -/
def decodeFloat (f : Fmt) (code : Nat) : FVal :=
  let neg := code.testBit (f.width - 1)
  let ef := (code >>> f.mant) % 2 ^ f.expBits
  let mf := code % 2 ^ f.mant
  if ef = 2 ^ f.expBits - 1 ∧ f.hasInf then (if mf = 0 then .inf neg else .nan)
  else if f = .e4m3 ∧ ef = 15 ∧ mf = 7 then .nan
  else if ef = 0 then .fin neg mf (1 - f.bias - f.mant)
  else .fin neg (mf + 2 ^ f.mant) ((ef : Int) - f.bias - f.mant)

/-- Decoding of an element, with its block's E8M0 scale code where it has one (R34, R36 to R38). -/
def decodeElem (f : Fmt) (code : Nat) (scale : Option Nat) : FVal :=
  match scale with
  | some 255 => .nan
  | _ =>
    let x : Int := match scale with
      | some c => (c : Int) - 127
      | none => 0
    match f with
    | .int8 =>
      let i : Int := (BitVec.ofNat 8 code).toInt
      .fin (decide (i < 0)) i.natAbs (if scale.isSome then x - 6 else 0)
    | _ => (decodeFloat f (code % 2 ^ f.width)).scale x

/-- `m × 2^e` in units of `2^q`, rounded to an integer magnitude (R40), and whether that is inexact. -/
def roundTo (mode : RMode) (neg : Bool) (m : Nat) (e q : Int) : Nat × Bool :=
  if q ≤ e then (m <<< (e - q).toNat, false)
  else
    let k := (q - e).toNat
    let n := m >>> k
    let r := m % 2 ^ k
    if r = 0 then (n, false)
    else
      let half := 2 ^ (k - 1)
      let up := match mode with
        | .rne => decide (half < r) || (decide (r = half) && decide (n % 2 = 1))
        | .rtz => false
        | .rdn => neg
        | .rup => !neg
      (if up then n + 1 else n, true)

/-- The code of a magnitude code with its sign. -/
def signed (f : Fmt) (neg : Bool) (mag : Nat) : Nat := if neg then mag + 2 ^ (f.width - 1) else mag

/-- R39, R41: the code of a value beyond the largest finite one. -/
def overflowCode (f : Fmt) (mode : RMode) (sat neg : Bool) : Nat :=
  let toInf := f.hasInf && !sat && (match mode with
    | .rne => true
    | .rtz => false
    | .rdn => neg
    | .rup => !neg)
  signed f neg (if toInf then f.infCode else f.maxCode)

/-- R39, R42, R43: the encoding of an exact value into INT8; a scaled element counts units of 2^-6. -/
def encodeInt8 (mode : RMode) (scaled : Bool) : FVal → Nat × FlagByte
  | .nan => (0x00, flINVALID)
  | .inf neg => (if neg then 0x80 else 0x7F, flOVERFLOW ||| flINEXACT)
  | .fin neg m e =>
    if m = 0 then (0, 0#8)
    else
      let (n, inexact) := roundTo mode neg m (if scaled then e + 6 else e) 0
      if (!neg && decide (127 < n)) || (neg && decide (128 < n)) then
        (if neg then 0x80 else 0x7F, flOVERFLOW ||| flINEXACT)
      else
        ((if neg then (256 - n) % 256 else n),
         flagIf inexact flINEXACT ||| flagIf (decide (n = 0)) flUNDERFLOW)

/-- R39 to R42: the encoding of an exact value into a floating-point format, and the flags of R64. NANIN belongs to the
operand that was read and is set where it is decoded. An infinity that becomes the largest finite value differs from its exact value
and is INEXACT too; a NaN that becomes a zero is INVALID only (log entry 50). -/
def encodeFloat (f : Fmt) (mode : RMode) (sat : Bool) : FVal → Nat × FlagByte
  | .nan => match f.nanCode with
    | some c => (c, 0#8)
    | none => (0, flINVALID)
  | .inf neg =>
    if f.hasInf && !sat then (signed f neg f.infCode, 0#8) else (signed f neg f.maxCode, flOVERFLOW ||| flINEXACT)
  | .fin neg m e =>
    if m = 0 then (signed f neg 0, 0#8)
    else
      let top : Int := e + (m.log2 : Int)
      let emin : Int := 1 - f.bias
      let q : Int := (if top < emin then emin else top) - f.mant
      let (n, inexact) := roundTo mode neg m e q
      let (n, q) := if 2 ^ (f.mant + 1) ≤ n then (n / 2, q + 1) else (n, q)
      let mag : Nat := if n < 2 ^ f.mant then n else ((q + f.mant + f.bias).toNat * 2 ^ f.mant) + (n - 2 ^ f.mant)
      if f.maxCode < mag then (overflowCode f mode sat neg, flOVERFLOW ||| flINEXACT)
      else (signed f neg mag,
        flagIf inexact flINEXACT ||| flagIf (inexact && decide (n < 2 ^ f.mant)) flUNDERFLOW)

/-- R39: conversion of an exact value into a format. -/
def encode (f : Fmt) (mode : RMode) (sat scaled : Bool) (v : FVal) : Nat × FlagByte :=
  match f with
  | .int8 => encodeInt8 mode scaled v
  | _ => encodeFloat f mode sat v

/-- The exponent of the leading bit of a non-zero finite value. -/
def FVal.topBit : FVal → Option Int
  | .fin _ m e => if m = 0 then none else some (e + (m.log2 : Int))
  | _ => none

/-- The larger of two optional exponents. -/
def maxTop (a : Option Int) (v : FVal) : Option Int :=
  match a, v.topBit with
  | some x, some y => some (if x < y then y else x)
  | some x, none => some x
  | none, b => b

def clampInt (lo hi x : Int) : Int := if x < lo then lo else if hi < x then hi else x

/-- R44: one scaled block: the scale code, the element codes, the flags. -/
def convertBlock (f : Fmt) (mode : RMode) (vs : List FVal) : Nat × List Nat × FlagByte :=
  if vs.any FVal.isNan || vs.any FVal.isInf then
    (0xFF, vs.map fun _ => 0, flagIf (vs.any FVal.isNan) flINVALID ||| flagIf (vs.any FVal.isInf) flOVERFLOW)
  else
    let x : Int := match vs.foldl maxTop none with
      | none => -127
      | some t => clampInt (-127) 127 (t - f.emax)
    let es := vs.map fun v => encode f mode true true (v.scale (-x))
    ((x + 127).toNat, es.map Prod.fst, es.foldl (fun a e => a ||| e.2) 0#8)

/-! Exact arithmetic: a result and the INVALID and NANIN flags it raises. -/

def FVal.neg : FVal → FVal
  | .nan => .nan
  | .inf s => .inf !s
  | .fin s m e => .fin (!s) m e

/-- An exact product (R52, R64: zero times infinity is INVALID). -/
def FVal.mul (a b : FVal) : FVal × FlagByte :=
  match a, b with
  | .nan, _ => (.nan, 0#8)
  | _, .nan => (.nan, 0#8)
  | .inf s, .inf t => (.inf (s != t), 0#8)
  | .inf s, .fin t m _ => if m = 0 then (.nan, flINVALID) else (.inf (s != t), 0#8)
  | .fin s m _, .inf t => if m = 0 then (.nan, flINVALID) else (.inf (s != t), 0#8)
  | .fin s m e, .fin t n k => (.fin (s != t) (m * n) (e + k), 0#8)

/-- A signed integer magnitude. -/
def sgn (s : Bool) (m : Nat) : Int := if s then -(m : Int) else m

/-- An exact sum (R64: infinity minus infinity is INVALID). The sign of a zero sum of two zeros of one sign is theirs;
of any other zero sum it is the open value `Config.zeroSumNegative` (log entry 5). -/
def FVal.add (mode : BitVec 2) (a b : FVal) : FVal × FlagByte :=
  match a, b with
  | .nan, _ => (.nan, 0#8)
  | _, .nan => (.nan, 0#8)
  | .inf s, .inf t => if s = t then (.inf s, 0#8) else (.nan, flINVALID)
  | .inf s, .fin _ _ _ => (.inf s, 0#8)
  | .fin _ _ _, .inf t => (.inf t, 0#8)
  | .fin s m e, .fin t n k =>
    let q := if e < k then e else k
    let x := sgn s m * 2 ^ (e - q).toNat + sgn t n * 2 ^ (k - q).toNat
    if x = 0 then
      (.fin (if m = 0 ∧ n = 0 ∧ s = t then s else Config.zeroSumNegative mode m e) 0 0, 0#8)
    else (.fin (decide (x < 0)) x.natAbs q, 0#8)

/-- The order of two values that are not NaN, as the sign of their difference; -0 equals +0. -/
def FVal.diffSign (a b : FVal) : Int :=
  match a, b with
  | .inf s, .inf t => if s = t then 0 else if s then -1 else 1
  | .inf s, _ => if s then -1 else 1
  | _, .inf t => if t then 1 else -1
  | .fin s m e, .fin t n k =>
    let q := if e < k then e else k
    (sgn s m * 2 ^ (e - q).toNat - sgn t n * 2 ^ (k - q).toNat).sign
  | _, _ => 0

/-! FP32 operations on bit patterns (R121). -/

/-- NANIN when an FP32 operand is NaN (R64). -/
def nanIn (v : FVal) : FlagByte := flagIf v.isNan flNANIN

def fp (b : BitVec 32) : FVal := decodeFloat .fp32 b.toNat

/-- The FP32 code of an exact result, with the flags of the result and of the operation. -/
def fpResult (mode : BitVec 2) (r : FVal × FlagByte) (fl : FlagByte) : BitVec 32 × FlagByte :=
  let c := encodeFloat .fp32 (RMode.ofBits mode) false r.1
  (BitVec.ofNat 32 c.1, c.2 ||| r.2 ||| fl)

def fpAdd (mode : BitVec 2) (a b : BitVec 32) : BitVec 32 × FlagByte :=
  fpResult mode (FVal.add mode (fp a) (fp b)) (nanIn (fp a) ||| nanIn (fp b))

def fpSub (mode : BitVec 2) (a b : BitVec 32) : BitVec 32 × FlagByte :=
  fpResult mode (FVal.add mode (fp a) (fp b).neg) (nanIn (fp a) ||| nanIn (fp b))

def fpMul (mode : BitVec 2) (a b : BitVec 32) : BitVec 32 × FlagByte :=
  fpResult mode (FVal.mul (fp a) (fp b)) (nanIn (fp a) ||| nanIn (fp b))

/-- `d + a × b`, rounded once (R119). A product 0 × Inf sets INVALID whatever the addend, a NaN one included (log entry 141). -/
def fpFma (mode : BitVec 2) (d a b : BitVec 32) : BitVec 32 × FlagByte :=
  let p := FVal.mul (fp a) (fp b)
  fpResult mode (FVal.add mode (fp d) p.1) (p.2 ||| nanIn (fp d) ||| nanIn (fp a) ||| nanIn (fp b))

/-- The canonical FP32 NaN (R32). -/
def fpNan : BitVec 32 := 0x7FC00000#32

/-- minimumNumber and maximumNumber with -0 below +0 (R119, R121); `big` selects the maximum. -/
def fpPick (big : Bool) (a b : BitVec 32) : BitVec 32 × FlagByte :=
  let x := fp a
  let y := fp b
  if x.isNan && y.isNan then (fpNan, flNANIN)
  else if x.isNan then (b, flNANIN)
  else if y.isNan then (a, flNANIN)
  else
    let d := FVal.diffSign x y
    let aBelow := decide (d < 0) || (decide (d = 0) && a.msb)
    (if aBelow != big then a else b, 0#8)

def fpMin (a b : BitVec 32) : BitVec 32 × FlagByte := fpPick false a b
def fpMax (a b : BitVec 32) : BitVec 32 × FlagByte := fpPick true a b

/-- FCMP and VCMP.F: mod 0 EQ, 1 NE, 2 LT, 3 LE, 4 UN (R119, R121, R127); NANIN on a NaN operand. -/
def fpCompare (mod : Nat) (a b : BitVec 32) : Bool × FlagByte :=
  let x := fp a
  let y := fp b
  if x.isNan || y.isNan then (decide (mod = 1 ∨ mod = 4), flNANIN)
  else
    let d := FVal.diffSign x y
    (match mod with
      | 0 => decide (d = 0)
      | 1 => decide (d ≠ 0)
      | 2 => decide (d < 0)
      | 3 => decide (d ≤ 0)
      | _ => false, 0#8)

end Sys2Proof.Machine
end

