-- ==== Sys2Proof/Machine/Kaf.lean ====
section
/-! DEFINITION. KAF, the accumulation format: placement, exact sums, re-windowing, float mode and conversion out (R46 to R63). -/

namespace Sys2Proof.Machine

/-- What a KAF encoding denotes (R47). -/
inductive KafVal where
  | fin (E : Int) (S : Int)
  | nan
  | inf (neg : Bool)
  | flt (bits : BitVec 32)
  | malformed
deriving DecidableEq, Repr

/-- The window exponents a finite KAF may have (R47). -/
def windowOk (E : Int) : Bool := decide (-400 ≤ E) && decide (E ≤ 300)

/-- The exponent field read as a signed integer (R46). -/
def kafExp (k : KafBits) : Int := (k.extractLsb' 112 16).toInt

/-- Reading a KAF (R46 to R48). -/
def kafRead (k : KafBits) : KafVal :=
  let E := kafExp k
  if windowOk E then .fin E (k.extractLsb' 0 112).toInt
  else if E = -32768 then .nan
  else if E = -32767 then .inf false
  else if E = -32766 then .inf true
  else if E = -32765 then .flt (k.extractLsb' 0 32)
  else .malformed

/-- The encoding of a KAF: S is taken modulo 2^112 (R51), unused significand bits are zero (R48). -/
def kafWrite : KafVal → KafBits
  | .fin E S => BitVec.ofInt 16 E ++ BitVec.ofInt 112 S
  | .nan => 0x8000#16 ++ 0#112
  | .inf false => 0x8001#16 ++ 0#112
  | .inf true => 0x8002#16 ++ 0#112
  | .flt b => 0x8003#16 ++ (0#80 ++ b)
  | .malformed => 0x8000#16 ++ 0#112

/-- The largest placed term (R50). -/
def termMax : Nat := 2 ^ 104 - 1

/-- R50: the placed integer of `(-1)^neg × m × 2^e` on window E, and its flags. -/
def placeTerm (neg : Bool) (m : Nat) (e E : Int) : Int × FlagByte :=
  let t : Nat := if E ≤ e then m <<< (e - E).toNat else m >>> (E - e).toNat
  let lost : Bool := decide (e < E) && decide (m % 2 ^ (E - e).toNat ≠ 0)
  if termMax < t then (sgn neg termMax, flTERMSAT) else (sgn neg t, flagIf lost flTRUNC)

/-- A KAF sum being formed on one window (R51, R52): the finite sum, which special terms have been met, the flags. -/
structure KafAcc where
  sum : Int := 0
  nan : Bool := false
  pos : Bool := false
  neg : Bool := false
  flags : FlagByte := 0#8
  mismatches : Nat := 0
deriving DecidableEq, Repr

/-- One more exact term (R50, R52). -/
def KafAcc.term (a : KafAcc) (E : Int) (v : FVal) : KafAcc :=
  match v with
  | .nan => { a with nan := true }
  | .inf false => { a with pos := true }
  | .inf true => { a with neg := true }
  | .fin s m e =>
    let t := placeTerm s m e E
    { a with sum := a.sum + t.1, flags := a.flags ||| t.2 }

/-- One more KAF value: a window mismatch is a NaN with INVALID (R58), a float-mode element is one placed term (R59, R63),
a malformed value a NaN with INVALID (R49). A value held in KAF never sets NANIN (R52, R64). -/
def KafAcc.kaf (a : KafAcc) (E : Int) (k : KafBits) : KafAcc :=
  match kafRead k with
  | .fin F S =>
    if F = E then { a with sum := a.sum + S }
    else { a with nan := true, flags := a.flags ||| flINVALID, mismatches := a.mismatches + 1 }
  | .nan => { a with nan := true }
  | .inf false => { a with pos := true }
  | .inf true => { a with neg := true }
  | .flt b => a.term E (fp b)
  | .malformed => { a with nan := true, flags := a.flags ||| flINVALID }

/-- R52: the result over everything that has entered. With a NaN input, infinities of both signs set INVALID where both reach this
accumulation (log entry 64). -/
def KafAcc.result (a : KafAcc) (E : Int) : KafBits × FlagByte :=
  if a.nan then (kafWrite .nan, a.flags ||| flagIf (a.pos && a.neg) flINVALID)
  else if a.pos && a.neg then (kafWrite .nan, a.flags ||| flINVALID)
  else if a.pos then (kafWrite (.inf false), a.flags)
  else if a.neg then (kafWrite (.inf true), a.flags)
  else (kafWrite (.fin E a.sum), a.flags)

/-- R55: HEADROOM when bits [111:104] of S are not all equal. -/
def headroom (S : Int) : FlagByte := flagIf (decide (2 ^ 104 ≤ S) || decide (S < -(2 ^ 104))) flHEADROOM

/-- R57, R150: an element re-windowed to E2. -/
def kafRewindow (k : KafBits) (E2 : Int) : KafBits × FlagByte :=
  match kafRead k with
  | .fin E1 S =>
    if E2 ≤ E1 then
      let x := S * 2 ^ (E1 - E2).toNat
      let big : Int := 2 ^ 111 - 1
      if big < x then (kafWrite (.fin E2 big), headroom S ||| flTERMSAT)
      else if x < -big - 1 then (kafWrite (.fin E2 (-big)), headroom S ||| flTERMSAT)
      else (kafWrite (.fin E2 x), headroom S)
    else
      let d := (E2 - E1).toNat
      (kafWrite (.fin E2 (sgn (decide (S < 0)) (S.natAbs >>> d))),
       headroom S ||| flagIf (decide (S.natAbs % 2 ^ d ≠ 0)) flTRUNC)
  | .flt b => (KafAcc.term {} E2 (fp b)).result E2
  | .nan => (kafWrite .nan, 0#8)
  | .inf s => (kafWrite (.inf s), 0#8)
  | .malformed => (kafWrite .nan, flINVALID)

/-- R60: the exact value a KAF converts as, with HEADROOM (R55) or INVALID (R49). A KAF zero is +0 (R42). -/
def kafValue (k : KafBits) : FVal × FlagByte :=
  match kafRead k with
  | .fin E S => (.fin (decide (S < 0)) S.natAbs E, headroom S)
  | .nan => (.nan, 0#8)
  | .inf s => (.inf s, 0#8)
  | .flt b => (fp b, 0#8)
  | .malformed => (.nan, flINVALID)

/-- R51, R52, R63: exact products added to an element in fixed-window mode. -/
def kafAddTerms (k : KafBits) (E : Int) (terms : List FVal) : KafBits × FlagByte :=
  (terms.foldl (fun a v => a.term E v) (KafAcc.kaf {} E k)).result E

/-- R59, R66: KAF contributions added on one window to what has been accumulated; the third part counts window mismatches (R58). -/
def kafSumOn (start : KafAcc) (E : Int) (ks : List KafBits) : KafBits × FlagByte × Nat :=
  let a : KafAcc := ks.foldl (fun a k => KafAcc.kaf a E k) start
  let r := a.result E
  (r.1, r.2, a.mismatches)
def kafSum (E : Int) (ks : List KafBits) : KafBits × FlagByte × Nat := kafSumOn {} E ks

/-- R62: one addition of float mode, rounded to FP32 under RNE. -/
def floatStep (acc : BitVec 32 × FlagByte) (v : FVal) : BitVec 32 × FlagByte :=
  let r := fpResult 0#2 (FVal.add 0#2 (fp acc.1) v) 0#8
  (r.1, r.2 ||| acc.2)

/-- R62, R63: exact products added to an element in float mode, in ascending order of k. -/
def kafAddFloat (k : KafBits) (terms : List FVal) : KafBits × FlagByte :=
  let start : BitVec 32 × FlagByte :=
    match kafRead k with
    | .flt b => (b, 0#8)
    | _ =>
      let v := kafValue k
      fpResult 0#2 v 0#8
  let r := terms.foldl floatStep start
  (kafWrite (.flt r.1), r.2)

/-- The finite KAF zero on window E (R56, R144). -/
def kafZero (E : Int) : KafBits := kafWrite (.fin E 0)

end Sys2Proof.Machine
end

