-- ==== Sys2Proof/Machine/CoreState.lean ====
section
/-! DEFINITION. The state of one core: registers, scratchpad, tiles, unit queues, mailboxes, credits and debug-window
registers (chapters 02, 04, 05, 06, 18). Every register the spec gives a reset value has it in `Core.reset`. -/

namespace Sys2Proof.Machine

/-- The context resident on a core: its slot and the core's logical position (R74, R133). -/
structure Resident where
  slot : Nat
  lrow : Nat
  lcol : Nat
deriving DecidableEq, Repr

/-- CORE_FAULT and CORE_FAULT_ADDR once VALID (R136). -/
structure FaultRec where
  code : BitVec 8
  slot : Nat
  deferred : Bool
  pc : BitVec 64
  addr : BitVec 64
deriving DecidableEq, Repr

/-- An accumulator tile (R144): 1,024 elements at 32i + j, the flag byte, TWIN, and the 64-bit words of the tile store
that its code cannot correct (by word index). -/
structure Tile where
  elems : Tbl KafBits
  flag : FlagByte
  twin : BitVec 16
  bad : Tbl Bool
deriving DecidableEq, Repr

/-- R144: the value a context load sets: finite zeros with E = 0, the flag byte and TWIN zero. -/
def Tile.reset : Tile := { elems := [], flag := 0#8, twin := 0#16, bad := [] }

/-- A group 0x9 operation an engine holds: the syllable, the g register it read at issue, its bundle and slot (R153). -/
structure EngOp where
  op : Instr
  ga : BitVec 64
  pc : BitVec 64
  slot : Nat
deriving DecidableEq, Repr

/-- An outstanding DMA (R158 to R161), with the rows moved so far. Rows of a DMA.ST stand in `out`, by device address, until the DMA
is complete and its counter drops (R160). -/
structure Dma where
  store : Bool
  gs : Nat
  gv : Nat
  rowBytes : Nat
  rows : Nat
  stride : Nat
  q : Nat
  moved : Nat
  out : List (Nat × List Byte)
  pc : BitVec 64
  slot : Nat
deriving DecidableEq, Repr

/-- A mailbox descriptor with EN = 1 (R173). -/
structure MboxDesc where
  rota : Bool
  nsrc : Nat
  first : Nat
  base : Nat
deriving DecidableEq, Repr

/-- A source-table entry (R174): ROW 63 names the reduction unit of the chip. -/
structure SrcEntry where
  chip : BitVec 8
  row : BitVec 6
  col : BitVec 5
  share : Nat
deriving DecidableEq, Repr

/-- R212: what an index at or above SRC_N reads as. -/
def SrcEntry.zero : SrcEntry := { chip := 0#8, row := 0#6, col := 0#5, share := 0 }

/-- A deposited message that is not released (R187, R190). -/
structure HeldMsg where
  src : Nat
  chip : BitVec 8
  seq : BitVec 16
  offset : Nat
  len6 : Nat
  charge : Nat
deriving DecidableEq, Repr

/-- A mailbox: the ROTA cursor, held messages in deposit order, open messages in the order RECV returned them. -/
structure Mbox where
  cursor : Nat
  held : List HeldMsg
  opened : List HeldMsg
deriving DecidableEq, Repr

def Mbox.reset : Mbox := { cursor := 0, held := [], opened := [] }

/-- A credit-table entry (R179). -/
structure CreditEntry where
  chip : BitVec 8
  row : BitVec 6
  col : BitVec 5
  mbox : BitVec 4
  size : Nat
  credits : Nat
  wptr : Nat
  seq : BitVec 16
deriving DecidableEq, Repr

/-- MSG_SEND_STATE of a waiting SEND (R198). -/
structure SendWait where
  entry : Nat
  credit : Bool
  buffer : Bool
  noGrant : Bool
  need : Nat
  have_ : Nat
deriving DecidableEq, Repr

def SendWait.none : SendWait := { entry := 0, credit := false, buffer := false, noGrant := false, need := 0, have_ := 0 }

/-- MSG_DROP (R198): each count saturates at 0xFFFF. -/
structure MsgDrop where
  gen : Nat
  dup : Nat
  reject : Nat
  grant : Nat
deriving DecidableEq, Repr

/-- A posted draw hint (R132), and the region's total of quarter cycles at its issue. -/
structure Hint where
  level : Nat
  lead : Nat
  since : Nat
deriving DecidableEq, Repr

/-- A contribution handed to the reduction unit (R165). -/
structure Contribution where
  desc : Nat
  chunk : Nat
  elems : List KafBits
  flag : FlagByte
deriving DecidableEq, Repr

/-- Releases of one source of a mailbox that a credit-return still has to carry (R182): their units, and the count of the region's
quarter cycles at the first of them. -/
structure CreditDue where
  mbox : Nat
  src : Nat
  units : Nat
  since : Nat
deriving DecidableEq, Repr

/-- One physical core. -/
structure Core where
  /-- the context resident on the core, and its entry point -/
  res : Option Resident
  entry : BitVec 64
  /-- g0 to g31 (R102) -/
  g : Tbl (BitVec 64)
  /-- p1 to p7; p0 reads all ones (R102) -/
  p : Tbl (BitVec 64)
  /-- v0 to v31 (R102) -/
  v : Tbl (BitVec 2048)
  /-- PC: bits [18:0] are the register; a target beyond it raises FETCH_RANGE at the fetch (R115) -/
  pc : BitVec 64
  /-- the arithmetic status word (R67) -/
  asw : BitVec 32
  /-- the syllables presented of the bundle at PC, and whether it is complete and waits to issue -/
  bundle : List Instr
  holding : Bool
  /-- the 64-byte blocks of the fetch buffer, newest first, and the cc until the bundle at PC has been fetched (R116, R118, R141) -/
  fetched : List Nat
  fetchWait : Nat
  fault : Option FaultRec
  /-- a deferred fault detected and not yet delivered (R113) -/
  deferred : Option FaultRec
  /-- stopped by the order of an abort, a park or a reset (R492, R501) -/
  stopped : Bool
  waiting : Bool
  armed : Bool
  ended : Bool
  arrived : Bool
  /-- the beat in which the held bundle was first eligible but for its waiting syllables, if it has been (R129, R130) -/
  tried : Option Nat
  /-- arm instants used in this step, and whether the wave instant of the core's cluster has passed since release (R130) -/
  arms : Nat
  waves : Nat
  /-- the rack time of the later arm instant that the held bundle waits for, once it has been tried (R130) -/
  armFrom : Option Nat
  /-- the region's total of quarter cycles at the core's release (R133) -/
  relCyc : Nat
  late : BitVec 32
  stall : Tbl (BitVec 64)
  /-- scratchpad bytes, and its 64-bit words that the code cannot correct, by offset / 8 (R115) -/
  sp : List Host.Cell
  spBad : Tbl Bool
  /-- tile td of engine eng at 8 × eng + td -/
  tiles : Tbl Tile
  m0 : List EngOp
  m1 : List EngOp
  dmas : List Dma
  dmaCnt : Tbl Nat
  outbound : List Msg
  /-- contributions of this core to open reduction instances, (descriptor, chunk) -/
  offloads : List (Nat × Nat)
  contribs : List Contribution
  hint : Option Hint
  desc : Tbl (Option MboxDesc)
  srcTab : Tbl SrcEntry
  mbox : Tbl Mbox
  /-- expected sequence number of source k of mailbox m at 64 × m + k (R187) -/
  expSeq : Tbl (BitVec 16)
  credits : List CreditEntry
  /-- grants sent and not acknowledged (R178) -/
  grants : List Msg
  /-- credit-returns that still gather releases (R182) -/
  creditDue : List CreditDue
  sendWait : SendWait
  recvWait : Option Nat
  creditStall : BitVec 64
  sent : BitVec 32
  returned : BitVec 32
  drop : MsgDrop
  issued : BitVec 48
  idleUs : Nat
  /-- cut off at its router under a teardown (R492) -/
  cut : Bool
  /-- messages other than DATA leaving the core, emptied by the command that made them -/
  emit : List Msg
deriving DecidableEq, Repr

/-- A core with no context, every register at its reset value (R102, R136, R144, R171, R198). -/
def Core.reset : Core :=
  { res := none, entry := 0#64, g := [], p := [], v := [], pc := 0#64, asw := 0#32, bundle := [], holding := false,
    fetched := [], fetchWait := 0, fault := none, deferred := none, stopped := false, waiting := false, armed := false, ended := false,
    arrived := false, tried := none, arms := 0, waves := 0, armFrom := none, relCyc := 0, late := 0#32, stall := [], sp := [],
    spBad := [], tiles := [], m0 := [], m1 := [], dmas := [], dmaCnt := [], outbound := [], offloads := [],
    contribs := [], hint := none, desc := [], srcTab := [], mbox := [], expSeq := [], credits := [], grants := [], creditDue := [],
    sendWait := SendWait.none, recvWait := none, creditStall := 0#64, sent := 0#32, returned := 0#32,
    drop := { gen := 0, dup := 0, reject := 0, grant := 0 }, issued := 0#48, idleUs := 0, cut := false, emit := [] }

end Sys2Proof.Machine
end

