-- ==== Sys2Proof/Machine/Operands.lean ====
section
/-! DEFINITION. Operand fields of the syllable groups, and the one place where a core's registers and scratchpad are read
and written: p0 is hard-wired (R102), a lane-masked write keeps the other lanes (R105). -/

namespace Sys2Proof.Machine

/-! Operand fields [17:0]. -/

/-- Bits [17:13]: gd, vd, gs, gc or ge. -/
def fD (o : BitVec 18) : Nat := bits o.toNat 17 13
/-- Bits [12:8]: ga, va or gv. -/
def fA (o : BitVec 18) : Nat := bits o.toNat 12 8
/-- Bits [7:3]: gb, vb or gl. -/
def fB (o : BitVec 18) : Nat := bits o.toNat 7 3
/-- Bits [2:0]: mod, sel or q. -/
def fMod (o : BitVec 18) : Nat := bits o.toNat 2 0
/-- Bits [7:2]: imm6 or len6. -/
def fImm6 (o : BitVec 18) : Nat := bits o.toNat 7 2
/-- The signed imm8 [7:0]. -/
def fImm8 (o : BitVec 18) : BitVec 64 := (o.extractLsb' 0 8).signExtend 64
/-- The imm13 field [12:0]. -/
def fImm13 (o : BitVec 18) : BitVec 13 := o.extractLsb' 0 13
/-- The tile of a group 0x9 or RPUT.T operand, as 8 × eng + td (bits [17] and [16:14]). -/
def fTile (o : BitVec 18) : Nat := bits o.toNat 17 14
/-- Bits [17]: the engine. -/
def fEng (o : BitVec 18) : Nat := bits o.toNat 17 17

/-! Registers. -/

def Core.rdG (c : Core) (r : Nat) : BitVec 64 := Tbl.get 0#64 c.g r
def Core.wrG (c : Core) (r : Nat) (x : BitVec 64) : Core := { c with g := Tbl.set 0#64 c.g r x }

/-- R102: p0 always reads all ones. -/
def Core.rdP (c : Core) (r : Nat) : BitVec 64 := if r = 0 then BitVec.allOnes 64 else Tbl.get 0#64 c.p r
/-- A write to p0 is discarded; a syllable that names it as a destination faults first (R103). -/
def Core.wrP (c : Core) (r : Nat) (x : BitVec 64) : Core :=
  if r = 0 then c else { c with p := Tbl.set 0#64 c.p r x }

def Core.rdV (c : Core) (r : Nat) : BitVec 2048 := Tbl.get 0#2048 c.v r
def Core.wrV (c : Core) (r : Nat) (x : BitVec 2048) : Core := { c with v := Tbl.set 0#2048 c.v r x }

/-- Lane i of a vector (R102). -/
def lane (x : BitVec 2048) (i : Nat) : BitVec 32 := x.extractLsb' (32 * i) 32

/-- The number of the lanes of a list, lane 0 first. -/
def packLanes : List (BitVec 32) → Nat
  | [] => 0
  | x :: xs => x.toNat + 2 ^ 32 * packLanes xs

/-- The vector whose lane i is f i. -/
def mkLanes (f : Nat → BitVec 32) : BitVec 2048 := BitVec.ofNat 2048 (packLanes ((List.range 64).map f))

/-- The vector that takes lane i of `new` where the mask's bit i is 1 and of `old` elsewhere (R105). -/
def mergeLanes (mask : BitVec 64) (old new : BitVec 2048) : BitVec 2048 :=
  mkLanes fun i => if mask.getLsbD i then lane new i else lane old i

/-- PN XOR NEG: the lanes in which a syllable acts (R105). -/
def Core.mask (c : Core) (iss : Issue) : BitVec 64 :=
  let p := c.rdP iss.pn.toNat
  if iss.neg then ~~~p else p

/-- Whole-syllable predication (R105, R138): bit 0 of PN XOR NEG. -/
def Core.acts (c : Core) (iss : Issue) : Bool := (c.mask iss).getLsbD 0

/-- A predicate with the bits of the mask replaced (R105, R127). -/
def mergeBits (mask old new : BitVec 64) : BitVec 64 := (new &&& mask) ||| (old &&& ~~~mask)

/-- Flags ORed into the arithmetic status word (R65, R67). -/
def Core.orAsw (c : Core) (f : FlagByte) : Core := { c with asw := c.asw ||| f.zeroExtend 32 }

/-! Scratchpad (R115, R123, R125). -/

/-- The end of the scratchpad: 512 KiB. -/
def spEnd : Nat := 0x80000

def Core.spRead (c : Core) (a n : Nat) : List Byte := Mem.read c.sp a n

/-- Erasing the uncorrectable marks of the n 64-bit words from word w. -/
def clearMarks (bad : Tbl Bool) (w : Nat) : Nat → Tbl Bool
  | 0 => bad
  | n + 1 => clearMarks (Tbl.set false bad w false) (w + 1) n

/-- A scratchpad write: the bytes, and the check code of every 64-bit word that is written whole. A word of which only a
part is written keeps an uncorrectable mark (log entry 7). -/
def Core.spWrite (c : Core) (a : Nat) (bs : List Byte) : Core :=
  let w0 := (a + 7) / 8
  let w1 := (a + bs.length) / 8
  { c with sp := Mem.write c.sp a bs, spBad := clearMarks c.spBad w0 (w1 - w0) }

/-- The first 64-bit word among n from word w whose code cannot correct it, as a scratchpad offset. -/
def firstBad (bad : Tbl Bool) (w : Nat) : Nat → Option Nat
  | 0 => none
  | n + 1 => if Tbl.get false bad w then some (8 * w) else firstBad bad (w + 1) n

/-- The offset of the first uncorrectable word that the n bytes from a touch. -/
def Core.badIn (c : Core) (a n : Nat) : Option Nat :=
  if c.spBad.isEmpty ∨ n = 0 then none else firstBad c.spBad (a / 8) ((a + n - 1) / 8 + 1 - a / 8)

/-- Two byte ranges overlap. -/
def overlaps (a n b m : Nat) : Bool := decide (a < b + m) && decide (b < a + n) && decide (0 < n) && decide (0 < m)

/-- Tile td of engine eng, at 8 × eng + td (R144). -/
def Core.tile (c : Core) (t : Nat) : Tile := Tbl.get Tile.reset c.tiles t
def Core.setTile (c : Core) (t : Nat) (x : Tile) : Core := { c with tiles := Tbl.set Tile.reset c.tiles t x }

/-- Element (i, j) at 32i + j. -/
def Tile.elem (t : Tile) (k : Nat) : KafBits := Tbl.get 0#128 t.elems k

/-- A table listing the non-default values of f at 0 to n − 1, in order. -/
def tabulate {α : Type} [DecidableEq α] (d : α) (n : Nat) (f : Nat → α) : Tbl α :=
  ((List.range n).map fun k => (k, f k)).filter fun kv => kv.2 ≠ d

/-- The operations an engine holds. -/
def Core.engine (c : Core) (e : Nat) : List EngOp := if e = 0 then c.m0 else c.m1
def Core.setEngine (c : Core) (e : Nat) (q : List EngOp) : Core :=
  if e = 0 then { c with m0 := q } else { c with m1 := q }

end Sys2Proof.Machine
end

