-- ==== Sys2Proof/Machine/Syllable.lean ====
section
/-! DEFINITION. What a syllable is to the issue logic (R98 to R107): its group and bit-only faults, its destinations, its
value faults, what it waits for and its effect. Sources are read from the core before the bundle, results go into the core
being built, so that every syllable reads before any writes (R104). -/

namespace Sys2Proof.Machine

/-- What a core sees of the rest of the module when a bundle tries to issue. -/
structure Env where
  /-- HOLD is sampled asserted in the region (R109) -/
  hold : Bool
  /-- the damper's pattern permits the cycle (R110), and no clock change is under way (R111) -/
  permitted : Bool
  clockChange : Bool
  /-- the beat of the running step (R207) -/
  beat : Nat
  /-- the rack-time counter, and the arm instant of R130 that the next beat boundary gives the core's cluster -/
  now : Nat
  armNext : Nat
  /-- the total of the region's quarter cycles (R182) -/
  quarters : Nat
  /-- a rack-time reading, within 4 ns RT (R133) -/
  rt : BitVec 64
  chip : BitVec 8
  slot : Nat
  gen : Nat
  part : Nat
  rowIn : Nat
  colIn : Nat
  steps : BitVec 64
  ccSince : BitVec 64
  /-- the logical rows and columns of the context's partition -/
  row0 : Nat
  nrows : Nat
  col0 : Nat
  ncols : Nat
  /-- the chips of the job membership table -/
  members : List Nat
  /-- the element count of each reduction descriptor of the context -/
  descs : Tbl (Option Nat)
  /-- the end of the tier-2 data (R279) -/
  t2top : Nat

/-- A destination register (R104). -/
inductive Dest where
  | g (r : Nat) | p (r : Nat) | v (r : Nat)
deriving DecidableEq, Repr

/-- Fault codes of groups 0x0 to 0x8 (R115) and 0x9 to 0xD (R167). -/
def fcInstruction : BitVec 8 := 0x01#8
def fcBundle : BitVec 8 := 0x02#8
def fcFormat : BitVec 8 := 0x03#8
def fcScratchRange : BitVec 8 := 0x04#8
def fcAlignment : BitVec 8 := 0x05#8
def fcFetchRange : BitVec 8 := 0x06#8
def fcBreak : BitVec 8 := 0x07#8
def fcScratchData : BitVec 8 := 0x08#8
def fcMatrixRange : BitVec 8 := 0x10#8
def fcMatrixAlign : BitVec 8 := 0x11#8
def fcMatrixWindow : BitVec 8 := 0x12#8
def fcDmaShape : BitVec 8 := 0x18#8
def fcDmaRange : BitVec 8 := 0x19#8
def fcDmaProt : BitVec 8 := 0x1A#8
def fcDmaPoison : BitVec 8 := 0x1B#8
def fcMsgEndpoint : BitVec 8 := 0x20#8
def fcMsgRange : BitVec 8 := 0x21#8
def fcMsgMbox : BitVec 8 := 0x22#8
def fcMsgCredit : BitVec 8 := 0x23#8
def fcRedDesc : BitVec 8 := 0x28#8
def fcRedRange : BitVec 8 := 0x29#8

/-- A precise fault: its code and CORE_FAULT_ADDR. -/
abbrev FaultAt := BitVec 8 × BitVec 64

/-- One syllable as the issue logic sees it. -/
structure Syl where
  iss : Issue
  group : Nat
  /-- ILLEGAL_INSTRUCTION from the syllable's bits (R100, R101, R103, R115) -/
  illegal : Bool := false
  /-- DIV, DIVU, REM, REMU, MULH and MULHU outside S1 (R115, R119) -/
  s1Only : Bool := false
  /-- ILLEGAL_FORMAT from the syllable's bits (R28, R29, R61) -/
  badFormat : Bool := false
  dests : List Dest := []
  /-- acts lane by lane rather than as a whole (R105) -/
  lanes : Bool := false
  /-- a fault that depends on register values or memory, checked when the syllable is active -/
  fault : Env → Core → Option FaultAt := fun _ _ => none
  /-- a register, tile or status-word dependence holds it (R107 condition 3, R153, R623) -/
  dep : Core → Bool := fun _ => false
  /-- a waiting syllable whose condition is not met (R107 condition 4, R131) -/
  wait : Env → Core → Bool := fun _ _ => false
  /-- its unit does not accept it, or its scratchpad bytes are still to be read or written (R107 condition 5, R142, R170) -/
  busy : Env → Core → Bool := fun _ _ => false
  /-- what the debug window shows while its unit does not accept it (R171, R198) -/
  note : Core → Core := fun c => c
  /-- the effect: the core before the bundle, and the core being built -/
  act : Env → Core → Core → Core := fun _ _ new => new

/-- Whether the syllable is active (R105, R138). -/
def Syl.active (y : Syl) (c : Core) : Bool :=
  if y.lanes then decide (c.mask y.iss ≠ 0#64) else c.acts y.iss

/-- The slots a group may occupy (R99). -/
def slotAllowed (group slot : Nat) : Bool :=
  match group with
  | 0x0 => true
  | 0x1 | 0x2 => decide (slot ≤ 1)
  | 0x3 | 0xB | 0xC | 0xD => decide (slot = 1)
  | 0x4 | 0x5 => decide (slot = 0)
  | 0x6 => decide (slot = 2)
  | 0x7 | 0xA => decide (2 ≤ slot)
  | 0x8 => decide (1 ≤ slot)
  | 0x9 => decide (slot = 3)
  | _ => false

/-- A non-zero bit in a field marked zero (R100). -/
def zeroBad (o mask : BitVec 18) : Bool := decide (o &&& mask ≠ 0#18)

/-- The queued matrix operations' scratchpad extents still to be read or written (R142). -/
def pendingExtents (ext : EngOp → List (Nat × Nat)) (c : Core) : List (Nat × Nat) :=
  (c.m0.flatMap ext) ++ (c.m1.flatMap ext)

/-- The bytes of an MMA operand or MST result: 128 × width, and 32 scale bytes when scaled (R147). -/
def operandBytes (f : Fmt) (scaled : Bool) : Nat := 128 * f.width + (if scaled then 32 else 0)

def fmtAt (o : BitVec 18) (hi lo : Nat) : Option Fmt := Fmt.ofCode (bits o.toNat hi lo)

/-- The scratchpad bytes a group 0x9 operation has yet to read or write. -/
def engExtents (q : EngOp) : List (Nat × Nat) :=
  let mma (o : BitVec 18) : List (Nat × Nat) :=
    match fmtAt o 13 10, fmtAt o 9 6 with
    | some fa, some fb =>
      let s := bit o.toNat 0
      [(bits q.ga.toNat 18 0, operandBytes fa s), (bits q.ga.toNat 50 32, operandBytes fb s)]
    | _, _ => []
  match q.op with
  | .mmaKaf _ o => mma o
  | .mmaF32 _ o => mma o
  | .mst _ o => match fmtAt o 13 10 with
    | some f => [(bits q.ga.toNat 18 0, operandBytes f (bit o.toNat 6))]
    | none => []
  | .mstk _ _ => [(bits q.ga.toNat 18 0, 16400)]
  | .mldk _ _ => [(bits q.ga.toNat 18 0, 16400)]
  | _ => []

/-- Bytes that an earlier matrix operation has yet to read or write (R142). -/
def Core.touches (c : Core) (a n : Nat) : Bool :=
  (pendingExtents engExtents c).any fun e => overlaps e.1 e.2 a n

/-- An operation an engine holds that will write tile t, its flag byte included (R65, R153). -/
def writesTile (t : Nat) (q : EngOp) : Bool :=
  match q.op with
  | .mmaKaf _ o | .mmaF32 _ o | .mwin _ o | .mrwin _ o | .mzeroF _ o | .mst _ o | .mldk _ o => decide (fTile o = t)
  | _ => false

def isMma (q : EngOp) : Bool :=
  match q.op with
  | .mmaKaf _ _ | .mmaF32 _ _ => true
  | _ => false

/-- An earlier operation has yet to write tile t (R153). -/
def Core.tileBusy (c : Core) (t : Nat) : Bool := (c.engine (t / 8)).any (writesTile t)

/-- An earlier operation that is not an MMA has yet to write tile t: what an MMA waits for (R149, R153). -/
def Core.tileBusyMma (c : Core) (t : Nat) : Bool := (c.engine (t / 8)).any fun q => writesTile t q && !isMma q

/-- An earlier operation has yet to OR flags into the status word: MMA, MRWIN or MST (R65, R623). -/
def Core.aswBusy (c : Core) : Bool :=
  (c.m0 ++ c.m1).any fun q =>
    match q.op with
    | .mmaKaf _ _ | .mmaF32 _ _ | .mrwin _ _ | .mst _ _ => true
    | _ => false

/-- R130: a KINDLE.ARM, or an MMA on disarmed engines, has its arm instant still to come: for the first of a step the wave instant of
the core's cluster, for a later one the next beat boundary after its first try plus the cluster's wave offset. -/
def Core.armWaits (e : Env) (c : Core) : Bool :=
  if c.armed then false
  else if c.arms = 0 then decide (c.waves = 0)
  else match c.armFrom with
    | none => true
    | some t => decide (e.now < t)

/-- An active KINDLE.DISARM stands in the bundle. -/
def Core.disarms (c : Core) : Bool :=
  c.bundle.any fun i => match i with
    | .kindleDisarm iss _ => c.acts iss
    | _ => false

/-- Arming M0 and M1 (R129, R131): a KINDLE.DISARM of the same bundle leaves them disarmed, and the arm instant used (log entry
129). -/
def Core.arm (old new : Core) : Core :=
  if old.armed then new else { new with armed := !old.disarms, arms := old.arms + 1 }

end Sys2Proof.Machine
end

