-- ==== Sys2Proof/Machine/Flags.lean ====
section
/-! DEFINITION. Results with flags: how an FP32 result and its flags reach a register and the arithmetic status word (R64, R65,
R67, R121, R124). -/

namespace Sys2Proof.Machine

/-- The FP32 operand of a scalar register: bits [31:0] (R121). -/
def lo32 (x : BitVec 64) : BitVec 32 := x.extractLsb' 0 32

/-- Writes a scalar FP32 result, bits [63:32] zero, and ORs its flags into the status word (R121). -/
def Core.wrFp (c : Core) (r : Nat) (x : BitVec 32 × FlagByte) : Core :=
  (c.wrG r (x.1.zeroExtend 64)).orAsw x.2

/-- The OR of the flags of the lanes that act (R124). -/
def laneFlags (mask : BitVec 64) (f : Nat → FlagByte) : FlagByte :=
  (List.range 64).foldl (fun a i => if mask.getLsbD i then a ||| f i else a) 0#8

/-- Writes the acting lanes of a vector FP32 result and ORs their flags into the status word (R124). -/
def Core.wrVFp (c : Core) (mask : BitVec 64) (r : Nat) (old : BitVec 2048) (f : Nat → BitVec 32 × FlagByte) : Core :=
  (c.wrV r (mergeLanes mask old (mkLanes fun i => (f i).1))).orAsw (laneFlags mask fun i => (f i).2)

/-- STAT.CLR: the bits set in x are cleared (R133, R623). -/
def Core.clearAsw (c : Core) (x : BitVec 64) : Core := { c with asw := c.asw &&& ~~~(x.extractLsb' 0 32) }

end Sys2Proof.Machine
end

