-- ==== Sys2Proof/Machine/SylScalar.lean ====
section
/-! DEFINITION. The scalar groups 0x0 to 0x3 (R101, R119 to R123): one definition per syllable. -/

namespace Sys2Proof.Machine

/-- R101: an all-zero syllable; any other bits that spell no operation are an illegal instruction, those of the reserved groups
0xE and 0xF and of an undefined operation code too (R99, R100). -/
def sylNop (iss : Issue) (grp : BitVec 4) (op : BitVec 6) (o : BitVec 18) : Syl :=
  { iss, group := 0x0, illegal := decide (grp ≠ 0#4) || decide (op ≠ 0#6) || decide (o ≠ 0#18) || decide (iss.pn ≠ 0#3) || iss.neg }

/-- A two-source operation of group 0x1 with mod zero (R119). -/
def reg2 (iss : Issue) (o : BitVec 18) (f : BitVec 64 → BitVec 64 → BitVec 64) : Syl :=
  { iss, group := 0x1, illegal := zeroBad o 0x7#18, dests := [.g (fD o)],
    act := fun _ old new => new.wrG (fD o) (f (old.rdG (fA o)) (old.rdG (fB o))) }

/-- A one-source operation of group 0x1: the gb field and mod are zero (R119). -/
def reg1 (iss : Issue) (o : BitVec 18) (f : BitVec 64 → BitVec 64) : Syl :=
  { iss, group := 0x1, illegal := zeroBad o 0xFF#18, dests := [.g (fD o)],
    act := fun _ old new => new.wrG (fD o) (f (old.rdG (fA o))) }

def sylAdd (iss : Issue) (o : BitVec 18) : Syl := reg2 iss o (· + ·)
def sylSub (iss : Issue) (o : BitVec 18) : Syl := reg2 iss o (· - ·)
def sylAnd (iss : Issue) (o : BitVec 18) : Syl := reg2 iss o (· &&& ·)
def sylOr (iss : Issue) (o : BitVec 18) : Syl := reg2 iss o (· ||| ·)
def sylXor (iss : Issue) (o : BitVec 18) : Syl := reg2 iss o (· ^^^ ·)
def sylShl (iss : Issue) (o : BitVec 18) : Syl := reg2 iss o fun a b => a <<< (b.toNat % 64)
def sylShr (iss : Issue) (o : BitVec 18) : Syl := reg2 iss o fun a b => a >>> (b.toNat % 64)
def sylSra (iss : Issue) (o : BitVec 18) : Syl := reg2 iss o fun a b => a.sshiftRight (b.toNat % 64)
def sylMul (iss : Issue) (o : BitVec 18) : Syl := reg2 iss o (· * ·)

/-- R119: the high half of the signed product. -/
def mulHigh (a b : BitVec 64) : BitVec 64 := BitVec.ofInt 64 ((a.toInt * b.toInt) / 2 ^ 64)
/-- R119: the high half of the unsigned product. -/
def mulHighU (a b : BitVec 64) : BitVec 64 := BitVec.ofNat 64 ((a.toNat * b.toNat) / 2 ^ 64)

def sylMulh (iss : Issue) (o : BitVec 18) : Syl := { reg2 iss o mulHigh with s1Only := true }
def sylMulhu (iss : Issue) (o : BitVec 18) : Syl := { reg2 iss o mulHighU with s1Only := true }

/-- R120: the signed quotient, truncated toward zero; all ones for a division by zero; -2^63 / -1 is -2^63. -/
def divS (a b : BitVec 64) : BitVec 64 := if b = 0#64 then BitVec.allOnes 64 else BitVec.ofInt 64 (a.toInt.tdiv b.toInt)
/-- R120: the unsigned quotient; all ones for a division by zero. -/
def divU (a b : BitVec 64) : BitVec 64 := if b = 0#64 then BitVec.allOnes 64 else BitVec.ofNat 64 (a.toNat / b.toNat)
/-- R120: the remainder with the sign of ga; ga for a division by zero. -/
def remS (a b : BitVec 64) : BitVec 64 := if b = 0#64 then a else BitVec.ofInt 64 (a.toInt.tmod b.toInt)
/-- R120: the unsigned remainder; ga for a division by zero. -/
def remU (a b : BitVec 64) : BitVec 64 := if b = 0#64 then a else BitVec.ofNat 64 (a.toNat % b.toNat)

def sylDiv (iss : Issue) (o : BitVec 18) : Syl := { reg2 iss o divS with s1Only := true }
def sylDivu (iss : Issue) (o : BitVec 18) : Syl := { reg2 iss o divU with s1Only := true }
def sylRem (iss : Issue) (o : BitVec 18) : Syl := { reg2 iss o remS with s1Only := true }
def sylRemu (iss : Issue) (o : BitVec 18) : Syl := { reg2 iss o remU with s1Only := true }

def sylMin (iss : Issue) (o : BitVec 18) : Syl := reg2 iss o fun a b => if a.toInt ≤ b.toInt then a else b
def sylMax (iss : Issue) (o : BitVec 18) : Syl := reg2 iss o fun a b => if b.toInt ≤ a.toInt then a else b
def sylMinu (iss : Issue) (o : BitVec 18) : Syl := reg2 iss o fun a b => if a.toNat ≤ b.toNat then a else b
def sylMaxu (iss : Issue) (o : BitVec 18) : Syl := reg2 iss o fun a b => if b.toNat ≤ a.toNat then a else b
def sylMov (iss : Issue) (o : BitVec 18) : Syl := reg1 iss o id

/-- The number of leading zeros of a 64-bit value, 0 to 64 (R119). -/
def clz64 (x : BitVec 64) : BitVec 64 := BitVec.ofNat 64 (if x.toNat = 0 then 64 else 63 - x.toNat.log2)
/-- The number of set bits (R119). -/
def popc64 (x : BitVec 64) : BitVec 64 := BitVec.ofNat 64 ((List.range 64).countP fun i => x.getLsbD i)

def sylClz (iss : Issue) (o : BitVec 18) : Syl := reg1 iss o clz64
def sylPopc (iss : Issue) (o : BitVec 18) : Syl := reg1 iss o popc64

/-- R103: a predicate destination field: the upper two bits zero, and not p0. -/
def badPDest (o : BitVec 18) : Bool := decide (8 ≤ fD o) || decide (fD o = 0)

/-- All 64 bits of a predicate (R119). -/
def allBits (b : Bool) : BitVec 64 := if b then BitVec.allOnes 64 else 0#64

/-- R119: the integer compare conditions. -/
def cmpInt (mod : Nat) (a b : BitVec 64) : Bool :=
  match mod with
  | 0 => decide (a = b)
  | 1 => decide (a ≠ b)
  | 2 => decide (a.toInt < b.toInt)
  | 3 => decide (b.toInt ≤ a.toInt)
  | 4 => decide (a.toNat < b.toNat)
  | _ => decide (b.toNat ≤ a.toNat)

def sylCmp (iss : Issue) (o : BitVec 18) : Syl :=
  { iss, group := 0x1, illegal := badPDest o || decide (5 < fMod o), dests := [.p (fD o)],
    act := fun _ old new => new.wrP (fD o) (allBits (cmpInt (fMod o) (old.rdG (fA o)) (old.rdG (fB o)))) }

/-- The rounding mode field mod[1:0] (R119). -/
def fRm (o : BitVec 18) : BitVec 2 := o.extractLsb' 0 2

/-- A scalar FP32 operation of two sources (R121). -/
def fpu2 (iss : Issue) (o : BitVec 18) (zeros : BitVec 18) (f : BitVec 32 → BitVec 32 → BitVec 32 × FlagByte) : Syl :=
  { iss, group := 0x1, illegal := zeroBad o zeros, dests := [.g (fD o)],
    act := fun _ old new => new.wrFp (fD o) (f (lo32 (old.rdG (fA o))) (lo32 (old.rdG (fB o)))) }

def sylFadd (iss : Issue) (o : BitVec 18) : Syl := fpu2 iss o 0x4#18 (fpAdd (fRm o))
def sylFsub (iss : Issue) (o : BitVec 18) : Syl := fpu2 iss o 0x4#18 (fpSub (fRm o))
def sylFmul (iss : Issue) (o : BitVec 18) : Syl := fpu2 iss o 0x4#18 (fpMul (fRm o))

/-- R119: gd = gd + ga × gb, rounded once. -/
def sylFma (iss : Issue) (o : BitVec 18) : Syl :=
  { iss, group := 0x1, illegal := zeroBad o 0x4#18, dests := [.g (fD o)],
    act := fun _ old new =>
      new.wrFp (fD o) (fpFma (fRm o) (lo32 (old.rdG (fD o))) (lo32 (old.rdG (fA o))) (lo32 (old.rdG (fB o)))) }

def sylFmin (iss : Issue) (o : BitVec 18) : Syl := fpu2 iss o 0x7#18 fpMin
def sylFmax (iss : Issue) (o : BitVec 18) : Syl := fpu2 iss o 0x7#18 fpMax

/-- R119, R121: FCMP writes all 64 bits of a predicate. -/
def sylFcmp (iss : Issue) (o : BitVec 18) : Syl :=
  { iss, group := 0x1, illegal := badPDest o || decide (4 < fMod o), dests := [.p (fD o)],
    act := fun _ old new =>
      let r := fpCompare (fMod o) (lo32 (old.rdG (fA o))) (lo32 (old.rdG (fB o)))
      (new.wrP (fD o) (allBits r.1)).orAsw r.2 }

/-! Group 0x2 (R122). -/

def sylMovi (iss : Issue) (o : BitVec 18) : Syl :=
  { iss, group := 0x2, dests := [.g (fD o)], act := fun _ _ new => new.wrG (fD o) ((fImm13 o).signExtend 64) }

/-- The 64-bit value with bits [13k + 12 : 13k] replaced, or [63:52] for k = 4 (R122). -/
def movkValue (k : Fin 5) (x : BitVec 64) (imm : BitVec 13) : BitVec 64 :=
  let w := if k.val = 4 then 12 else 13
  let m : BitVec 64 := BitVec.ofNat 64 ((2 ^ w - 1) * 2 ^ (13 * k.val))
  (x &&& ~~~m) ||| (BitVec.ofNat 64 (imm.toNat % 2 ^ w * 2 ^ (13 * k.val)))

/-- R122: imm13[12] of MOVK.4 is a zero field. -/
def sylMovk (iss : Issue) (k : Fin 5) (o : BitVec 18) : Syl :=
  { iss, group := 0x2, illegal := decide (k.val = 4) && zeroBad o 0x1000#18, dests := [.g (fD o)],
    act := fun _ old new => new.wrG (fD o) (movkValue k (old.rdG (fD o)) (fImm13 o)) }

def sylAddi (iss : Issue) (o : BitVec 18) : Syl :=
  { iss, group := 0x2, dests := [.g (fD o)],
    act := fun _ old new => new.wrG (fD o) (old.rdG (fD o) + (fImm13 o).signExtend 64) }

/-! Group 0x3 (R123). -/

/-- R123: ga + sext(imm8) × size, modulo 2^64. -/
def ldstAddr (c : Core) (o : BitVec 18) (size : Nat) : Nat :=
  (c.rdG (fA o) + fImm8 o * BitVec.ofNat 64 size).toNat

/-- R123, R115: range, then alignment, then, for a load, a word that the code cannot correct. -/
def ldstFault (load : Bool) (o : BitVec 18) (size : Nat) (c : Core) : Option FaultAt :=
  let a := ldstAddr c o size
  if spEnd ≤ a then some (fcScratchRange, BitVec.ofNat 64 a)
  else if a % size ≠ 0 then some (fcAlignment, BitVec.ofNat 64 a)
  else if load && (c.badIn a size).isSome then some (fcScratchData, BitVec.ofNat 64 a)
  else none

/-- A load of `size` bytes: `ext` extends the number read (R123). -/
def loadSyl (iss : Issue) (o : BitVec 18) (size : Nat) (ext : Nat → BitVec 64) : Syl :=
  { iss, group := 0x3, dests := [.g (fD o)],
    fault := fun _ c => ldstFault true o size c,
    busy := fun _ c => c.touches (ldstAddr c o size) size,
    act := fun _ old new => new.wrG (fD o) (ext (Mem.readLE old.sp (ldstAddr old o size) size)) }

/-- A store of the low `size` bytes of gd (R123). -/
def storeSyl (iss : Issue) (o : BitVec 18) (size : Nat) : Syl :=
  { iss, group := 0x3,
    fault := fun _ c => ldstFault false o size c,
    busy := fun _ c => c.touches (ldstAddr c o size) size,
    act := fun _ old new => new.spWrite (ldstAddr old o size) (toLE size (old.rdG (fD o)).toNat) }

def sylLdB (iss : Issue) (o : BitVec 18) : Syl := loadSyl iss o 1 fun x => (BitVec.ofNat 8 x).signExtend 64
def sylLdH (iss : Issue) (o : BitVec 18) : Syl := loadSyl iss o 2 fun x => (BitVec.ofNat 16 x).signExtend 64
def sylLdW (iss : Issue) (o : BitVec 18) : Syl := loadSyl iss o 4 fun x => (BitVec.ofNat 32 x).signExtend 64
def sylLdD (iss : Issue) (o : BitVec 18) : Syl := loadSyl iss o 8 fun x => BitVec.ofNat 64 x
def sylLdBu (iss : Issue) (o : BitVec 18) : Syl := loadSyl iss o 1 fun x => BitVec.ofNat 64 x
def sylLdHu (iss : Issue) (o : BitVec 18) : Syl := loadSyl iss o 2 fun x => BitVec.ofNat 64 x
def sylLdWu (iss : Issue) (o : BitVec 18) : Syl := loadSyl iss o 4 fun x => BitVec.ofNat 64 x
def sylStB (iss : Issue) (o : BitVec 18) : Syl := storeSyl iss o 1
def sylStH (iss : Issue) (o : BitVec 18) : Syl := storeSyl iss o 2
def sylStW (iss : Issue) (o : BitVec 18) : Syl := storeSyl iss o 4
def sylStD (iss : Issue) (o : BitVec 18) : Syl := storeSyl iss o 8

end Sys2Proof.Machine
end

