-- ==== Sys2Proof/Machine/SylVector.lean ====
section
/-! DEFINITION. The vector groups 0x6 and 0x7, compare and predicate group 0x8, and CVT (R124 to R127, R156, R157): one
definition per syllable. -/

namespace Sys2Proof.Machine

/-- A lane-wise FP32 operation of group 0x6 (R124): d is the old destination lane. -/
def vecFp (iss : Issue) (o : BitVec 18) (zeros : BitVec 18)
    (f : (d a b : BitVec 32) → BitVec 32 × FlagByte) : Syl :=
  { iss, group := 0x6, illegal := zeroBad o zeros, dests := [.v (fD o)], lanes := true,
    act := fun _ old new =>
      let d := old.rdV (fD o)
      let a := old.rdV (fA o)
      let b := old.rdV (fB o)
      new.wrVFp (old.mask iss) (fD o) d fun i => f (lane d i) (lane a i) (lane b i) }

/-- A lane-wise operation of group 0x6 that sets no flag (R124). -/
def vecInt (iss : Issue) (o : BitVec 18) (zeros : BitVec 18) (f : (d a b : BitVec 32) → BitVec 32) : Syl :=
  { iss, group := 0x6, illegal := zeroBad o zeros, dests := [.v (fD o)], lanes := true,
    act := fun _ old new =>
      let d := old.rdV (fD o)
      let a := old.rdV (fA o)
      let b := old.rdV (fB o)
      new.wrV (fD o) (mergeLanes (old.mask iss) d (mkLanes fun i => f (lane d i) (lane a i) (lane b i))) }

def sylVaddF (iss : Issue) (o : BitVec 18) : Syl := vecFp iss o 0x4#18 fun _ a b => fpAdd (fRm o) a b
def sylVsubF (iss : Issue) (o : BitVec 18) : Syl := vecFp iss o 0x4#18 fun _ a b => fpSub (fRm o) a b
def sylVmulF (iss : Issue) (o : BitVec 18) : Syl := vecFp iss o 0x4#18 fun _ a b => fpMul (fRm o) a b
def sylVfmaF (iss : Issue) (o : BitVec 18) : Syl := vecFp iss o 0x4#18 fun d a b => fpFma (fRm o) d a b
def sylVminF (iss : Issue) (o : BitVec 18) : Syl := vecFp iss o 0x7#18 fun _ a b => fpMin a b
def sylVmaxF (iss : Issue) (o : BitVec 18) : Syl := vecFp iss o 0x7#18 fun _ a b => fpMax a b
def sylVabsF (iss : Issue) (o : BitVec 18) : Syl := vecInt iss o 0xFF#18 fun _ a _ => a &&& 0x7FFFFFFF#32
def sylVnegF (iss : Issue) (o : BitVec 18) : Syl := vecInt iss o 0xFF#18 fun _ a _ => a ^^^ 0x80000000#32

/-- R124: a signed INT32 result, saturated where mod[0] selects it. -/
def sat32 (sat : Bool) (x : Int) : BitVec 32 :=
  BitVec.ofInt 32 (if sat then clampInt (-(2 ^ 31)) (2 ^ 31 - 1) x else x)

def sylVaddI (iss : Issue) (o : BitVec 18) : Syl :=
  vecInt iss o 0x6#18 fun _ a b => sat32 (bit o.toNat 0) (a.toInt + b.toInt)
def sylVsubI (iss : Issue) (o : BitVec 18) : Syl :=
  vecInt iss o 0x6#18 fun _ a b => sat32 (bit o.toNat 0) (a.toInt - b.toInt)
def sylVmulI (iss : Issue) (o : BitVec 18) : Syl := vecInt iss o 0x7#18 fun _ a b => a * b
def sylVmadI (iss : Issue) (o : BitVec 18) : Syl := vecInt iss o 0x7#18 fun d a b => d + a * b
def sylVand (iss : Issue) (o : BitVec 18) : Syl := vecInt iss o 0x7#18 fun _ a b => a &&& b
def sylVor (iss : Issue) (o : BitVec 18) : Syl := vecInt iss o 0x7#18 fun _ a b => a ||| b
def sylVxor (iss : Issue) (o : BitVec 18) : Syl := vecInt iss o 0x7#18 fun _ a b => a ^^^ b
def sylVshl (iss : Issue) (o : BitVec 18) : Syl := vecInt iss o 0x7#18 fun _ a b => a <<< (b.toNat % 32)
def sylVshr (iss : Issue) (o : BitVec 18) : Syl := vecInt iss o 0x7#18 fun _ a b => a >>> (b.toNat % 32)
def sylVsra (iss : Issue) (o : BitVec 18) : Syl := vecInt iss o 0x7#18 fun _ a b => a.sshiftRight (b.toNat % 32)
def sylVminI (iss : Issue) (o : BitVec 18) : Syl :=
  vecInt iss o 0x7#18 fun _ a b => if a.toInt ≤ b.toInt then a else b
def sylVmaxI (iss : Issue) (o : BitVec 18) : Syl :=
  vecInt iss o 0x7#18 fun _ a b => if b.toInt ≤ a.toInt then a else b

/-- R124: lane i from va where bit i of p[mod] is 1, else from vb. -/
def sylVsel (iss : Issue) (o : BitVec 18) : Syl :=
  { iss, group := 0x6, dests := [.v (fD o)], lanes := true,
    act := fun _ old new =>
      let p := old.rdP (fMod o)
      new.wrV (fD o) (mergeLanes (old.mask iss) (old.rdV (fD o))
        (mkLanes fun i => if p.getLsbD i then lane (old.rdV (fA o)) i else lane (old.rdV (fB o)) i)) }

/-! Group 0x7 (R125, R126). -/

/-- R125: ga + sext(imm8) × 256. -/
def vldAddr (c : Core) (o : BitVec 18) : Nat := ldstAddr c o 256

/-- The acting lanes as (lane, offset) pairs. -/
def actingLanes (mask : BitVec 64) (a : Nat) : List (Nat × Nat) :=
  ((List.range 64).filter fun i => mask.getLsbD i).map fun i => (i, a + 4 * i)

/-- R105, R125: the whole access is checked for alignment and range; a load of an acting lane's uncorrectable word faults. -/
def vldFault (load : Bool) (iss : Issue) (o : BitVec 18) (c : Core) : Option FaultAt :=
  let a := vldAddr c o
  if a % 4 ≠ 0 then some (fcAlignment, BitVec.ofNat 64 a)
  else if spEnd < a + 256 then some (fcScratchRange, BitVec.ofNat 64 a)
  else if load then
    match (actingLanes (c.mask iss) a).find? fun l => (c.badIn l.2 4).isSome with
    | some l => some (fcScratchData, BitVec.ofNat 64 l.2)
    | none => none
  else none

def sylVld (iss : Issue) (o : BitVec 18) : Syl :=
  { iss, group := 0x7, dests := [.v (fD o)], lanes := true,
    fault := fun _ c => vldFault true iss o c,
    busy := fun _ c => c.touches (vldAddr c o) 256,
    act := fun _ old new =>
      let a := vldAddr old o
      new.wrV (fD o) (mergeLanes (old.mask iss) (old.rdV (fD o))
        (mkLanes fun i => BitVec.ofNat 32 (Mem.readLE old.sp (a + 4 * i) 4))) }

/-- R125: only acting lanes are stored. -/
def sylVst (iss : Issue) (o : BitVec 18) : Syl :=
  { iss, group := 0x7, lanes := true,
    fault := fun _ c => vldFault false iss o c,
    busy := fun _ c => c.touches (vldAddr c o) 256,
    act := fun _ old new =>
      let x := old.rdV (fD o)
      let a := vldAddr old o
      if old.mask iss = BitVec.allOnes 64 then new.spWrite a (toLE 256 x.toNat)
      else (actingLanes (old.mask iss) a).foldl (fun c l => c.spWrite l.2 (toLE 4 (lane x l.1).toNat)) new }

/-- A lane permutation of group 0x7: lane i of the result is f i. -/
def vecMap (iss : Issue) (o : BitVec 18) (zeros : BitVec 18) (f : Core → Nat → BitVec 32) : Syl :=
  { iss, group := 0x7, illegal := zeroBad o zeros, dests := [.v (fD o)], lanes := true,
    act := fun _ old new =>
      new.wrV (fD o) (mergeLanes (old.mask iss) (old.rdV (fD o)) (mkLanes (f old))) }

def sylVperm (iss : Issue) (o : BitVec 18) : Syl :=
  vecMap iss o 0x7#18 fun c i => lane (c.rdV (fA o)) ((lane (c.rdV (fB o)) i).toNat % 64)
def sylVrot (iss : Issue) (o : BitVec 18) : Syl :=
  vecMap iss o 0x3#18 fun c i => lane (c.rdV (fA o)) ((i + fImm6 o) % 64)
def sylVbcast (iss : Issue) (o : BitVec 18) : Syl := vecMap iss o 0xFF#18 fun c _ => lo32 (c.rdG (fA o))

/-- R125: lane imm6 of vd = ga[31:0]; other lanes kept. -/
def sylVins (iss : Issue) (o : BitVec 18) : Syl :=
  vecMap iss o 0x3#18 fun c i => if i = fImm6 o then lo32 (c.rdG (fA o)) else lane (c.rdV (fD o)) i

/-- One level of the VRED tree (R126): neighbours are combined. -/
def redLevel (f : BitVec 32 → BitVec 32 → BitVec 32 × FlagByte) : List (BitVec 32) → List (BitVec 32) × FlagByte
  | a :: b :: t =>
    let r := f a b
    let u := redLevel f t
    (r.1 :: u.1, r.2 ||| u.2)
  | t => (t, 0#8)

/-- n levels of the tree. -/
def redTree (f : BitVec 32 → BitVec 32 → BitVec 32 × FlagByte) : Nat → List (BitVec 32) → List (BitVec 32) × FlagByte
  | 0, xs => (xs, 0#8)
  | n + 1, xs =>
    let l := redLevel f xs
    let u := redTree f n l.1
    (u.1, l.2 ||| u.2)

def lanesOf (x : BitVec 2048) : List (BitVec 32) := (List.range 64).map (lane x)

/-- The fixed tree over 64 lanes (R126). -/
def vredValue (f : BitVec 32 → BitVec 32 → BitVec 32 × FlagByte) (x : BitVec 2048) : BitVec 32 × FlagByte :=
  let r := redTree f 6 (lanesOf x)
  (r.1.headD 0#32, r.2)

/-- A floating-point reduction into gd[31:0], gd[63:32] zero (R125). -/
def vredFp (iss : Issue) (o : BitVec 18) (zeros : BitVec 18) (f : BitVec 32 → BitVec 32 → BitVec 32 × FlagByte) : Syl :=
  { iss, group := 0x7, illegal := zeroBad o zeros, dests := [.g (fD o)],
    act := fun _ old new => new.wrFp (fD o) (vredValue f (old.rdV (fA o))) }

def sylVredAddF (iss : Issue) (o : BitVec 18) : Syl := vredFp iss o 0xFC#18 (fpAdd (fRm o))
def sylVredMaxF (iss : Issue) (o : BitVec 18) : Syl := vredFp iss o 0xFF#18 fpMax
def sylVredMinF (iss : Issue) (o : BitVec 18) : Syl := vredFp iss o 0xFF#18 fpMin

/-- R125: the sum modulo 2^32, sign-extended. -/
def sylVredAddI (iss : Issue) (o : BitVec 18) : Syl :=
  { iss, group := 0x7, illegal := zeroBad o 0xFF#18, dests := [.g (fD o)],
    act := fun _ old new =>
      new.wrG (fD o) (((lanesOf (old.rdV (fA o))).foldl (· + ·) 0#32).signExtend 64) }

/-- R125: gd = lane imm6, sign-extended. -/
def sylVext (iss : Issue) (o : BitVec 18) : Syl :=
  { iss, group := 0x7, illegal := zeroBad o 0x3#18, dests := [.g (fD o)],
    act := fun _ old new => new.wrG (fD o) ((lane (old.rdV (fA o)) (fImm6 o)).signExtend 64) }

/-! Group 0x8 (R127). -/

/-- The 64 bits f 0 to f 63. -/
def mkMask (f : Nat → Bool) : BitVec 64 :=
  BitVec.ofNat 64 ((List.range 64).foldl (fun a i => a + flag1 (f i) i) 0)

/-- R127: lane i of pd is all of bit i, in acting lanes only; NANIN for a NaN in an acting lane. -/
def sylVcmpF (iss : Issue) (o : BitVec 18) : Syl :=
  { iss, group := 0x8, illegal := badPDest o || decide (4 < fMod o), dests := [.p (fD o)], lanes := true,
    act := fun _ old new =>
      let r := fun i => fpCompare (fMod o) (lane (old.rdV (fA o)) i) (lane (old.rdV (fB o)) i)
      let m := old.mask iss
      (new.wrP (fD o) (mergeBits m (old.rdP (fD o)) (mkMask fun i => (r i).1))).orAsw (laneFlags m fun i => (r i).2) }

/-- R127: the INT32 lane conditions. -/
def cmpLane (mod : Nat) (a b : BitVec 32) : Bool :=
  match mod with
  | 0 => decide (a = b)
  | 1 => decide (a ≠ b)
  | 2 => decide (a.toInt < b.toInt)
  | 3 => decide (a.toInt ≤ b.toInt)
  | 4 => decide (a.toNat < b.toNat)
  | _ => decide (a.toNat ≤ b.toNat)

def sylVcmpI (iss : Issue) (o : BitVec 18) : Syl :=
  { iss, group := 0x8, illegal := badPDest o || decide (5 < fMod o), dests := [.p (fD o)], lanes := true,
    act := fun _ old new =>
      new.wrP (fD o) (mergeBits (old.mask iss) (old.rdP (fD o))
        (mkMask fun i => cmpLane (fMod o) (lane (old.rdV (fA o)) i) (lane (old.rdV (fB o)) i))) }

/-- R103: a predicate source field: the upper two bits of the register field are zero. -/
def badPSrc (r : Nat) : Bool := decide (8 ≤ r)

/-- A predicate logic operation on all 64 bits, lane-masked (R127). -/
def predOp (iss : Issue) (o : BitVec 18) (f : BitVec 64 → BitVec 64 → BitVec 64) : Syl :=
  { iss, group := 0x8, illegal := zeroBad o 0x7#18 || badPDest o || badPSrc (fA o) || badPSrc (fB o),
    dests := [.p (fD o)], lanes := true,
    act := fun _ old new =>
      new.wrP (fD o) (mergeBits (old.mask iss) (old.rdP (fD o)) (f (old.rdP (fA o)) (old.rdP (fB o)))) }

def sylPand (iss : Issue) (o : BitVec 18) : Syl := predOp iss o (· &&& ·)
def sylPor (iss : Issue) (o : BitVec 18) : Syl := predOp iss o (· ||| ·)
def sylPxor (iss : Issue) (o : BitVec 18) : Syl := predOp iss o (· ^^^ ·)
def sylPandn (iss : Issue) (o : BitVec 18) : Syl := predOp iss o fun a b => a &&& ~~~b

/-- R126, R127: gd = pa, as a whole. -/
def sylPmovG (iss : Issue) (o : BitVec 18) : Syl :=
  { iss, group := 0x8, illegal := zeroBad o 0xFF#18 || badPSrc (fA o), dests := [.g (fD o)],
    act := fun _ old new => new.wrG (fD o) (old.rdP (fA o)) }

/-- R127: pd = ga, lane-masked. -/
def sylPmovP (iss : Issue) (o : BitVec 18) : Syl :=
  { iss, group := 0x8, illegal := zeroBad o 0xFF#18 || badPDest o, dests := [.p (fD o)], lanes := true,
    act := fun _ old new =>
      new.wrP (fD o) (mergeBits (old.mask iss) (old.rdP (fD o)) (old.rdG (fA o))) }

/-! Group 0xA (R156, R157), and the packing of elements (R35). -/

/-- Element k of a run packed from byte 0 of a number (R35): little-endian packing puts element k at bit k × width. -/
def packedAt (f : Fmt) (x k : Nat) : Nat := (x >>> (k * f.width)) % 2 ^ f.width

/-- Codes packed from byte 0 upward (R35). -/
def packCodes (f : Fmt) : List Nat → Nat
  | [] => 0
  | c :: cs => c % 2 ^ f.width + 2 ^ f.width * packCodes f cs

/-- The flags of reading a source element that is NaN (R64). -/
def nanFlags (vs : List FVal) : FlagByte := flagIf (vs.any FVal.isNan) flNANIN

/-- One block of 32 values into a format: the codes, the scale where scaled, the flags (R39, R44). -/
def convertRun (f : Fmt) (mode : RMode) (sat scaled : Bool) (vs : List FVal) : List Nat × Nat × FlagByte :=
  if scaled then
    let r := convertBlock f mode vs
    (r.2.1, r.1, r.2.2)
  else
    let es := vs.map (encode f mode sat false)
    (es.map Prod.fst, 0, es.foldl (fun a e => a ||| e.2) 0#8)

/-- The 64 values CVT reads from va (R157). -/
def cvtValues (fs : Fmt) (ss : Bool) (x : Nat) : List FVal :=
  (List.range 64).map fun k =>
    decodeElem fs (packedAt fs x k) (if ss then some ((x >>> (8 * (248 + k / 32))) % 256) else none)

/-- The 256 bytes CVT writes, as a number, and its flags (R157). -/
def cvtResult (fd fs : Fmt) (mode : RMode) (sat ss ds : Bool) (x : Nat) : Nat × FlagByte :=
  let vs := cvtValues fs ss x
  let b0 := convertRun fd mode sat ds (vs.take 32)
  let b1 := convertRun fd mode sat ds (vs.drop 32)
  let body := packCodes fd (b0.1 ++ b1.1)
  let scales := if ds then b0.2.1 * 2 ^ (8 * 248) + b1.2.1 * 2 ^ (8 * 249) else 0
  (body + scales, b0.2.2 ||| b1.2.2 ||| nanFlags vs)

/-- R156: RM, SAT, SS, DS and a zero bit stand in the OP field. A whole-syllable predicate governs it (R138, R157). -/
def sylCvt (iss : Issue) (mods : BitVec 6) (o : BitVec 18) : Syl :=
  let fd := fmtAt o 7 4
  let fs := fmtAt o 3 0
  let sat := mods.getLsbD 3
  let ss := mods.getLsbD 2
  let ds := mods.getLsbD 1
  { iss, group := 0xA, illegal := mods.getLsbD 0,
    badFormat := match fd, fs with
      | some d, some s => (ds && !d.scalable) || (ss && !s.scalable)
      | _, _ => true
    dests := [.v (fD o)],
    act := fun _ old new =>
      match fd, fs with
      | some d, some s =>
        let r := cvtResult d s (RMode.ofBits (mods.extractLsb' 4 2)) sat ss ds (old.rdV (fA o)).toNat
        (new.wrV (fD o) (BitVec.ofNat 2048 r.1)).orAsw r.2
      | _, _ => new }

end Sys2Proof.Machine
end

