-- ==== Sys2Proof/Machine/SylMatrix.lean ====
section
/-! DEFINITION. Group 0x9 (R144 to R153): the syllables, which hand an operation to an engine, and what the engine does when
the operation completes. -/

namespace Sys2Proof.Machine

/-- The engine-register operand ga[18:0]. -/
def mOff (x : BitVec 64) : Nat := bits x.toNat 18 0

/-- An operation the engine takes at issue, with the register value it read. -/
def Core.pushEng (new : Core) (old : Core) (iss : Issue) (op : Instr) (o : BitVec 18) (ga : BitVec 64) : Core :=
  new.setEngine (fEng o) (new.engine (fEng o) ++ [{ op, ga, pc := old.pc, slot := iss.slot.val }])

/-- R153, R170: the engine holds two operations. -/
def Core.engFull (c : Core) (o : BitVec 18) : Bool := decide (2 ≤ (c.engine (fEng o)).length)

/-- The scratchpad bytes an operation writes. -/
def engWrites (q : EngOp) : List (Nat × Nat) :=
  match q.op with
  | .mst _ _ | .mstk _ _ => engExtents q
  | _ => []

/-- R142: an operation of one engine whose scratchpad bytes meet those of the other engine's earlier operations, at least
one of them a write, waits. -/
def Core.crossBusy (c : Core) (o : BitVec 18) (q : EngOp) : Bool :=
  let other := c.engine (1 - fEng o)
  (other.flatMap engWrites).any (fun e => (engExtents q).any fun f => overlaps e.1 e.2 f.1 f.2) ||
  (other.flatMap engExtents).any (fun e => (engWrites q).any fun f => overlaps e.1 e.2 f.1 f.2)

/-- R147: alignment to 32 and the last byte below 0x8_0000 for both operands. -/
def mmaFault (o : BitVec 18) (ga : BitVec 64) : Option FaultAt :=
  match fmtAt o 13 10, fmtAt o 9 6 with
  | some fa, some fb =>
    let s := bit o.toNat 0
    let a := mOff ga
    let b := bits ga.toNat 50 32
    if a % 32 ≠ 0 ∨ b % 32 ≠ 0 then some (fcMatrixAlign, 0#64)
    else if spEnd < a + operandBytes fa s ∨ spEnd < b + operandBytes fb s then some (fcMatrixRange, 0#64)
    else none
  | _, _ => none

/-- R29, R61, R148: the format pair rules. -/
def mmaBadFormat (float : Bool) (o : BitVec 18) : Bool :=
  match fmtAt o 13 10, fmtAt o 9 6 with
  | some fa, some fb =>
    (bit o.toNat 0 && (!fa.scalable || !fb.scalable)) || (float && (fa.scalable || fb.scalable))
  | _, _ => true

def mmaSyl (float : Bool) (iss : Issue) (o : BitVec 18) (op : Instr) : Syl :=
  let ga := fun c : Core => c.rdG (bits o.toNat 5 1)
  { iss, group := 0x9, badFormat := mmaBadFormat float o,
    fault := fun _ c => mmaFault o (ga c),
    dep := fun c => c.tileBusyMma (fTile o),
    wait := fun e c => c.armWaits e,
    busy := fun _ c => c.engFull o || c.crossBusy o { op, ga := ga c, pc := c.pc, slot := iss.slot.val },
    act := fun _ old new => (Core.arm old new).pushEng old iss op o (ga old) }

def sylMmaKaf (iss : Issue) (o : BitVec 18) : Syl := mmaSyl false iss o (.mmaKaf iss o)
def sylMmaF32 (iss : Issue) (o : BitVec 18) : Syl := mmaSyl true iss o (.mmaF32 iss o)

/-- Another group 0x9 operation with ga in [12:8] (R146). -/
def engSyl (iss : Issue) (o : BitVec 18) (op : Instr) (ra : Nat) (zeros : BitVec 18) (fault : BitVec 64 → Option FaultAt) : Syl :=
  { iss, group := 0x9, illegal := zeroBad o zeros,
    fault := fun _ c => fault (c.rdG ra),
    dep := fun c => c.tileBusy (fTile o),
    busy := fun _ c => c.engFull o || c.crossBusy o { op, ga := c.rdG ra, pc := c.pc, slot := iss.slot.val },
    act := fun _ old new => new.pushEng old iss op o (old.rdG ra) }

/-- R150: E = ga[15:0] as a signed value. -/
def windowOf (ga : BitVec 64) : Int := (ga.extractLsb' 0 16).toInt

/-- R150: MATRIX_WINDOW for E outside -400 to +300. -/
def windowFault (ga : BitVec 64) : Option FaultAt := if windowOk (windowOf ga) then none else some (fcMatrixWindow, 0#64)

def sylMwin (iss : Issue) (o : BitVec 18) : Syl := engSyl iss o (.mwin iss o) (fA o) 0x20FF#18 windowFault
def sylMrwin (iss : Issue) (o : BitVec 18) : Syl := engSyl iss o (.mrwin iss o) (fA o) 0x20FF#18 windowFault
def sylMzeroF (iss : Issue) (o : BitVec 18) : Syl := engSyl iss o (.mzeroF iss o) (fA o) 0x3FFF#18 fun _ => none

/-- R151: the destination is aligned to 32 and its last byte lies below 0x8_0000. -/
def mstFault (o : BitVec 18) (ga : BitVec 64) : Option FaultAt :=
  match fmtAt o 13 10 with
  | some f =>
    if mOff ga % 32 ≠ 0 then some (fcMatrixAlign, 0#64)
    else if spEnd < mOff ga + operandBytes f (bit o.toNat 6) then some (fcMatrixRange, 0#64)
    else none
  | none => none

def sylMst (iss : Issue) (o : BitVec 18) : Syl :=
  { engSyl iss o (.mst iss o) (bits o.toNat 4 0) 0#18 (mstFault o) with
    badFormat := match fmtAt o 13 10 with
      | some f => bit o.toNat 6 && !f.scalable
      | none => true }

/-- R152: a raw area of 16,400 bytes at a multiple of 64. -/
def rawFault (ga : BitVec 64) : Option FaultAt :=
  if mOff ga % 64 ≠ 0 then some (fcMatrixAlign, 0#64)
  else if spEnd < mOff ga + 16400 then some (fcMatrixRange, 0#64)
  else none

def sylMstk (iss : Issue) (o : BitVec 18) : Syl := engSyl iss o (.mstk iss o) (fA o) 0x20FF#18 rawFault
def sylMldk (iss : Issue) (o : BitVec 18) : Syl := engSyl iss o (.mldk iss o) (fA o) 0x20FF#18 rawFault

/-! What an engine does. -/

/-- The 32 values of vector v of an operand at `base` (R147). -/
def operandVector (c : Core) (f : Fmt) (scaled : Bool) (base v : Nat) : List FVal :=
  let n := 4 * f.width
  let x := Mem.readLE c.sp (base + v * n) n
  let s := if scaled then some (Mem.read8 c.sp (base + 128 * f.width + v)).toNat else none
  (List.range 32).map fun k => decodeElem f (packedAt f x k) s

/-- An operand as its 32 vectors. -/
def operandAt (c : Core) (f : Fmt) (scaled : Bool) (base : Nat) : List (List FVal) :=
  (List.range 32).map (operandVector c f scaled base)

/-- The products of one element, in ascending k, with their flags (R148, R52). -/
def products (a b : List FVal) : List (FVal × FlagByte) :=
  List.zipWith (fun x y =>
    let p := FVal.mul x y
    (p.1, p.2 ||| nanIn x ||| nanIn y)) a b

/-- One element of an MMA: the new element and its flags. -/
def mmaElem (float : Bool) (twin : Int) (k : KafBits) (a b : List FVal) : KafBits × FlagByte :=
  let ps := products a b
  let r := if float then kafAddFloat k (ps.map Prod.fst) else kafAddTerms k twin (ps.map Prod.fst)
  (r.1, ps.foldl (fun f p => f ||| p.2) r.2)

/-- A tile with element k replaced by the first part of f k, and the OR of the second parts. -/
def Tile.mapElems (t : Tile) (f : Nat → KafBits → KafBits × FlagByte) : Tile × FlagByte :=
  let rs := (List.range 1024).map fun k => (k, f k (t.elem k))
  ({ t with elems := (rs.map fun r => (r.1, r.2.1)).filter fun kv => kv.2 ≠ 0#128 },
   rs.foldl (fun a r => a ||| r.2.2) 0#8)

/-- Flags ORed into the tile's flag byte and the status word (R65). -/
def Core.tileFlags (c : Core) (t : Nat) (x : Tile) (f : FlagByte) : Core :=
  (c.setTile t { x with flag := x.flag ||| f }).orAsw f

/-- R168: the address recorded for a word of a tile. -/
def tileAddr (t word : Nat) : BitVec 64 := BitVec.ofNat 64 (0x80000 + (t / 8) * 0x20000 + (t % 8) * 0x4000 + 8 * word)

/-- A deferred fault of an operation (R113): the first one is kept. -/
def Core.defer (c : Core) (code : BitVec 8) (slot : Nat) (pc addr : BitVec 64) : Core :=
  if c.deferred.isSome then c else { c with deferred := some { code, slot, deferred := true, pc, addr } }

/-- A tile that an MMA leaves undefined (R169): every element is an open value (log entry 6). -/
def undefinedTile (nonce : Nat) (t : Tile) : Tile :=
  { t with elems := tabulate 0#128 1024 fun k => Config.undefinedTileElement nonce k }

/-- R148: an MMA. An operand word that cannot be corrected is a deferred fault (R168). -/
def runMma (float : Bool) (c : Core) (q : EngOp) (o : BitVec 18) : Core :=
  match fmtAt o 13 10, fmtAt o 9 6 with
  | some fa, some fb =>
    let s := bit o.toNat 0
    let a := mOff q.ga
    let b := bits q.ga.toNat 50 32
    let t := fTile o
    match (c.badIn a (operandBytes fa s)).or (c.badIn b (operandBytes fb s)) with
    | some w =>
      (c.setTile t (undefinedTile (c.issued.toNat * 16 + t) (c.tile t))).defer fcScratchData q.slot q.pc (BitVec.ofNat 64 w)
    | none =>
      let A := operandAt c fa s a
      let B := operandAt c fb s b
      let x := c.tile t
      let r := x.mapElems fun k e => mmaElem float x.twin.toInt e (A.getD (k / 32) []) (B.getD (k % 32) [])
      c.tileFlags t r.1 r.2
  | _, _ => c

/-- R56, R150: MWIN. -/
def runMwin (c : Core) (q : EngOp) (o : BitVec 18) : Core :=
  let E := windowOf q.ga
  c.setTile (fTile o)
    { elems := tabulate 0#128 1024 fun _ => kafZero E, flag := 0#8, twin := BitVec.ofInt 16 E, bad := [] }

/-- R57, R150: MRWIN. -/
def runMrwin (c : Core) (q : EngOp) (o : BitVec 18) : Core :=
  let E := windowOf q.ga
  let r := (c.tile (fTile o)).mapElems fun _ e => kafRewindow e E
  c.tileFlags (fTile o) { r.1 with twin := BitVec.ofInt 16 E } r.2

/-- R150: MZERO.F leaves TWIN unchanged. -/
def runMzero (c : Core) (o : BitVec 18) : Core :=
  let x := c.tile (fTile o)
  c.setTile (fTile o)
    { elems := tabulate 0#128 1024 fun _ => kafWrite (.flt 0#32), flag := 0#8, twin := x.twin, bad := [] }

/-- R151: MST in the layout of R147; T selects (i, ·) or (·, j) vectors. -/
def runMst (c : Core) (q : EngOp) (o : BitVec 18) : Core :=
  let t := fTile o
  let x := c.tile t
  match fmtAt o 13 10, firstBad x.bad 0 (if x.bad.isEmpty then 0 else 2048) with
  | _, some w => c.defer fcScratchData q.slot q.pc (tileAddr t (w / 8))
  | some f, none =>
    let scaled := bit o.toNat 6
    let byCol := bit o.toNat 5
    let vs := (List.range 1024).map fun k =>
      kafValue (x.elem (if byCol then 32 * (k % 32) + k / 32 else k))
    let vec := fun v => convertRun f (RMode.ofBits (o.extractLsb' 8 2)) (bit o.toNat 7) scaled
      (((vs.drop (32 * v)).take 32).map Prod.fst)
    let rs := (List.range 32).map vec
    let body := rs.flatMap fun r => toLE (4 * f.width) (packCodes f r.1)
    let scales := if scaled then rs.map fun r => BitVec.ofNat 8 r.2.1 else []
    let fl := (vs.foldl (fun a v => a ||| v.2) 0#8) ||| (rs.foldl (fun a r => a ||| r.2.2) 0#8)
    (c.spWrite (mOff q.ga) (body ++ scales)).tileFlags t x fl
  | none, none => c

/-- R152: MSTK. -/
def runMstk (c : Core) (q : EngOp) (o : BitVec 18) : Core :=
  let t := fTile o
  let x := c.tile t
  match firstBad x.bad 0 (if x.bad.isEmpty then 0 else 2048) with
  | some w => c.defer fcScratchData q.slot q.pc (tileAddr t (w / 8))
  | none =>
    c.spWrite (mOff q.ga)
      (((List.range 1024).flatMap fun k => toLE 16 (x.elem k).toNat) ++ [x.flag] ++ List.replicate 15 0#8)

/-- R152: MLDK. -/
def runMldk (c : Core) (q : EngOp) (o : BitVec 18) : Core :=
  let t := fTile o
  let a := mOff q.ga
  match c.badIn a 16400 with
  | some w => c.defer fcScratchData q.slot q.pc (BitVec.ofNat 64 w)
  | none =>
    let el := fun k => BitVec.ofNat 128 (Mem.readLE c.sp (a + 16 * k) 16)
    let E := kafExp (el 0)
    c.setTile t
      { elems := tabulate 0#128 1024 el, flag := Mem.read8 c.sp (a + 16384),
        twin := if windowOk E then BitVec.ofInt 16 E else (c.tile t).twin, bad := [] }

/-- What a completing operation does. -/
def runEngOp (c : Core) (q : EngOp) : Core :=
  match q.op with
  | .mmaKaf _ o => runMma false c q o
  | .mmaF32 _ o => runMma true c q o
  | .mwin _ o => runMwin c q o
  | .mrwin _ o => runMrwin c q o
  | .mzeroF _ o => runMzero c o
  | .mst _ o => runMst c q o
  | .mstk _ o => runMstk c q o
  | .mldk _ o => runMldk c q o
  | _ => c

/-- R153, R154: the operation an engine runs completes, and the queued one starts. -/
def Core.engDone (c : Core) (eng : Nat) : Core :=
  match c.engine eng with
  | [] => c
  | q :: rest => (runEngOp c q).setEngine eng rest

end Sys2Proof.Machine
end

