-- ==== Sys2Proof/Machine/SylMove.lean ====
section
/-! DEFINITION. Groups 0xB, 0xC and 0xD (R158 to R166, R170, R180 to R183, R190, R191): the DMA, message and
reduction-offload syllables. -/

namespace Sys2Proof.Machine

/-! DMA (R158 to R160). -/

/-- The shape a DMA's registers give (R158): offset, device address, row bytes, rows, stride. -/
structure DmaShape where
  gs : Nat
  gv : Nat
  rowBytes : Nat
  rows : Nat
  stride : Nat
deriving DecidableEq, Repr

def dmaShape (c : Core) (o : BitVec 18) : DmaShape :=
  let gl := (c.rdG (fB o)).toNat
  { gs := bits (c.rdG (fD o)).toNat 18 0, gv := bits (c.rdG (fA o)).toNat 47 0,
    rowBytes := bits gl 15 0, rows := bits gl 27 16 + 1, stride := bits gl 63 28 }

/-- The end of tier 1 and the base of tier 2 (R277). -/
def t1End : Nat := 0xA000000000
def t2Base : Nat := 0x10000000000

/-- R159: the checks of a DMA at issue, in order. -/
def dmaFault (store : Bool) (t2top : Nat) (d : DmaShape) : Option FaultAt :=
  let inT1 := decide (d.gv < t1End)
  let inT2 := decide (t2Base ≤ d.gv) && decide (d.gv < t2top)
  let last := d.gv + (d.rows - 1) * d.stride + d.rowBytes
  if d.rowBytes = 0 ∨ d.rowBytes % 64 ≠ 0 ∨ 32768 < d.rowBytes ∨ d.gs % 64 ≠ 0 ∨
      (store = true ∧ d.stride < d.rowBytes ∧ 1 < d.rows) then some (fcDmaShape, 0#64)
  else if spEnd < d.gs + d.rowBytes * d.rows then some (fcDmaRange, 0#64)
  else if !inT1 && !inT2 then some (fcDmaRange, 0#64)
  else if inT1 && (decide (d.gv % 64 ≠ 0) || decide (d.stride % 64 ≠ 0)) then some (fcDmaShape, 0#64)
  else if inT2 && (decide (d.gv % 4096 ≠ 0) || decide (d.stride % 4096 ≠ 0) || decide (d.rowBytes % 4096 ≠ 0)) then
    some (fcDmaShape, 0#64)
  else if (if inT1 then t1End else t2top) < last then some (fcDmaRange, 0#64)
  else none

/-- R160, R170: a DMA issues while fewer than 16 are outstanding, and adds one to its counter. -/
def dmaSyl (store : Bool) (iss : Issue) (o : BitVec 18) : Syl :=
  { iss, group := 0xB,
    fault := fun e c => dmaFault store e.t2top (dmaShape c o),
    busy := fun _ c => decide (16 ≤ c.dmas.length),
    act := fun _ old new =>
      let d := dmaShape old o
      { new with
        dmas := new.dmas ++
          [{ store, gs := d.gs, gv := d.gv, rowBytes := d.rowBytes, rows := d.rows, stride := d.stride,
             q := fMod o, moved := 0, out := [], pc := old.pc, slot := iss.slot.val }],
        dmaCnt := Tbl.update 0 new.dmaCnt (fMod o) (· + 1) } }

def sylDmaLd (iss : Issue) (o : BitVec 18) : Syl := dmaSyl false iss o
def sylDmaSt (iss : Issue) (o : BitVec 18) : Syl := dmaSyl true iss o

/-- R158, R170: accepted when every counter the mask selects is zero. -/
def sylDmaFence (iss : Issue) (o : BitVec 18) : Syl :=
  { iss, group := 0xB, illegal := zeroBad o 0x3FF00#18,
    busy := fun _ c => (List.range 8).any fun q => bit o.toNat q && decide (Tbl.get 0 c.dmaCnt q ≠ 0) }

/-! Messages (R162 to R164, R180 to R183, R190, R191). -/

/-- The endpoint a register names (R162). -/
structure Endpoint where
  chip : BitVec 8
  row : BitVec 6
  col : BitVec 5
  mbox : BitVec 4
deriving DecidableEq, Repr

def endpointOf (x : BitVec 64) : Endpoint :=
  { chip := x.extractLsb' 0 8, row := x.extractLsb' 8 6, col := x.extractLsb' 14 5, mbox := x.extractLsb' 19 4 }

/-- R180: the placement of U units: offset, charge and the new write pointer. -/
def place (U S C W : Nat) : Nat × Nat × Nat :=
  let W := if C = S then 0 else W
  if W + U ≤ S then (W, U, (W + U) % S) else (0, (S - W) + U, U % S)

def CreditEntry.isFor (e : CreditEntry) (p : Endpoint) : Bool :=
  decide (e.chip = p.chip) && decide (e.row = p.row) && decide (e.col = p.col) && decide (e.mbox = p.mbox)

/-- R163: MSG_ENDPOINT, then MSG_RANGE. -/
def sendFault (e : Env) (c : Core) (o : BitVec 18) : Option FaultAt :=
  let p := endpointOf (c.rdG (fD o))
  let a := bits (c.rdG (fA o)).toNat 18 0
  let inPart := decide (e.row0 ≤ p.row.toNat) && decide (p.row.toNat < e.row0 + e.nrows) &&
    decide (e.col0 ≤ p.col.toNat) && decide (p.col.toNat < e.col0 + e.ncols)
  if (p.chip = e.chip ∧ inPart = false) ∨ p.chip.toNat ∉ e.members then some (fcMsgEndpoint, 0#64)
  else if a % 64 ≠ 0 ∨ spEnd < a + 64 * (fImm6 o + 1) then some (fcMsgRange, 0#64)
  else none

/-- Bytes waiting in the outbound buffer (R154). -/
def Core.outBytes (c : Core) : Nat := c.outbound.foldl (fun n m => n + m.payload.length) 0

/-- What a SEND that cannot be accepted waits for; none when it is accepted (R170, R180, R181, R198). -/
def sendState (c : Core) (o : BitVec 18) : Option SendWait :=
  let U := fImm6 o + 1
  let p := endpointOf (c.rdG (fD o))
  let full := decide (16384 < c.outBytes + 64 * U) || decide (32 ≤ c.outbound.length)
  match c.credits.findIdx? (fun e => e.isFor p), c.credits.find? (fun e => e.isFor p) with
  | some i, some e =>
    let r := place U e.size e.credits e.wptr
    let short := decide (e.credits < r.2.1)
    if full || short then
      some { entry := i, credit := short, buffer := full, noGrant := false, need := r.2.1, have_ := e.credits }
    else none
  | _, _ => some { entry := 0, credit := false, buffer := full, noGrant := true, need := U, have_ := 0 }

/-- R180: the entry after a SEND of U units. -/
def CreditEntry.spend (e : CreditEntry) (U : Nat) : CreditEntry :=
  let r := place U e.size e.credits e.wptr
  { e with credits := e.credits - r.2.1, wptr := r.2.2, seq := e.seq + 1#16 }

/-- The DATA message of a SEND (R180, R185). -/
def sendMsg (e : Env) (c : Core) (o : BitVec 18) (t : CreditEntry) : Msg :=
  let U := fImm6 o + 1
  let r := place U t.size t.credits t.wptr
  let me := c.res.getD { slot := 0, lrow := 0, lcol := 0 }
  { kind := .data, srcChip := e.chip, srcRow := BitVec.ofNat 6 me.lrow, srcCol := BitVec.ofNat 5 me.lcol,
    dstChip := t.chip, dstRow := t.row, dstCol := t.col, mbox := t.mbox, gen := BitVec.ofNat 8 e.gen, seq := t.seq,
    offset := BitVec.ofNat 12 r.1, units := BitVec.ofNat 13 r.2.1, len6 := BitVec.ofNat 6 (fImm6 o),
    payload := c.spRead (bits (c.rdG (fA o)).toNat 18 0) (64 * U) }

/-- An accepted SEND (R163, R180, R196): credits are spent, the payload is copied into the outbound buffer. A payload word
that cannot be corrected is a deferred fault, and no message leaves (R168, R169). -/
def actSend (e : Env) (iss : Issue) (o : BitVec 18) (old new : Core) : Core :=
  let p := endpointOf (old.rdG (fD o))
  let a := bits (old.rdG (fA o)).toNat 18 0
  match old.credits.find? (fun t => t.isFor p) with
  | none => new
  | some t =>
    let n := { new with
      credits := new.credits.map fun (u : CreditEntry) => if u.isFor p then u.spend (fImm6 o + 1) else u,
      sent := new.sent + 1#32,
      sendWait := SendWait.none }
    match old.badIn a (64 * (fImm6 o + 1)) with
    | some w => n.defer fcScratchData iss.slot.val old.pc (BitVec.ofNat 64 w)
    | none => { n with outbound := n.outbound ++ [sendMsg e old o t] }

/-- Scratchpad bytes an earlier MST or MSTK has yet to write (R142). -/
def Core.writePending (c : Core) (a n : Nat) : Bool :=
  ((c.m0.flatMap engWrites) ++ (c.m1.flatMap engWrites)).any fun e => overlaps e.1 e.2 a n

def sylSend (iss : Issue) (o : BitVec 18) : Syl :=
  { iss, group := 0xC, illegal := zeroBad o 0x3#18,
    fault := fun e c => sendFault e c o,
    busy := fun _ c => (sendState c o).isSome || c.writePending (bits (c.rdG (fA o)).toNat 18 0) (64 * (fImm6 o + 1)),
    note := fun c => { c with sendWait := (sendState c o).getD SendWait.none },
    act := fun e old new => actSend e iss o old new }

/-- The message RECV returns next (R190): the oldest held one, or in ROTA mode the oldest of the cursor's source. -/
def nextHeld (d : MboxDesc) (m : Mbox) : Option HeldMsg :=
  if d.rota then m.held.find? fun h => decide (h.src = m.cursor) else m.held.head?

/-- Source k of a mailbox (R175). -/
def Core.source (c : Core) (d : MboxDesc) (k : Nat) : SrcEntry := Tbl.get SrcEntry.zero c.srcTab (d.first + k)

/-- The byte offset of the sub-ring of source k within its mailbox (R175). -/
def subRing (c : Core) (d : MboxDesc) : Nat → Nat
  | 0 => 0
  | k + 1 => subRing c d k + 64 * ((c.source d k).share + 1)

/-- R164: what RECV writes to gd. -/
def recvWord (c : Core) (d : MboxDesc) (h : HeldMsg) : BitVec 64 :=
  BitVec.ofNat 64 (field (d.base + subRing c d h.src + 64 * h.offset) 19 0 + field h.len6 6 19 +
    field h.seq.toNat 16 32 + field h.chip.toNat 8 48)

def fMbox (o : BitVec 18) : Nat := bits o.toNat 3 0

def actRecv (o : BitVec 18) (old new : Core) : Core :=
  let b := fMbox o
  let m := Tbl.get Mbox.reset old.mbox b
  match Tbl.get none old.desc b with
  | none => new
  | some d =>
    match nextHeld d m with
    | none => new
    | some h =>
      let m' := { m with
        held := m.held.erase h,
        opened := m.opened ++ [h],
        cursor := if d.rota then (if m.cursor = d.nsrc then 0 else m.cursor + 1) else m.cursor }
      { new.wrG (fD o) (recvWord old d h) with
        mbox := Tbl.set Mbox.reset new.mbox b m', returned := new.returned + 1#32, recvWait := none }

/-- R164, R170, R190. -/
def sylRecv (iss : Issue) (o : BitVec 18) : Syl :=
  { iss, group := 0xC, illegal := zeroBad o 0x1FF0#18, dests := [.g (fD o)],
    fault := fun _ c => if (Tbl.get none c.desc (fMbox o)).isNone then some (fcMsgMbox, 0#64) else none,
    busy := fun _ c => match Tbl.get none c.desc (fMbox o) with
      | some d => (nextHeld d (Tbl.get Mbox.reset c.mbox (fMbox o))).isNone
      | none => false
    note := fun c => { c with recvWait := some (fMbox o) },
    act := fun _ old new => actRecv o old new }

/-- R182: the charge of a message of mailbox b released at an instant joins the credit-return that gathers for its source, or begins
one. -/
def addDue (b since : Nat) (h : HeldMsg) : List CreditDue → List CreditDue
  | [] => [{ mbox := b, src := h.src, units := h.charge, since }]
  | d :: t => if d.mbox = b ∧ d.src = h.src then { d with units := d.units + h.charge } :: t else d :: addDue b since h t

/-- The credit-return of `units` units to source k of mailbox b (R182, R185). -/
def creditReturn (e : Env) (c : Core) (d : MboxDesc) (b k units : Nat) : Msg :=
  let me := c.res.getD { slot := 0, lrow := 0, lcol := 0 }
  let s := c.source d k
  { kind := .creditReturn, srcChip := e.chip, srcRow := BitVec.ofNat 6 me.lrow, srcCol := BitVec.ofNat 5 me.lcol,
    dstChip := s.chip, dstRow := s.row, dstCol := s.col, mbox := BitVec.ofNat 4 b, gen := BitVec.ofNat 8 e.gen,
    seq := 0#16, offset := 0#12, units := BitVec.ofNat 13 units, len6 := 0#6, payload := [] }

/-- R182: the credit-returns whose 8 cc have passed since the first release they carry leave the core. -/
def Core.returnCredits (e : Env) (c : Core) : Core :=
  let ripe := c.creditDue.filter fun d => d.since + 32 ≤ e.quarters
  { c with
    creditDue := c.creditDue.filter fun d => ¬ d.since + 32 ≤ e.quarters,
    emit := c.emit ++ ripe.filterMap fun d => (Tbl.get none c.desc d.mbox).map fun m => creditReturn e c m d.mbox d.src d.units }

def fCreditN (o : BitVec 18) : Nat := bits o.toNat 9 4 + 1

/-- R164, R182, R191: the oldest open messages are released, and their charges go into credit-returns. -/
def actCredit (e : Env) (o : BitVec 18) (old new : Core) : Core :=
  let b := fMbox o
  let m := Tbl.get Mbox.reset old.mbox b
  match Tbl.get none old.desc b with
  | none => new
  | some _ =>
    { new with
      mbox := Tbl.set Mbox.reset new.mbox b { m with opened := m.opened.drop (fCreditN o) },
      creditDue := (m.opened.take (fCreditN o)).foldl (fun l h => addDue b e.quarters h l) new.creditDue }

/-- R164, R170, R182, R191. -/
def sylCredit (iss : Issue) (o : BitVec 18) : Syl :=
  { iss, group := 0xC, illegal := zeroBad o 0x3FC00#18,
    fault := fun _ c =>
      if (Tbl.get none c.desc (fMbox o)).isNone then some (fcMsgMbox, 0#64)
      else if (Tbl.get Mbox.reset c.mbox (fMbox o)).opened.length < fCreditN o then some (fcMsgCredit, 0#64)
      else none
    act := fun e old new => actCredit e o old new }

/-! Reduction offload (R165, R166). -/

def redIndex (c : Core) (o : BitVec 18) : Nat := bits (c.rdG (fA o)).toNat 7 0
def redChunk (c : Core) (o : BitVec 18) : Nat := bits (c.rdG (fA o)).toNat 31 16

/-- A contribution leaves the core for the reduction unit. -/
def Core.contribute (new : Core) (x : Contribution) : Core :=
  { new with contribs := new.contribs ++ [x], offloads := new.offloads ++ [(x.desc, x.chunk)] }

/-- R165, R168, R170: a tile's elements and flag byte. -/
def sylRputT (iss : Issue) (o : BitVec 18) : Syl :=
  { iss, group := 0xD, illegal := zeroBad o 0x20FF#18,
    fault := fun e c => if (Tbl.get none e.descs (redIndex c o)).isNone then some (fcRedDesc, 0#64) else none,
    dep := fun c => c.tileBusy (fTile o),
    busy := fun _ c => decide (4 ≤ c.offloads.length),
    act := fun _ old new =>
      let x := old.tile (fTile o)
      match firstBad x.bad 0 (if x.bad.isEmpty then 0 else 2048) with
      | some w => new.defer fcScratchData iss.slot.val old.pc (tileAddr (fTile o) (w / 8))
      | none =>
        new.contribute
          { desc := redIndex old o, chunk := redChunk old o, elems := (List.range 1024).map x.elem, flag := x.flag } }

/-- The scratchpad area of an RPUT.S: the descriptor's count of 16-byte elements (R165). -/
def rputArea (e : Env) (c : Core) (o : BitVec 18) : Nat × Nat :=
  (bits (c.rdG (fD o)).toNat 18 0, (Tbl.get none e.descs (redIndex c o)).getD 0)

/-- R165, R166, R168, R623: elements from the scratchpad, with the status word's low byte. -/
def sylRputS (iss : Issue) (o : BitVec 18) : Syl :=
  { iss, group := 0xD, illegal := zeroBad o 0xFF#18,
    fault := fun e c =>
      let a := rputArea e c o
      if (Tbl.get none e.descs (redIndex c o)).isNone then some (fcRedDesc, 0#64)
      else if a.1 % 64 ≠ 0 ∨ spEnd < a.1 + 16 * a.2 then some (fcRedRange, 0#64)
      else none
    dep := fun c => c.aswBusy,
    busy := fun e c => decide (4 ≤ c.offloads.length) || c.writePending (rputArea e c o).1 (16 * (rputArea e c o).2),
    act := fun e old new =>
      let a := rputArea e old o
      match old.badIn a.1 (16 * a.2) with
      | some w => new.defer fcScratchData iss.slot.val old.pc (BitVec.ofNat 64 w)
      | none =>
        new.contribute
          { desc := redIndex old o, chunk := redChunk old o,
            elems := (List.range a.2).map fun k => BitVec.ofNat 128 (Mem.readLE old.sp (a.1 + 16 * k) 16),
            flag := old.asw.extractLsb' 0 8 } }

end Sys2Proof.Machine
end

