-- ==== Sys2Proof/Machine/SylPacing.lean ====
section
/-! DEFINITION. Control flow and pacing, groups 0x4 and 0x5 (R116 to R118, R128 to R134, R623): one definition per syllable. -/

namespace Sys2Proof.Machine

/-! Group 0x4 (R117). A branch writes the PC of the core being built; an inactive one leaves PC + 16. -/

/-- A relative target (R117): offsets count bundles from the branch's own bundle. -/
def relTarget (c : Core) (off : BitVec 64) : BitVec 64 := c.pc + 16#64 * off

def off18 (o : BitVec 18) : BitVec 64 := o.signExtend 64

/-- The cc that a taken branch to t adds (R118, R141): 2 where the fetch buffer holds the target, and 5 where it does not, so that the
target can issue 6 cc after the branch (log entry 130). -/
def Core.branchWait (c : Core) (t : BitVec 64) : Nat :=
  if t.toNat / 64 ∈ c.fetched || decide (t.toNat / 64 = c.pc.toNat / 64) then 2 else 5

/-- A taken branch of the old core's bundle to t (R117, R118). -/
def Core.branch (old new : Core) (t : BitVec 64) : Core := { new with pc := t, fetchWait := old.branchWait t }

def sylBr (iss : Issue) (o : BitVec 18) : Syl :=
  { iss, group := 0x4, act := fun _ old new => Core.branch old new (relTarget old (off18 o)) }

def sylCall (iss : Issue) (o : BitVec 18) : Syl :=
  { iss, group := 0x4, dests := [.g 31],
    act := fun _ old new => Core.branch old (new.wrG 31 (old.pc + 16#64)) (relTarget old (off18 o)) }

/-- R117: a register target out of range, or not a multiple of 16. -/
def jumpFault (o : BitVec 18) (c : Core) : Option FaultAt :=
  let t := c.rdG (fA o)
  if spEnd ≤ t.toNat then some (fcFetchRange, t)
  else if t.toNat % 16 ≠ 0 then some (fcAlignment, t)
  else none

def sylJmp (iss : Issue) (o : BitVec 18) : Syl :=
  { iss, group := 0x4, illegal := zeroBad o 0x3E0FF#18, fault := fun _ c => jumpFault o c,
    act := fun _ old new => Core.branch old new (old.rdG (fA o)) }

/-- R117: g31 is written after ga is read. -/
def sylCallr (iss : Issue) (o : BitVec 18) : Syl :=
  { iss, group := 0x4, illegal := zeroBad o 0x3E0FF#18, dests := [.g 31], fault := fun _ c => jumpFault o c,
    act := fun _ old new => Core.branch old (new.wrG 31 (old.pc + 16#64)) (old.rdG (fA o)) }

/-- R118: a taken LOOP to a target 1 to 63 bundles back adds nothing. -/
def Core.loopBranch (old new : Core) (off : BitVec 13) : Core :=
  let t := relTarget old (off.signExtend 64)
  if off.toInt < 0 ∧ -64 < off.toInt then { new with pc := t } else Core.branch old new t

/-- R117: gc counts down; the branch is taken while the new gc is not zero. -/
def sylLoop (iss : Issue) (o : BitVec 18) : Syl :=
  { iss, group := 0x4, dests := [.g (fD o)],
    act := fun _ old new =>
      let n := old.rdG (fD o) - 1#64
      let w := new.wrG (fD o) n
      if n ≠ 0#64 then Core.loopBranch old w (fImm13 o) else w }

/-! Group 0x5 (R129). -/

/-- A BEAT of beat n issues late when its boundary had passed when the bundle was first eligible (R130). -/
def countLate (e : Env) (n : Nat) (old new : Core) : Core :=
  if n ≤ old.tried.getD e.beat then { new with late := new.late + 1#32 } else new

def sylBeat (iss : Issue) (o : BitVec 18) : Syl :=
  { iss, group := 0x5, wait := fun e _ => decide (e.beat < o.toNat), act := fun e old new => countLate e o.toNat old new }

/-- R129: the first boundary after issue is attempted. -/
def sylBeatNext (iss : Issue) (o : BitVec 18) : Syl :=
  { iss, group := 0x5, illegal := decide (o ≠ 0#18),
    wait := fun e c => match c.tried with
      | none => true
      | some b => decide (e.beat ≤ b) }

def sylBeatR (iss : Issue) (o : BitVec 18) : Syl :=
  { iss, group := 0x5, illegal := zeroBad o 0x3E0FF#18,
    wait := fun e c => decide (e.beat < (lo32 (c.rdG (fA o))).toNat),
    act := fun e old new => countLate e (lo32 (old.rdG (fA o))).toNat old new }

def sylKindleArm (iss : Issue) (o : BitVec 18) : Syl :=
  { iss, group := 0x5, illegal := decide (o ≠ 0#18), wait := fun e c => c.armWaits e,
    act := fun _ old new => Core.arm old new }

/-- R131: disarms at issue; MMAs already issued run to completion. -/
def sylKindleDisarm (iss : Issue) (o : BitVec 18) : Syl :=
  { iss, group := 0x5, illegal := decide (o ≠ 0#18), act := fun _ _ new => { new with armed := false, armFrom := none } }

/-- R132: the hint goes to the region's node, which holds it with the cycle of its issue. -/
def sylHint (iss : Issue) (o : BitVec 18) : Syl :=
  { iss, group := 0x5,
    act := fun e _ new =>
      { new with hint := some { level := bits o.toNat 17 14, lead := bits o.toNat 13 0, since := e.quarters } } }

/-- The value a STAT.READ selector names (R133). -/
def statValue (e : Env) (c : Core) (sel : Nat) : BitVec 64 :=
  match sel with
  | 0 => c.asw.zeroExtend 64
  | 1 => match c.res with
    | some r => BitVec.ofNat 64 (e.chip.toNat + field r.lrow 6 8 + field r.lcol 5 14)
    | none => 0#64
  | 2 => BitVec.ofNat 64 (field e.slot 10 0 + field e.gen 8 10 + field e.part 4 18 + field e.rowIn 6 22 + field e.colIn 5 28)
  | 3 => BitVec.ofNat 64 (e.beat % 2 ^ 32)
  | 4 => e.rt
  | 5 => e.steps
  | 6 => c.late.zeroExtend 64
  | _ => e.ccSince

/-- R133, R623: the status word is interlocked like a register. -/
def sylStatRead (iss : Issue) (o : BitVec 18) : Syl :=
  { iss, group := 0x5, illegal := zeroBad o 0x1FF8#18, dests := [.g (fD o)],
    dep := fun c => decide (fMod o = 0) && c.aswBusy,
    act := fun e old new => new.wrG (fD o) (statValue e old (fMod o)) }

/-- R133, R623: clears the bits set in ga before the flags of its own bundle are ORed in. -/
def sylStatClr (iss : Issue) (o : BitVec 18) : Syl :=
  { iss, group := 0x5, illegal := zeroBad o 0x3E0FF#18, dep := fun c => c.aswBusy,
    act := fun _ old new => new.clearAsw (old.rdG (fA o)) }

/-- R134: the end of the core's part of the step. -/
def sylStepend (iss : Issue) (o : BitVec 18) : Syl :=
  { iss, group := 0x5, illegal := decide (o ≠ 0#18), act := fun _ _ new => { new with ended := true } }

/-- R115, R129: an active BRK raises BREAK; its code8 goes to CORE_FAULT_ADDR[7:0]. -/
def sylBrk (iss : Issue) (o : BitVec 18) : Syl :=
  { iss, group := 0x5, illegal := zeroBad o 0x3FF00#18,
    fault := fun _ _ => some (fcBreak, BitVec.ofNat 64 (bits o.toNat 7 0)) }

end Sys2Proof.Machine
end

