-- ==== Sys2Proof/Machine/Bundle.lean ====
section
/-! DEFINITION. The issue logic of a core (R98 to R114, R128): syllables gather into a bundle, and a complete bundle issues
whole, faults, or stalls and is held. -/

namespace Sys2Proof.Machine

/-- The syllable a command stands for; a command that is not a syllable stands for none. -/
def sylOf : Instr → Option Syl
  | .nop iss grp op ops => some (sylNop iss grp op ops)
  | .add iss ops => some (sylAdd iss ops)
  | .sub iss ops => some (sylSub iss ops)
  | .and iss ops => some (sylAnd iss ops)
  | .or iss ops => some (sylOr iss ops)
  | .xor iss ops => some (sylXor iss ops)
  | .shl iss ops => some (sylShl iss ops)
  | .shr iss ops => some (sylShr iss ops)
  | .sra iss ops => some (sylSra iss ops)
  | .mul iss ops => some (sylMul iss ops)
  | .mulh iss ops => some (sylMulh iss ops)
  | .mulhu iss ops => some (sylMulhu iss ops)
  | .div iss ops => some (sylDiv iss ops)
  | .divu iss ops => some (sylDivu iss ops)
  | .rem iss ops => some (sylRem iss ops)
  | .remu iss ops => some (sylRemu iss ops)
  | .min iss ops => some (sylMin iss ops)
  | .max iss ops => some (sylMax iss ops)
  | .minu iss ops => some (sylMinu iss ops)
  | .maxu iss ops => some (sylMaxu iss ops)
  | .mov iss ops => some (sylMov iss ops)
  | .clz iss ops => some (sylClz iss ops)
  | .popc iss ops => some (sylPopc iss ops)
  | .cmp iss ops => some (sylCmp iss ops)
  | .fadd iss ops => some (sylFadd iss ops)
  | .fsub iss ops => some (sylFsub iss ops)
  | .fmul iss ops => some (sylFmul iss ops)
  | .fma iss ops => some (sylFma iss ops)
  | .fmin iss ops => some (sylFmin iss ops)
  | .fmax iss ops => some (sylFmax iss ops)
  | .fcmp iss ops => some (sylFcmp iss ops)
  | .movi iss ops => some (sylMovi iss ops)
  | .movk iss k ops => some (sylMovk iss k ops)
  | .addi iss ops => some (sylAddi iss ops)
  | .ldB iss ops => some (sylLdB iss ops)
  | .ldH iss ops => some (sylLdH iss ops)
  | .ldW iss ops => some (sylLdW iss ops)
  | .ldD iss ops => some (sylLdD iss ops)
  | .ldBu iss ops => some (sylLdBu iss ops)
  | .ldHu iss ops => some (sylLdHu iss ops)
  | .ldWu iss ops => some (sylLdWu iss ops)
  | .stB iss ops => some (sylStB iss ops)
  | .stH iss ops => some (sylStH iss ops)
  | .stW iss ops => some (sylStW iss ops)
  | .stD iss ops => some (sylStD iss ops)
  | .br iss ops => some (sylBr iss ops)
  | .call iss ops => some (sylCall iss ops)
  | .jmp iss ops => some (sylJmp iss ops)
  | .callr iss ops => some (sylCallr iss ops)
  | .loop iss ops => some (sylLoop iss ops)
  | .beat iss ops => some (sylBeat iss ops)
  | .beatNext iss ops => some (sylBeatNext iss ops)
  | .beatR iss ops => some (sylBeatR iss ops)
  | .kindleArm iss ops => some (sylKindleArm iss ops)
  | .kindleDisarm iss ops => some (sylKindleDisarm iss ops)
  | .hint iss ops => some (sylHint iss ops)
  | .statRead iss ops => some (sylStatRead iss ops)
  | .statClr iss ops => some (sylStatClr iss ops)
  | .stepend iss ops => some (sylStepend iss ops)
  | .brk iss ops => some (sylBrk iss ops)
  | .vaddF iss ops => some (sylVaddF iss ops)
  | .vsubF iss ops => some (sylVsubF iss ops)
  | .vmulF iss ops => some (sylVmulF iss ops)
  | .vfmaF iss ops => some (sylVfmaF iss ops)
  | .vminF iss ops => some (sylVminF iss ops)
  | .vmaxF iss ops => some (sylVmaxF iss ops)
  | .vabsF iss ops => some (sylVabsF iss ops)
  | .vnegF iss ops => some (sylVnegF iss ops)
  | .vaddI iss ops => some (sylVaddI iss ops)
  | .vsubI iss ops => some (sylVsubI iss ops)
  | .vmulI iss ops => some (sylVmulI iss ops)
  | .vmadI iss ops => some (sylVmadI iss ops)
  | .vand iss ops => some (sylVand iss ops)
  | .vor iss ops => some (sylVor iss ops)
  | .vxor iss ops => some (sylVxor iss ops)
  | .vshl iss ops => some (sylVshl iss ops)
  | .vshr iss ops => some (sylVshr iss ops)
  | .vsra iss ops => some (sylVsra iss ops)
  | .vminI iss ops => some (sylVminI iss ops)
  | .vmaxI iss ops => some (sylVmaxI iss ops)
  | .vsel iss ops => some (sylVsel iss ops)
  | .vld iss ops => some (sylVld iss ops)
  | .vst iss ops => some (sylVst iss ops)
  | .vperm iss ops => some (sylVperm iss ops)
  | .vrot iss ops => some (sylVrot iss ops)
  | .vbcast iss ops => some (sylVbcast iss ops)
  | .vredAddF iss ops => some (sylVredAddF iss ops)
  | .vredAddI iss ops => some (sylVredAddI iss ops)
  | .vredMaxF iss ops => some (sylVredMaxF iss ops)
  | .vredMinF iss ops => some (sylVredMinF iss ops)
  | .vext iss ops => some (sylVext iss ops)
  | .vins iss ops => some (sylVins iss ops)
  | .vcmpF iss ops => some (sylVcmpF iss ops)
  | .vcmpI iss ops => some (sylVcmpI iss ops)
  | .pand iss ops => some (sylPand iss ops)
  | .por iss ops => some (sylPor iss ops)
  | .pxor iss ops => some (sylPxor iss ops)
  | .pandn iss ops => some (sylPandn iss ops)
  | .pmovG iss ops => some (sylPmovG iss ops)
  | .pmovP iss ops => some (sylPmovP iss ops)
  | .mmaKaf iss ops => some (sylMmaKaf iss ops)
  | .mmaF32 iss ops => some (sylMmaF32 iss ops)
  | .mwin iss ops => some (sylMwin iss ops)
  | .mrwin iss ops => some (sylMrwin iss ops)
  | .mzeroF iss ops => some (sylMzeroF iss ops)
  | .mst iss ops => some (sylMst iss ops)
  | .mstk iss ops => some (sylMstk iss ops)
  | .mldk iss ops => some (sylMldk iss ops)
  | .cvt iss mods ops => some (sylCvt iss mods ops)
  | .dmaLd iss ops => some (sylDmaLd iss ops)
  | .dmaSt iss ops => some (sylDmaSt iss ops)
  | .dmaFence iss ops => some (sylDmaFence iss ops)
  | .send iss ops => some (sylSend iss ops)
  | .recv iss ops => some (sylRecv iss ops)
  | .credit iss ops => some (sylCredit iss ops)
  | .rputT iss ops => some (sylRputT iss ops)
  | .rputS iss ops => some (sylRputS iss ops)
  | _ => none

/-- Double destination (R104): another syllable of the bundle names one of its destination registers. -/
def doubleDest (ys : List Syl) (y : Syl) : Bool :=
  ys.any fun z => decide (z.iss.slot ≠ y.iss.slot) && z.dests.any fun d => decide (d ∈ y.dests)

/-- A fault that depends only on the bits of the bundle (R99 to R106, R115). -/
def bitFault (ys : List Syl) (y : Syl) : Option FaultAt :=
  if y.illegal then some (fcInstruction, 0#64)
  else if !slotAllowed y.group y.iss.slot.val || (y.s1Only && decide (y.iss.slot.val ≠ 1)) || doubleDest ys y then
    some (fcBundle, 0#64)
  else if y.badFormat then some (fcFormat, 0#64)
  else none

/-- A syllable's precise fault (R106, R112): a bit-only fault whether or not it is active, any other only when it is. -/
def sylFault (e : Env) (c : Core) (ys : List Syl) (y : Syl) : Option FaultAt :=
  (bitFault ys y).or (if y.active c then y.fault e c else none)

/-- A fault stops the core; the first record holds (R114). -/
def Core.takeFault (c : Core) (f : FaultRec) : Core :=
  { c with fault := some (c.fault.getD f), deferred := none, bundle := [], holding := false, waiting := false,
           tried := none, armFrom := none, sendWait := SendWait.none, recvWait := none }

/-- The fetch buffer once the bundle at PC has been fetched: the last 16 blocks of four bundles (R116, R141; log entry 130). -/
def Core.fetch (c : Core) : List Nat :=
  let b := c.pc.toNat / 64
  (b :: c.fetched.filter fun x => x ≠ b).take 16

/-- The core with its bundle gone and PC on the next one, before any effect (R116). -/
def Core.advance (c : Core) : Core :=
  { c with pc := c.pc + 16#64, fetched := c.fetch, issued := c.issued + 1#48, idleUs := 0, bundle := [], holding := false,
           waiting := false, tried := none, armFrom := none, sendWait := SendWait.none, recvWait := none }

/-- The whole bundle issues: every active syllable reads the core before it (R104). An operation handed to an engine reads the
scratchpad when it completes, so it sees a store of its own bundle (R142; log entry 57). -/
def Core.issueAll (e : Env) (c : Core) (ys : List Syl) : Core :=
  (ys.filter fun y => y.active c).foldl (fun new y => y.act e c new) c.advance

/-- A fault of the fetch itself (R115): PC out of range, or a word of the bundle that cannot be corrected. -/
def fetchFault (c : Core) : Option FaultAt :=
  if spEnd < c.pc.toNat + 16 then some (fcFetchRange, c.pc)
  else match c.badIn c.pc.toNat 16 with
    | some w => some (fcScratchData, BitVec.ofNat 64 w)
    | none => none

/-- The lowest faulting slot of a bundle (R112). -/
def firstFault (e : Env) (c : Core) (ys : List Syl) : Option FaultRec :=
  ys.findSome? fun y => (sylFault e c ys y).map fun f =>
    { code := f.1, slot := y.iss.slot.val, deferred := false, pc := c.pc, addr := f.2 }

/-- The record of a fault of the fetch: no syllable is named, and SLOT is recorded as 0 (log entry 56). -/
def fetchRecord (c : Core) (f : FaultAt) : FaultRec := { code := f.1, slot := 0, deferred := false, pc := c.pc, addr := f.2 }

/-- The active syllables of a bundle that can be fetched and whose bits raise no fault: those that R107 lets wait. -/
def Core.live (c : Core) (ys : List Syl) : List Syl :=
  if (fetchFault c).isSome then [] else ys.filter fun y => y.active c && (bitFault ys y).isNone

/-- The live syllables that raise no precise fault: a syllable that faults waits for nothing of its own (log entry 8). -/
def Core.able (e : Env) (c : Core) (ys : List Syl) : List Syl := (c.live ys).filter fun y => (y.fault e c).isNone

/-- The first condition of R107 that holds the bundle, by its cause of R136: HOLD, the pattern or a clock change, a register
dependence, a waiting syllable, a unit that does not accept or a bundle not yet fetched (R118). -/
def Core.stallCause (e : Env) (c : Core) (ys : List Syl) : Option Nat :=
  if e.hold then some 0
  else if !e.permitted || e.clockChange then some 1
  else if 0 < c.fetchWait then some 4
  else if (c.live ys).any fun y => y.dep c then some 2
  else if c.deferred.isSome then none
  else if (c.able e ys).any fun y => y.wait e c then some 3
  else if (c.able e ys).any fun y => y.busy e c then some 4
  else none

/-- What the debug window shows of a bundle held by cause k (R130, R136, R171, R198): a bundle held for its waiting syllables or for a
unit has its first eligible beat and arm instant noted. -/
def Core.held (e : Env) (c : Core) (ys : List Syl) (k : Nat) : Core :=
  let first : Core := { c with tried := some (c.tried.getD e.beat) }
  if k = 3 then { first with waiting := true, armFrom := some (c.armFrom.getD e.armNext) }
  else if k = 4 ∧ c.fetchWait = 0 then
    ((c.able e ys).filter fun y => y.busy e c).foldl (fun d y => y.note d) { first with waiting := false }
  else c

/-- One attempt to issue a complete bundle: the conditions of R107 in order, a deferred fault at the instant before the bundle would
issue (R113), then the precise faults, then the effects. -/
def Core.attempt (e : Env) (c : Core) (ys : List Syl) : Core :=
  match c.stallCause e ys with
  | some k => c.held e ys k
  | none =>
    match c.deferred with
    | some f => c.takeFault f
    | none =>
      match fetchFault c with
      | some f => c.takeFault (fetchRecord c f)
      | none =>
        match firstFault e c ys with
        | some f => c.takeFault f
        | none => c.issueAll e ys

/-- A syllable takes its slot of the gathering bundle; slots stay in ascending order. -/
def insertSyl (i : Instr) (k : Fin 4) : List Instr → List Instr
  | [] => [i]
  | j :: t =>
    match sylOf j with
    | some z => if k < z.iss.slot then i :: j :: t else if k = z.iss.slot then i :: t else j :: insertSyl i k t
    | none => i :: t

/-- The syllables of the gathered bundle. -/
def Core.syls (c : Core) : List Syl := c.bundle.filterMap sylOf

/-- Whether the core takes syllables: a resident context, no fault, not stopped, not ended, not arrived (R114, R134). -/
def Core.running (c : Core) : Bool :=
  c.res.isSome && c.fault.isNone && !c.stopped && !c.ended

/-- A syllable is presented to a core (R98, R107): the last one completes the bundle, which is then attempted. A core that
does not run, or that still holds a bundle, is left as it is (log entry 9). -/
def Core.present (e : Env) (c : Core) (i : Instr) (iss : Issue) : Core :=
  if !c.running || c.holding then c
  else
    let d := { c with bundle := insertSyl i iss.slot c.bundle, holding := iss.last }
    if iss.last then d.attempt e d.syls else d

/-- The 128 bits of the bundle at PC (R98, R116). -/
def Core.bundleWord (c : Core) : BitVec 128 := BitVec.ofNat 128 (Mem.readLE c.sp c.pc.toNat 16)

/-- R107, R116, R128: a held bundle is attempted again; a core that holds none and gathers none fetches the bundle at PC from its
scratchpad and attempts it (log entry 9). -/
def Core.retry (e : Env) (k : Fin 1728) (c : Core) : Core :=
  if !c.running then c
  else if c.holding then c.attempt e c.syls
  else if c.bundle.isEmpty then
    let d := { c with bundle := decodeBundle k c.bundleWord, holding := true }
    d.attempt e d.syls
  else c

/-! The stall counters (R111, R136, R198). -/

/-- One cc of a core whose bundle waits: the cc is charged to the first failing condition, and to CREDIT_STALL too while a SEND waits on
credits or a grant. -/
def Core.chargeCycle (e : Env) (c : Core) : Core :=
  if !c.running || (!c.holding && c.fetchWait = 0) then c
  else match c.stallCause e c.syls with
    | none => c
    | some k => { c with
        stall := Tbl.update 0#64 c.stall k (· + 1#64),
        fetchWait := if e.clockChange then c.fetchWait else c.fetchWait - 1,
        creditStall := if k = 4 ∧ (c.sendWait.credit || c.sendWait.noGrant) then c.creditStall + 1#64 else c.creditStall }

end Sys2Proof.Machine
end

