-- ==== Sys2Proof/Machine/GridOps.lean ====
section
/-! DEFINITION. The core grid (chapter 03): retire masks, the logical to physical map, dark spans, gating and short rows. -/

namespace Sys2Proof.Machine

/-- The grid's masks (R88, R94): factory fuses, the active masks, and the regions with no rail, lost or gated. The target
of a row is FUSE_MAP OR KEEP_RETIRE. -/
structure Grid where
  fuse : Tbl (BitVec 36)
  active : Tbl (BitVec 36)
  /-- retirements kept for this power cycle only, when a keep register is at its limit (R91) -/
  cycleRetire : Tbl (BitVec 36)
  present : BitVec 48
  /-- the rows whose repair application has not ended, and the local time at which it ends (R89, R90) -/
  applying : List Nat
  applyTill : Nat
deriving DecidableEq, Repr

/-- R94: all rows present; the factory masks hold no retirement (log entry 12). -/
def Grid.reset : Grid := { fuse := [], active := [], cycleRetire := [], present := BitVec.allOnes 48, applying := [], applyTill := 0 }

/-- R71: the region and cluster of a physical position. -/
def regionOf (r x : Nat) : Nat := (r / 2) * 18 + x / 2
def clusterOf (r x : Nat) : Nat := (r / 4) * 9 + x / 4
/-- The cluster of a region, and the cluster's four regions. -/
def clusterOfRegion (i : Nat) : Nat := (i / 18 / 2) * 9 + (i % 18) / 2
def regionsOfCluster (j : Nat) : List Nat :=
  let a := (j / 9) * 2 * 18 + (j % 9) * 2
  [a, a + 1, a + 18, a + 19]
/-- The die of a region, a cluster or a row. -/
def dieOfRegion (i : Nat) : Nat := i / 216
def dieOfCluster (j : Nat) : Nat := j / 54
/-- A core's index in physical order (R76). -/
def coreIdx (r x : Nat) : Nat := r * 36 + x
/-- The region and cluster of a core by its physical index. -/
def regionOfCore (k : Nat) : Nat := regionOf (k / 36) (k % 36)
def clusterOfCore (k : Nat) : Nat := clusterOf (k / 36) (k % 36)
/-- The four cores of a region (R72). -/
def coresOfRegion (i : Nat) : List Nat :=
  let r := (i / 18) * 2
  let x := (i % 18) * 2
  [coreIdx r x, coreIdx r (x + 1), coreIdx (r + 1) x, coreIdx (r + 1) (x + 1)]
def coresOfCluster (j : Nat) : List Nat := (regionsOfCluster j).flatMap coresOfRegion

/-- R74: the physical columns of a row that its mask does not retire, west to east, at most 32. -/
def mapRow (mask : BitVec 36) : List Nat := ((List.range 36).filter fun x => !mask.getLsbD x).take 32

/-- The columns at which a span of more than two consecutive dark positions begins (R77). -/
def longSpans (dark : Nat → Bool) : List Nat :=
  (List.range 36).filter fun x =>
    dark x && (x = 0 || !dark (x - 1)) && dark (x + 1) && dark (x + 2) && decide (x + 2 < 36)

/-- R74, R78: the row is short: fewer than 32 positions left, or a dark span wider than two begins within its mapped columns. -/
def rowShort (mask : BitVec 36) (dark : Nat → Bool) : Bool :=
  let m := mapRow mask
  decide (m.length < 32) || (longSpans dark).any fun x => decide (x ≤ m.getD 31 0)

/-- R81: the positions a row targets: none for a short row. -/
def rowTargets (mask : BitVec 36) (short : Bool) : List Nat := if short then [] else mapRow mask

/-- What R81 decides for the regions of one row pair, in ascending region column: true gates the region. `lost` says which
regions have lost their rail, `target` which are targeted, `east` the columns phys[r][31] of the pair's present rows. -/
def gatePair (lost target : Nat → Bool) (east : List Nat) : Nat → List Bool
  | 0 => []
  | n + 1 =>
    let before := gatePair lost target east n
    let c := n
    let neighbourLost := (decide (0 < c) && lost (c - 1)) || (decide (c < 17) && lost (c + 1))
    let westGated := decide (0 < c) && before.getD (c - 1) false && east.any fun x => decide (2 * (c - 1) ≤ x)
    before ++ [!target c && !lost c && !neighbourLost && !westGated]

/-- R81 for a row pair p: the gated region columns, from the two rows' masks and the lost regions. -/
def gatedOfPair (m0 m1 : BitVec 36) (lost : Nat → Bool) : List Bool :=
  let dark := fun x => lost (x / 2)
  let s0 := rowShort m0 dark
  let s1 := rowShort m1 dark
  let t := rowTargets m0 s0 ++ rowTargets m1 s1
  let east := (if s0 then [] else [(mapRow m0).getD 31 0]) ++ (if s1 then [] else [(mapRow m1).getD 31 0])
  gatePair lost (fun c => t.any fun x => x / 2 = c) east 18

/-- The logical column that a physical column of a row serves, if any (R74). -/
def logicalCol (mask : BitVec 36) (x : Nat) : Option Nat := (mapRow mask).findIdx? (· = x)

end Sys2Proof.Machine
end

