-- ==== Sys2Proof/Machine/RegState.lean ====
section
/-! DEFINITION. The state of the power chain, the region regulators and the damper (chapters 12, 13 and 15). -/

namespace Sys2Proof.Machine

/-! Region regulators (chapter 13). -/

/-- REGION_STATE.STATE, in the order of its codes (R94). -/
inductive RegionMode where
  | powered | carried | gatedSpare | gatedRetired | dark
deriving DecidableEq, Repr

def RegionMode.code : RegionMode → Nat
  | .powered => 0 | .carried => 1 | .gatedSpare => 2 | .gatedRetired => 3 | .dark => 4

/-- A region that has a rail (R72, R81). -/
def RegionMode.railed : RegionMode → Bool
  | .powered | .carried => true
  | _ => false

/-- A bellows (R364, R373), in the order of the BELLOWS codes. -/
inductive Bellows where
  | full | releasing | recharging | off
deriving DecidableEq, Repr

def Bellows.code : Bellows → Nat
  | .full => 0 | .releasing => 1 | .recharging => 2 | .off => 3

/-- A ring command of a node (R368, R369): operation, sequence number, argument, slew code. -/
structure RingCmd where
  op : Nat
  seq : Nat
  arg : Nat
  slew : Nat
deriving DecidableEq, Repr

/-- A command the PTC awaits a response to (R370): its timeouts, whether it is the check of condition 4, its deadline in ns LT. -/
structure SentCmd where
  cmd : RingCmd
  timeouts : Nat
  check : Bool
  due : Nat
deriving DecidableEq, Repr

/-- A hint a region node holds for the flue (R374). -/
structure NodeHint where
  core : Nat
  level : Nat
  lead : Nat
  /-- the region's total of quarter cycles, and the rack time, at its issue (R132) -/
  since : Nat
  at_ : Nat
deriving DecidableEq, Repr

/-- A region: REGION_STATE, REG_SET, REG_TEL, the ring node, the rail, the clock and the levels (R94, R360 to R385, R420 to R424). -/
structure Region where
  mode : RegionMode
  cal : Bool
  regfail : Bool
  /-- REG_SET: set-point in force, target, slew, response code, sequence number, stored bias -/
  setpt : Nat
  target : Nat
  slew : Nat
  resp : Nat
  seq : Nat
  bias : Nat
  /-- the commands that await a response, the oldest first (R370) -/
  sent : List SentCmd
  /-- the node: last command accepted with its response frame once given, the SET, START or GATE still ramping, the UNTIE that waits -/
  nodeLast : Option RingCmd
  nodeResp : Option (BitVec 64)
  ramping : Option RingCmd
  untie : Option RingCmd
  /-- the output is enabled; opened by a failure; reference code; codes raised by pre-bias; every stage enabled by it (R371) -/
  enabled : Bool
  opened : Bool
  ref : Nat
  raised : Nat
  stages : Bool
  tie : Bool
  hold : Bool
  bellows : Bellows
  /-- REG_TEL -/
  vout : Nat
  iout : Nat
  temp : Nat
  telBellows : Bellows
  stale : Bool
  holds : Nat
  releases : Nat
  /-- FSEQ of the lane's last slot of the region as the PTC counts it -/
  fseq : Option Nat
  /-- the node's own frame count and the HOLD assertions of the period (R373) -/
  frames : Nat
  holdsNow : Nat
  /-- hints held for the region's four cores, and the core that the last hint delivered came from (R374) -/
  hints : List NodeHint
  hintTurn : Nat
  /-- the self-limit of a tied regulator (R617) -/
  limited : Bool
  /-- the condition of R375 the region itself detected, 0 for none -/
  cond : Nat
  /-- the clock code k of 0.60 GHz + 25 MHz × k, a change waiting for its boundary, the cap (R423, R424) -/
  clock : Nat
  nextClock : Option Nat
  cap : Nat
  /-- the thermal level (R424) -/
  therm : Nat
  /-- sum and count of the issue level over the beat so far (R423) -/
  levelSum : Nat
  levelN : Nat
  /-- quarter cycles of the region's clock since the last release on it (R110), and since the model's reset (R132, R133, R182) -/
  cyc : Nat
  quarters : Nat
  /-- the issue level in force in this cc (R110) -/
  levelNow : Nat
  /-- the clock change under way ends at this local time (R111), and the rack time before which no other begins (R209) -/
  changeTill : Nat
  changeNext : Nat
deriving DecidableEq, Repr

/-- R385, R423: the reset values; at INIT every region runs at F_MAX 42. -/
def Region.reset : Region :=
  { mode := .powered, cal := false, regfail := false, setpt := 0, target := 0, slew := 0, resp := 0,
    seq := 0, bias := 0, sent := [], nodeLast := none, nodeResp := none, ramping := none, untie := none,
    enabled := false, opened := false, ref := 0, raised := 0, stages := false, tie := false, hold := false, bellows := .off, vout := 0,
    iout := 0, temp := 0, telBellows := .off, stale := false, holds := 0, releases := 0, fseq := none, frames := 0, holdsNow := 0, hints := [], hintTurn := 0,
    limited := false, cond := 0, clock := 42, nextClock := none, cap := 42, therm := 16, levelSum := 0, levelN := 0, cyc := 0,
    quarters := 0, levelNow := 16, changeTill := 0, changeNext := 0 }

/-- A cluster: CLUSTER_STATE.STATE dark or not, the guard cap and its level (R94, R378, R380). -/
structure Cluster where
  dark : Bool
  guard : Bool
  level : Nat
deriving DecidableEq, Repr

def Cluster.reset : Cluster := { dark := false, guard := false, level := 16 }

/-- The set-point rings, the flue lanes and the calibration (R372, R374, R381 to R385). -/
structure RegSys where
  regions : Tbl Region
  clusters : Tbl Cluster
  calDays : Nat
  ringTo : Nat
  flueErr : Nat
  calRegion : Nat
  calActive : Bool
  /-- a calibration ordered by REG_CAL rather than automatic (R383, R485) -/
  calCmd : Bool
  /-- the region automatic calibration takes next -/
  calNext : Nat
  /-- the CAL frame that started the calibration (R369), and, once a cluster-mate has failed, the local time by which the calibrated
  regulator is back in its group (R384) -/
  calRing : Option RingCmd
  calDrop : Option Nat
  /-- rings declared broken, by die; flue lanes silent, 6 × die + cluster row, then the phases' four; when each last delivered a frame -/
  broken : Tbl Bool
  silent : Tbl Bool
  heardAt : Tbl Nat
  /-- local time at which a ring was declared broken (R474) -/
  brokenAt : Tbl Nat
deriving DecidableEq, Repr

def RegSys.reset : RegSys :=
  { regions := [], clusters := [], calDays := 7, ringTo := 0, flueErr := 0, calRegion := 0, calActive := false,
    calCmd := false, calNext := 0, calRing := none, calDrop := none, broken := [], silent := [], heardAt := [], brokenAt := [] }

/-! The power chain (chapter 12). -/

/-- PWR_RAIL (R359): STATE 0 OFF, 1 IN_WINDOW, 2 OUT_OF_WINDOW, 3 HELD. -/
structure Rail where
  mv : Nat
  cur : Nat
  state : Nat
  faults : Nat
  units : BitVec 8
deriving DecidableEq, Repr

def Rail.reset : Rail := { mv := 0, cur := 0, state := 0, faults := 0, units := 0#8 }

/-- The input stage and the rails (R347 to R359). -/
structure Power where
  closed : Bool
  /-- the bus at the connector in mV, the bus draw in W and current in 10 mA, as last measured (R358) -/
  busMv : Nat
  busCur : Nat
  rails : Tbl Rail
  etaR : Nat
  etaF : Nat
  etaP : Nat
  etaB : Nat
  auxW : Nat
  memBase : Nat
  memSpan : Nat
  linkBase : Nat
  linkSpan : Nat
  edgeBase : Nat
  edgeMem : Nat
  edgeLink : Nat
  idleA : Nat
  /-- written values of PWR_MODEL and PWR_MODEL_LOAD that wait for the next beat (R359) -/
  wait : Option (Nat × Nat)
deriving DecidableEq, Repr

/-- R359: the reset values; at the start of INIT the stage has closed on the bus (R350, R577). -/
def Power.reset : Power :=
  { closed := true, busMv := 50000, busCur := 0, rails := [], etaR := 880, etaF := 900, etaP := 890, etaB := 975, auxW := 18,
    memBase := 80, memSpan := 240, linkBase := 90, linkSpan := 40, edgeBase := 40, edgeMem := 35, edgeLink := 25, idleA := 8,
    wait := none }

/-! The draw budget and the damper (chapter 15). -/

/-- A point of a trajectory: ns RT and W (R431). -/
structure TrajPoint where
  rt : Nat
  w : Nat
deriving DecidableEq, Repr

/-- A dispatch trajectory (R431). -/
structure Traj where
  id : Nat
  points : List TrajPoint
deriving DecidableEq, Repr

/-- A TEL_FAST entry (R437). -/
structure TelFast where
  rt : BitVec 64
  meas : Nat
  tgt : Nat
  store : Int
  fwd : Nat
deriving DecidableEq, Repr

def TelFast.reset : TelFast := { rt := 0#64, meas := 0, tgt := 0, store := 0, fwd := 0 }

/-- Averages of a window (R438): mV, 10 mA, W, °C. -/
structure TelAvg where
  v : Nat
  i : Nat
  p : Nat
  t : Nat
deriving DecidableEq, Repr

def TelAvg.reset : TelAvg := { v := 0, i := 0, p := 0, t := 0 }

/-- Peaks held (R438): W, 10 mA, mV, °C. -/
structure Peaks where
  p : Nat
  i : Nat
  v : Nat
  t : Nat
deriving DecidableEq, Repr

def Peaks.reset : Peaks := { p := 0, i := 0, v := 0xFFFF, t := 0 }

/-- A hint that has reached the forecast (R428). -/
structure DueHint where
  region : Nat
  level : Nat
  at_ : Nat
deriving DecidableEq, Repr

/-- The draw budget, the damper, dispatch and telemetry (R414 to R439). Powers in mW where a name ends in Mw, else W. -/
structure Draw where
  ceiling : Nat
  floor : Nat
  ramp : Nat
  prio : Nat
  guard : Nat
  rampMw : Nat
  bind : Nat
  lag : Bool
  overDraw : Bool
  under : Bool
  brake : Bool
  distrust : Bool
  suspect : Bool
  limit : Nat
  /-- the last sample of DRAW_LIMIT was absent or invalid (R434) -/
  limitBad : Bool
  source : Nat
  overEvents : Nat
  fMax : Nat
  vfLo : Nat
  vfHi : Nat
  level0 : Nat
  level1 : Nat
  phiM : Nat
  phiL : Nat
  repaces : Nat
  pace : Nat
  /-- local time of the last cut and the last rise of a die's level, and since when every window held Ê ≤ 0.95 D (R421) -/
  cutAt : Tbl Nat
  riseAt : Tbl Nat
  quietFrom : Tbl Nat
  /-- compute allowance of each die in mW (R421), and the last estimate of each die in mW -/
  allowMw : Tbl Nat
  estDieMw : Tbl Nat
  estMw : Nat
  measMw : Nat
  chkMw : Nat
  distrusts : Nat
  /-- local times of the FORCED entries within the last 10 ms (R429) -/
  forced : List Nat
  /-- since when the estimate disagrees, or agrees; since when the sensor check disagrees, or agrees (R429, R430) -/
  disFrom : Option Nat
  agreeFrom : Option Nat
  senseFrom : Option Nat
  okFrom : Option Nat
  storeMw : Int
  traj : Option Traj
  pend : Option Traj
  refused : Nat
  /-- p_int averaged over the last 10 ms LT (R625), as samples of 1 ms -/
  intAvg : List Nat
  telLast : Nat
  telCount : Nat
  tel : Tbl TelFast
  avgMs : TelAvg
  avgS : TelAvg
  /-- the highest region temperature of the running 1 ms window -/
  tMax : Nat
  /-- the forward bus draw in mW and current in mA of the beat in force (R357) -/
  fwdBusMw : Int
  fwdBusMa : Int
  /-- sums of the running 1 s window and how many 1 ms windows it holds -/
  sumS : TelAvg
  nS : Nat
  peaks : Peaks
  /-- the rack's own peaks (R438, R574) -/
  rackPeaks : Peaks
  /-- hints that frames have brought to the die's forecast, until their instant: region, level, instant in ns RT (R428) -/
  hints : List DueHint
deriving DecidableEq, Repr

/-- R439: the reset values. -/
def Draw.reset : Draw :=
  { ceiling := 2400, floor := 200, ramp := 10, prio := 0, guard := 10, rampMw := 0, bind := 0, lag := false, overDraw := false,
    under := false, brake := false, distrust := false, suspect := false, limit := 600, limitBad := false, source := 0, overEvents := 0,
    fMax := 42, vfLo := 32, vfHi := 96, level0 := 16, level1 := 16, phiM := 8, phiL := 8, repaces := 0, pace := 256,
    cutAt := [], riseAt := [], quietFrom := [], allowMw := [], estDieMw := [], estMw := 0, measMw := 0, chkMw := 0,
    distrusts := 0, forced := [], disFrom := none, agreeFrom := none, senseFrom := none, okFrom := none, storeMw := 0,
    traj := none, pend := none, refused := 0, intAvg := [], telLast := 0, telCount := 0, tel := [],
    avgMs := TelAvg.reset, avgS := TelAvg.reset, tMax := 0, fwdBusMw := 0, fwdBusMa := 0, sumS := TelAvg.reset, nS := 0, peaks := Peaks.reset,
    rackPeaks := Peaks.reset, hints := [] }

end Sys2Proof.Machine
end

