-- ==== Sys2Proof/Machine/CartState.lean ====
section
/-! DEFINITION. The state of the energy cartridges (chapter 16). Voltages of the estimates are in 5 nV, capacitance in 0.01 F,
resistance in µΩ, current in 10 mA (positive when discharging), charge in 10 µC, energy in 2.5 × 10^-21 J. -/

namespace Sys2Proof.Machine

/-- The bay states, in the order of their codes (R457). -/
inductive BayState where
  | absent | foreign | admitting | inService | calibrating | released | fault
deriving DecidableEq, Repr

def BayState.code : BayState → Nat
  | .absent => 0 | .foreign => 1 | .admitting => 2 | .inService => 3 | .calibrating => 4 | .released => 5 | .fault => 6

/-- IN_SERVICE and CALIBRATING are in service (R457). -/
def BayState.serves : BayState → Bool
  | .inService | .calibrating => true
  | _ => false

/-- A bay, its leg and its cartridge (R440 to R462). -/
structure Bay where
  state : BayState
  stale : Bool
  suspect : Bool
  worn : Bool
  ind : Bool
  cause : Nat
  /-- the last sample: 14 cells in 0.1 mV, pack in mV, leg current after the offset trim, thermistors in °C -/
  cells : List Nat
  pack : Nat
  cur : Int
  temps : List Int
  /-- c and r in force -/
  cap : Nat
  esr : Nat
  rejects : Nat
  suspects : Nat
  /-- local time of the last reference, its voc, the charge counted since, and whether e_q was reset since (R444, R449, R452) -/
  refAt : Nat
  vref : Option Int
  charge : Int
  resetSince : Bool
  /-- a reset value of e_q by voltage stands as a reference of that voc (R449) -/
  offset : Int
  /-- consecutive samples: cell over 3.82 V, pack mismatch, imbalance, disagreement, open thermistors, CID_L off -/
  runOver : Nat
  runSense : Nat
  runImb : Nat
  runDis : Nat
  runOpen : Nat
  runCid : Nat
  isolated : Bool
  resting : Bool
  balancing : Bool
  /-- an imbalance waits to settle (R450), since this local time at or below 50 mV -/
  imbWait : Bool
  imbFrom : Option Nat
  /-- |i| of the last samples, newest first, at most 200 (R451), local time of the last rest's end -/
  recent : List Nat
  restAt : Option Nat
  /-- R459: admission waits for the pre-charge -/
  precharge : Bool
  /-- the identity memory of what is in the bay: serial, and whether it is a KV-DXC1 that answers -/
  serial : BitVec 32
  typeOk : Bool
  /-- c at the last KEEP_CART_LRN write and its local time (R452) -/
  keptCap : Nat
  keptAt : Option Nat
  /-- the module's own calibration request waits (R455), and the local time of the last automatic one -/
  calWanted : Bool
  calAt : Nat
  /-- local time at which the rest under way began (R451), and the leg's power at VBUS_INT in mW, positive when it delivers (R442) -/
  restFrom : Nat
  leg : Int
deriving DecidableEq, Repr

/-- R462; c and r are the kept values, as shipped the rated 220 F and 1,000 µΩ (log entry 13). -/
def Bay.reset : Bay :=
  { state := .absent, stale := false, suspect := false, worn := false, ind := false, cause := 0, cells := [], pack := 0,
    cur := 0, temps := [], cap := 22000, esr := 1000, rejects := 0, suspects := 0, refAt := 0, vref := none, charge := 0,
    resetSince := false, offset := 0, runOver := 0, runSense := 0, runImb := 0, runDis := 0, runOpen := 0, runCid := 0,
    isolated := true, resting := false, balancing := false, imbWait := false, imbFrom := none, recent := [], restAt := none,
    precharge := false, serial := 0#32, typeOk := false, keptCap := 22000, keptAt := none, calWanted := false,
    calAt := 0, restFrom := 0, leg := 0 }

/-- Where a calibration discharge is (R454). -/
inductive CalStep where
  | prep | rest0 | discharge | rest1
deriving DecidableEq, Repr

/-- A calibration discharge under way: X, its step, local times, voc0, counted charge, whether the rack or host ordered it. -/
structure CartCal where
  bay : Nat
  step : CalStep
  /-- local time at which its preparation, then its step 2, began, and at which the step under way began -/
  at_ : Nat
  from_ : Nat
  voc0 : Int
  q : Int
  rMeas : Nat
  cmd : Bool
deriving DecidableEq, Repr

/-- The cartridges (R462). -/
structure Carts where
  a : Bay
  b : Bay
  setPct : Nat
  rideS : Nat
  refMaxH : Nat
  calDays : Nat
  eNow : Int
  eLow : Int
  eFull : Int
  /-- D_avail and C_avail in mW -/
  dAvail : Nat
  cAvail : Nat
  taper : Bool
  calResult : Nat
  calBay : Nat
  calReason : Nat
  qMeas : Nat
  cMeas : Nat
  rMeas : Nat
  cal : Option CartCal
  /-- local time at which the input stage opened (R447) -/
  openAt : Option Nat
  /-- serials of cartridges that failed DEEP (R440) -/
  deepSerials : List (BitVec 32)
deriving DecidableEq, Repr

/-- R462: the reset values. -/
def Carts.reset : Carts :=
  { a := Bay.reset, b := Bay.reset, setPct := 80, rideS := 0, refMaxH := 24, calDays := 30, eNow := 0, eLow := 0, eFull := 0,
    dAvail := 0, cAvail := 0, taper := false, calResult := 0, calBay := 0, calReason := 0, qMeas := 0, cMeas := 0, rMeas := 0,
    cal := none, openAt := none, deepSerials := [] }

def Carts.bay (c : Carts) (b : Nat) : Bay := if b = 0 then c.a else c.b
def Carts.setBay (c : Carts) (b : Nat) (x : Bay) : Carts := if b = 0 then { c with a := x } else { c with b := x }

/-! The estimates of R444. -/

/-- Joules in the energy unit. -/
def joule (n : Int) : Int := n * 400000000000000000000
/-- 2.5 V and 3.8 V in 5 nV; 0.1 mV in 5 nV. -/
def v25 : Int := 500000000
def v38 : Int := 760000000
def dmv (n : Nat) : Int := 20000 * n

/-- 14 × c ÷ 2 × (v² − 2.5²), with c in 0.0001 F. -/
def energy (c4 : Int) (v : Int) : Int := 7 * c4 * (v * v - v25 * v25)

/-- The lowest and highest cell, in 0.1 mV. -/
def Bay.vmin (x : Bay) : Nat := x.cells.foldl min (x.cells.headD 0)
def Bay.vmax (x : Bay) : Nat := x.cells.foldl max 0

def Bay.voc (x : Bay) : Int := dmv x.vmin + 2 * x.cur * x.esr
def Bay.eV (x : Bay) : Int := energy (100 * x.cap) x.voc
/-- c_low in 0.0001 F. -/
def Bay.cLow (x : Bay) : Int := if x.stale || x.suspect then 85 * min (x.cap : Int) 22000 else 97 * x.cap
def Bay.eLow (x : Bay) : Int :=
  let v := dmv x.vmin - 400000 + (if x.cur < 0 then 3 * x.cur * x.esr else 0)
  max 0 (energy x.cLow v)
def Bay.eFull (x : Bay) : Int := energy (100 * x.cap) v38
/-- e_q, in whole energy units of 2.5 × 10^-21 J (log entry 14). -/
def Bay.eQ (x : Bay) : Int :=
  let c : Int := x.cap
  let n := x.vref.getD x.voc * c - 200000 * x.charge
  if c = 0 then 0 else 700 * (n * n - (v25 * c) * (v25 * c)) / c

/-- State of charge in % (R444), zero with the lowest cell at 2.50 V. -/
def Bay.soc (x : Bay) : Nat :=
  if x.vmin ≤ 25000 ∨ x.eFull ≤ 0 then 0 else (min 100 (max 0 (x.eQ * 100 / x.eFull))).toNat

end Sys2Proof.Machine
end

