-- ==== Sys2Proof/Machine/FeedState.lean ====
section
/-! DEFINITION. The state of the feed stage: phases, control loops, coefficients and placement (chapter 14). -/

namespace Sys2Proof.Machine

/-- MODE of a phase, in the order of its codes (R412). -/
inductive PhaseMode where
  | shed | entering | ccm | dem | follow | hold | failed
deriving DecidableEq, Repr

def PhaseMode.code : PhaseMode → Nat
  | .shed => 0 | .entering => 1 | .ccm => 2 | .dem => 3 | .follow => 4 | .hold => 5 | .failed => 6

/-- R388: the modes that n_act counts. -/
def PhaseMode.acts : PhaseMode → Bool
  | .entering | .ccm | .dem | .follow => true
  | _ => false

/-- A phase: its mode, its target and trim in A, samples since it entered, its firing slot, the cause of its failure, and
FEED_PHASE's telemetry (R413). `base`: the last target it got (R407); `low`: samples its target has stayed below 3 A (R397); `turnOn`: ns
from the VRSYNC edge to its turn-on (R392); `vin`: V12 as it reported it, in 20 mV; `frames`: its own frame count (R412). -/
structure Phase where
  mode : PhaseMode
  target : Rat
  trim : Rat
  entered : Nat
  slot : Nat
  cause : Nat
  iph : Nat
  duty : Nat
  temp : Nat
  telMode : Nat
  sense : Bool
  stale : Bool
  fseq : Option Nat
  base : Rat
  low : Nat
  turnOn : Rat
  vin : Nat
  fastMet : Bool
  frames : Nat
  /-- the target is clamped to 25 A (R400) -/
  hot : Bool
deriving DecidableEq, Repr

def Phase.reset : Phase :=
  { mode := .shed, target := 0, trim := 0, entered := 0, slot := 0, cause := 0, iph := 0, duty := 0, temp := 0, telMode := 0,
    sense := false, stale := false, fseq := none, base := 0, low := 0, turnOn := 0, vin := 0, fastMet := false,
    frames := 0, hot := false }

/-- The coefficients of a rail, as codes (R408). -/
structure Coef where
  kp : Nat
  ki : Nat
  kd : Nat
  kffPlan : Nat
  kffFlue : Nat
  rll : Nat
  accLim : Nat
  ffLead : Nat
deriving DecidableEq, Repr

/-- R408: the reset sets of VFEED and of the privileged rails. -/
def Coef.ofRail (r : Nat) : Coef :=
  if r = 0 then { kp := 256, ki := 128, kd := 192, kffPlan := 96, kffFlue := 128, rll := 20, accLim := 35, ffLead := 16 }
  else { kp := 256, ki := 128, kd := 192, kffPlan := 0, kffFlue := 0, rll := 0, accLim := 35, ffLead := 0 }

/-- The loop of a rail (R388) and its slow limits (R401): acc and e in A and mV, i_dem in A; sums of the rail's current in
62.5 mA units over the running windows of 20 and 2,000 samples, and whether the running 1 ms window stayed 5% below. -/
structure RailLoop where
  acc : Rat
  ePrev : Rat
  iDem : Rat
  sum10 : Nat
  n10 : Nat
  sumMs : Nat
  nMs : Nat
  low : Bool
  capped : Bool
  /-- the mean of the last complete 1 ms window, in 62.5 mA units -/
  mean : Nat
  /-- the last sample: the rail's voltage in µV and its local time -/
  uv : Nat
  sampledAt : Nat
deriving DecidableEq, Repr

def RailLoop.reset : RailLoop :=
  { acc := 0, ePrev := 0, iDem := 0, sum10 := 0, n10 := 0, sumMs := 0, nMs := 0, low := true, capped := false, mean := 0, uv := 0, sampledAt := 0 }

/-- The feed stage (R413). Rails are numbered 0 VFEED, then 1 to 6 VT1C to VSERH. -/
structure Feed where
  nMin : Nat
  iShed : Nat
  headroom : Nat
  shedHold : Nat
  nReq : Nat
  forced : Bool
  unplanned : Nat
  sags : Nat
  flueErr : Nat
  slotPh : Nat
  lock : Bool
  losses : Nat
  /-- the slots are re-spaced at the next VRSYNC edge (R393) -/
  respace : Bool
  result : Nat
  resRail : Nat
  resCoef : Nat
  constraint : Nat
  reverted : BitVec 7
  phases : Tbl Phase
  coefs : Tbl (Option Coef)
  loops : Tbl RailLoop
  /-- VFEED phases in the order in which they were added, newest first (R396) -/
  added : List Nat
  /-- since when N has stayed below n_act, and when the last phase was shed (R396); when a condition of R398 last held -/
  lowFrom : Option Nat
  shedAt : Nat
  forcedAt : Nat
  /-- the RUNNING contexts of the last count N (R395) -/
  planned : List Nat
  /-- the last VRSYNC edge, and the periods outside 495 to 505 kHz in a row (R394) -/
  edgeAt : Nat
  badPeriods : Nat
deriving DecidableEq, Repr

/-- R413: the reset values; SLOT_PH is the slot position read at INIT (R554, log entry 17). -/
def Feed.reset : Feed :=
  { nMin := 8, iShed := 88, headroom := 2, shedHold := 100, nReq := 0, forced := false, unplanned := 0, sags := 0, flueErr := 0,
    slotPh := 0, lock := false, losses := 0, respace := false, result := 0, resRail := 0, resCoef := 0, constraint := 0,
    reverted := 0#7, phases := [], coefs := [], loops := [], added := [],
    lowFrom := none, shedAt := 0, forcedAt := 0, planned := [], edgeAt := 0, badPeriods := 0 }

def Feed.phase (f : Feed) (k : Nat) : Phase := Tbl.get Phase.reset f.phases k
def Feed.setPhase (f : Feed) (k : Nat) (p : Phase) : Feed := { f with phases := Tbl.set Phase.reset f.phases k p }
def Feed.loop (f : Feed) (r : Nat) : RailLoop := Tbl.get RailLoop.reset f.loops r
def Feed.setLoop (f : Feed) (r : Nat) (l : RailLoop) : Feed := { f with loops := Tbl.set RailLoop.reset f.loops r l }
def Feed.coef (f : Feed) (r : Nat) : Coef := (Tbl.get none f.coefs r).getD (Coef.ofRail r)
def Feed.setCoef (f : Feed) (r : Nat) (c : Coef) : Feed :=
  { f with coefs := Tbl.set none f.coefs r (if c = Coef.ofRail r then none else some c) }

/-- R386: the phases of a rail, and the rail of a phase. -/
def railPhases (r : Nat) : List Nat :=
  if r = 0 then List.range 56
  else if r = 1 then [56, 57, 58, 59, 60, 61]
  else if r = 2 then [62, 63, 64, 65]
  else if r = 3 then [66, 67, 68]
  else if r = 4 then [69]
  else if r = 5 then [70, 71, 72, 73]
  else [74, 75]
def railOfPhase (k : Nat) : Nat :=
  if k < 56 then 0 else if k < 62 then 1 else if k < 66 then 2 else if k < 69 then 3 else if k < 70 then 4
  else if k < 74 then 5 else 6
/-- The rail index of R354. -/
def railIndex (r : Nat) : Nat := if r = 0 then 2 else r + 4
/-- The phase flue lane of a phase (R386). -/
def phaseLane (k : Nat) : Nat := if k < 19 then 0 else if k < 38 then 1 else if k < 56 then 2 else 3

/-- The working phases of a rail, W (R395). -/
def Feed.working (f : Feed) (r : Nat) : List Nat := (railPhases r).filter fun k => (f.phase k).mode ≠ .failed
/-- n_act (R388). -/
def Feed.active (f : Feed) (r : Nat) : List Nat := (railPhases r).filter fun k => (f.phase k).mode.acts
def Feed.nAct (f : Feed) (r : Nat) : Nat := (f.active r).length
/-- i_meas in 62.5 mA units. -/
def Feed.current (f : Feed) (r : Nat) : Nat := (railPhases r).foldl (fun a k => a + (f.phase k).iph) 0
/-- R388, R386, R395: a rail starts: its accumulator is clear, and its working phases enter, of VFEED N_MIN of them. -/
def Feed.startRail (f : Feed) (r : Nat) : Feed :=
  let ks := (f.working r).take (if r = 0 then f.nMin else 20)
  let g := ks.foldl (fun f k => f.setPhase k { f.phase k with mode := .entering, entered := 0, trim := 0, target := 0 }) f
  { g.setLoop r RailLoop.reset with added := if r = 0 then ks.reverse else g.added, respace := true }

/-- A rail of R354: nominal and window in mV, continuous and peak rating in 10 mA, cap class (0 compute, 1 memory, 2 links). -/
structure RailSpec where
  nom : Nat
  lo : Nat
  hi : Nat
  cont : Nat
  peak : Nat
  cls : Option Nat

/-- R354: the rails; a ±3% window is rounded to whole mV inside it. VCORE's ratings are those of a region. -/
def railSpec : Nat → RailSpec
  | 0 => { nom := 50000, lo := 42500, hi := 58000, cont := 5800, peak := 6000, cls := none }
  | 1 => { nom := 12500, lo := 10500, hi := 14600, cont := 28800, peak := 28800, cls := none }
  | 2 => { nom := 1800, lo := 1700, hi := 1900, cont := 140000, peak := 196000, cls := none }
  | 3 => { nom := 720, lo := 500, hi := 900, cont := 800, peak := 1100, cls := some 0 }
  | 4 => { nom := 800, lo := 776, hi := 824, cont := 16000, peak := 20000, cls := some 1 }
  | 5 => { nom := 1050, lo := 1019, hi := 1081, cont := 15000, peak := 21000, cls := some 1 }
  | 6 => { nom := 750, lo := 728, hi := 772, cont := 10000, peak := 14000, cls := some 1 }
  | 7 => { nom := 1050, lo := 1019, hi := 1081, cont := 7500, peak := 10500, cls := some 1 }
  | 8 => { nom := 500, lo := 485, hi := 515, cont := 2500, peak := 3500, cls := some 1 }
  | 9 => { nom := 750, lo := 728, hi := 772, cont := 10000, peak := 14000, cls := some 2 }
  | 10 => { nom := 1200, lo := 1164, hi := 1236, cont := 5000, peak := 7000, cls := some 2 }
  | _ => { nom := 3300, lo := 3135, hi := 3465, cont := 600, peak := 800, cls := none }

def RailSpec.inWindow (r : RailSpec) (mv : Nat) : Bool := decide (r.lo ≤ mv) && decide (mv ≤ r.hi)

/-- The phase-fed rail of a rail index of R354. -/
def feedRail (i : Nat) : Option Nat := if i = 2 then some 0 else if 5 ≤ i ∧ i ≤ 10 then some (i - 4) else none

/-- FEED_STATUS.CAPPED (R401). -/
def Feed.capped (f : Feed) : Bool := (List.range 7).any fun r => (f.loop r).capped

end Sys2Proof.Machine
end

