-- ==== Sys2Proof/Machine/PtcState.lean ====
section
/-! DEFINITION. The state of the PTC pair (chapter 17). -/

namespace Sys2Proof.Machine

/-- PTC states, in the order of their codes (R463). -/
inductive PtcMode where
  | active | standby | proving | resync | failed
deriving DecidableEq, Repr

def PtcMode.code : PtcMode → Nat
  | .active => 0 | .standby => 1 | .proving => 2 | .resync => 3 | .failed => 4

/-- The outcomes of a PTC command, in the order of STATUS (R488). -/
inductive PtcStatus where
  | none | pending | ok | deferred | refused | busy | badarg
deriving DecidableEq, Repr

def PtcStatus.code : PtcStatus → Nat
  | .none => 0 | .pending => 1 | .ok => 2 | .deferred => 3 | .refused => 4 | .busy => 5 | .badarg => 6

/-- PTC_RESULT (R488). -/
structure PtcResult where
  status : PtcStatus
  rack : Bool
  reason : Nat
  tag : Nat
  op : Nat
  detail : Nat
deriving DecidableEq, Repr

def PtcResult.reset : PtcResult := { status := .none, rack := false, reason := 0, tag := 0, op := 0, detail := 0 }

/-- A journal entry (R479): the command with its result once it has ended. -/
structure JournalEntry where
  rack : Bool
  tag : Nat
  op : Nat
  arg : BitVec 64
  result : Option PtcResult
deriving DecidableEq, Repr

/-- PTC_FW of one PTC (R488). -/
structure PtcFw where
  version : BitVec 32
  slot : Nat
  failCause : Nat
  resyncFails : Nat
deriving DecidableEq, Repr

/-- A checkpoint (R467): its number, the rack-time and local instants of its state, and the state it carries. -/
structure Ckpt where
  number : Nat
  rt : BitVec 64
  lt : Nat
  reg : RegSys
  pwr : Power
  draw : Draw
  carts : Carts
  feed : Feed
  /-- PTC_PAIR to PTC_FW as they read (R473, R488) -/
  words : List Nat
deriving DecidableEq, Repr

/-- The pair, the arbiter, the checkpoint memory and the command set (R463 to R488). -/
structure Ptc where
  a : PtcMode
  b : PtcMode
  /-- the baton's holder, none where no PTC is eligible (R472) -/
  owner : Option Nat
  /-- PTC_PAIR.OWNER as last read -/
  ownerBit : Nat
  absent : Bool
  absentAt : Nat
  /-- a switch-over is under way (R473), and the SWITCH command waits for it -/
  switching : Bool
  lastCause : Nat
  epoch : BitVec 16
  proves : Nat
  proveFails : Nat
  proveH : Nat
  safeCode : Nat
  number : Nat
  writeUs : Nat
  fails : Nat
  /-- consecutive checkpoint failures (R468) -/
  failRun : Nat
  buf0 : Option Ckpt
  buf1 : Option Ckpt
  arg : BitVec 64
  result : PtcResult
  /-- the command that runs -/
  running : Option JournalEntry
  journal : List JournalEntry
  /-- the journalled trajectories, newest first (R479) -/
  trajs : List Traj
  fwA : PtcFw
  fwB : PtcFw
  /-- the staging window, and the images committed to firmware slots 0 and 1 (R483) -/
  stage : List Host.Cell
  img0 : List Host.Cell
  img1 : List Host.Cell
  /-- local time of the last heartbeat -/
  heartAt : Nat
  /-- the arbiter's log (R476): local times at which absence lasted 50 ms, not yet copied to the recorder -/
  arbLog : List Nat
  /-- the PTC in RESYNC has passed its self-test and loaded its firmware (R470) -/
  resyncReady : Bool
  /-- the slot the last staged piece went to (R483) -/
  staged : Option Nat
  /-- local time of the last start of a proving (R481) -/
  proveAt : Nat
deriving DecidableEq, Repr

/-- R488: the reset values; the firmware as shipped is version 0 in slot 0 (log entry 15). -/
def Ptc.reset : Ptc :=
  { a := .standby, b := .standby, owner := some 0, ownerBit := 0, absent := false, absentAt := 0, switching := false,
    lastCause := 0, epoch := 0#16, proves := 0, proveFails := 0, proveH := 24, safeCode := 96, number := 0, writeUs := 0,
    fails := 0, failRun := 0, buf0 := none, buf1 := none, arg := 0#64, result := PtcResult.reset, running := none,
    journal := [], trajs := [], fwA := { version := 0#32, slot := 0, failCause := 0, resyncFails := 0 },
    fwB := { version := 0#32, slot := 0, failCause := 0, resyncFails := 0 }, stage := [], img0 := [], img1 := [],
    heartAt := 0, arbLog := [], resyncReady := false, staged := none, proveAt := 0 }

def Ptc.mode (p : Ptc) (x : Nat) : PtcMode := if x = 0 then p.a else p.b
def Ptc.setMode (p : Ptc) (x : Nat) (m : PtcMode) : Ptc := if x = 0 then { p with a := m } else { p with b := m }
def Ptc.fw (p : Ptc) (x : Nat) : PtcFw := if x = 0 then p.fwA else p.fwB
def Ptc.setFw (p : Ptc) (x : Nat) (f : PtcFw) : Ptc := if x = 0 then { p with fwA := f } else { p with fwB := f }
/-- The PTC in a mode, if one is. -/
def Ptc.find (p : Ptc) (m : PtcMode) : Option Nat := if p.a = m then some 0 else if p.b = m then some 1 else none
/-- The ACTIVE PTC. -/
def Ptc.hasActive (p : Ptc) : Bool := p.a = .active || p.b = .active

end Sys2Proof.Machine
end

