-- ==== Sys2Proof/Machine/RecorderOps.lean ====
section
/-! DEFINITION. The event recorder (R522 to R533): its state, the merging and flood rules, the ring and its words. -/

namespace Sys2Proof.Machine

/-- One record inside the span from TAIL to HEAD (R524). -/
structure Record where
  off : Nat
  type : Nat
  rep : Nat
  seq : BitVec 32
  opsec : BitVec 40
  pcyc : BitVec 24
  lastd : Nat
  key : BitVec 64
  values : List (BitVec 64)
deriving DecidableEq, Repr

/-- The recorder: the ring's span oldest first, its counts and registers (R523, R527, R533). -/
structure Recorder where
  ring : List Record
  head : Nat
  nextSeq : BitVec 32
  tailSeq : BitVec 32
  tail : Nat
  /-- the SEQs of the 64 records most recently written or merged into, newest first (R526) -/
  collapse : List (BitVec 32)
  mod : BitVec 16
  lost : Nat
  floods : Nat
  wrapped : Bool
  clrResult : BitVec 2
  windowS : BitVec 16
  flood : BitVec 16
  seg : BitVec 7
  opMs : Nat
  /-- local time at which opMs last advanced (R523) -/
  tickAt : Nat
  pcyc : BitVec 24
  /-- the OPSEC second that runs for the flood limit, new records of each TYPE in it, and occurrences suppressed (R527) -/
  second : Nat
  counts : Tbl Nat
  suppressed : Tbl Nat
  /-- submissions lost since the last LOST record (R527) -/
  lostPending : Nat
deriving DecidableEq, Repr

/-- R533: the reset values; kept fields as at manufacture (log entry 10). -/
def Recorder.reset : Recorder :=
  { ring := [], head := 0, nextSeq := 0#32, tailSeq := 0#32, tail := 0, collapse := [], mod := 0#16, lost := 0,
    floods := 0, wrapped := false, clrResult := 0#2, windowS := 3600#16, flood := 200#16, seg := 0#7, opMs := 0, tickAt := 0,
    pcyc := 0#24, second := 0, counts := [], suppressed := [], lostPending := 0 }

/-- 4 MiB (R522). -/
def ringSize : Nat := 0x400000

/-- The bytes of a record: header words 0 to 3 and one word a value (R524). -/
def Record.size (r : Record) : Nat := 8 * (4 + r.values.length)

/-- OPSEC: whole seconds (R523). -/
def Recorder.opsec (r : Recorder) : BitVec 40 := BitVec.ofNat 40 (r.opMs / 1000)

/-- TYPEs that never merge (R526), and TYPEs the flood limit does not count (R527). -/
def neverMerges (ty : Nat) : Bool := ty = 0x000 || ty = 0x001 || ty = 0x002 || ty = 0x005
def floodExempt (ty : Nat) : Bool := ty = 0x001 || ty = 0x002 || ty = 0x003 || ty = 0x004 || ty = 0x005

/-- R526: the record an occurrence merges into. -/
def Recorder.mergeTarget (r : Recorder) (ty : Nat) (key : BitVec 64) : Option Record :=
  if neverMerges ty ∨ r.windowS = 0#16 then none
  else r.ring.find? fun x =>
    decide (x.type = ty) && decide (x.key = key) && decide (x.seq ∈ r.collapse) && decide (x.pcyc = r.pcyc) &&
    decide ((r.opsec - x.opsec).toNat ≤ r.windowS.toNat) && decide (x.rep < 0xFFFF)

/-- The newest first, at most 64 (R526). -/
def touch (q : BitVec 32) (l : List (BitVec 32)) : List (BitVec 32) := (q :: l.filter (· ≠ q)).take 64

/-- One more occurrence of a record (R526). -/
def Recorder.merge (r : Recorder) (x : Record) : Recorder :=
  let y := { x with rep := x.rep + 1, lastd := min 0xFFFF (r.opsec - x.opsec).toNat }
  { r with ring := r.ring.map fun z => if z.seq = x.seq then y else z,
           collapse := touch x.seq r.collapse, mod := r.mod + 1#16 }

/-- Whole records that a write of n bytes at offset a overwrites leave the span first (R529). -/
def dropOver (a n : Nat) : List Record → List Record
  | [] => []
  | x :: t => if a < x.off + x.size ∧ x.off < a + n then dropOver a n t else x :: t

/-- R524: a record never crosses the end of the ring: the words left are PAD, and it goes to offset 0. -/
def Recorder.append (r : Recorder) (ty : Nat) (key : BitVec 64) (vals : List (BitVec 64)) : Recorder :=
  let size := 8 * (4 + vals.length)
  let pad := if ringSize < r.head + size then ringSize - r.head else 0
  let a := if pad = 0 then r.head else 0
  let kept := dropOver a size (dropOver r.head pad r.ring)
  let x : Record := { off := a, type := ty, rep := 0, seq := r.nextSeq, opsec := r.opsec, pcyc := r.pcyc, lastd := 0,
                      key, values := vals }
  let ring := kept ++ [x]
  let first := ring.headD x
  { r with ring, head := (a + size) % ringSize, nextSeq := r.nextSeq + 1#32, tail := first.off, tailSeq := first.seq,
           collapse := touch r.nextSeq (r.collapse.filter fun q => kept.any fun z => z.seq = q),
           wrapped := r.wrapped || decide (kept.length < r.ring.length),
           counts := Tbl.update 0 r.counts ty (· + 1) }

/-- R526, R527: an event is merged, suppressed or written. -/
def Recorder.write (r : Recorder) (ty : Nat) (key : BitVec 64) (vals : List (BitVec 64)) : Recorder :=
  match r.mergeTarget ty key with
  | some x => r.merge x
  | none =>
    if floodExempt ty = false ∧ r.flood ≠ 0#16 ∧ r.flood.toNat ≤ Tbl.get 0 r.counts ty then
      { r with suppressed := Tbl.update 0 r.suppressed ty (· + 1) }
    else r.append ty key vals

/-- R527: a submission with room in the queue; a LOST record comes first when submissions were lost. -/
def Recorder.submit (r : Recorder) (ty : Nat) (key : BitVec 64) (vals : List (BitVec 64)) : Recorder :=
  let r := if r.lostPending = 0 then r
    else { r with lostPending := 0 }.write 0x003 0#64 [BitVec.ofNat 64 r.lostPending]
  r.write ty key vals

/-- R527: a submission that meets a full queue. -/
def Recorder.lose (r : Recorder) : Recorder :=
  { r with lost := satAdd 0xFFFF r.lost 1, lostPending := r.lostPending + 1 }

/-- R527: the end of an OPSEC second. -/
def Recorder.secondEnd (r : Recorder) : Recorder :=
  if r.opMs / 1000 ≤ r.second then r
  else
    r.suppressed.foldl (fun a e => { a with floods := satAdd 0xFFFF a.floods 1 }.submit 0x004 (BitVec.ofNat 64 (e.1 % 1024)) [BitVec.ofNat 64 e.2])
      { r with suppressed := [], counts := [], second := r.opMs / 1000 }

/-- R531: a clear; source 0 is the host, 1 the rack. With no record to discard, its first and last SEQ are open (log entry 16). -/
def Recorder.clear (r : Recorder) (source : Nat) (key : BitVec 16) (seq : BitVec 32) : Recorder :=
  if key ≠ 0xC1EA#16 then { r with clrResult := 2#2 }
  else if seq ≠ r.nextSeq then { r with clrResult := 3#2 }
  else
    let n := r.ring.length
    let e := { r with ring := [], collapse := [], tail := r.head, tailSeq := r.nextSeq, clrResult := 1#2 }
    e.append 0x002 (BitVec.ofNat 64 source)
      [if n = 0 then BitVec.ofNat 64 (Config.recordValue r.nextSeq.toNat 2 0) else r.tailSeq.zeroExtend 64,
       if n = 0 then BitVec.ofNat 64 (Config.recordValue r.nextSeq.toNat 2 1) else (r.nextSeq - 1#32).zeroExtend 64, BitVec.ofNat 64 n]

/-! The ring's words (R524, R529). -/

/-- One step of CRC-32C (reflected polynomial 0x82F63B78) on one bit. -/
def crcBit (c : BitVec 32) : BitVec 32 := if c.getLsbD 0 then (c >>> 1) ^^^ 0x82F63B78#32 else c >>> 1

def crcByte (c : BitVec 32) (b : Byte) : BitVec 32 :=
  let x := c ^^^ b.zeroExtend 32
  crcBit (crcBit (crcBit (crcBit (crcBit (crcBit (crcBit (crcBit x)))))))

/-- CRC-32C of bytes (R524, R247). -/
def crc32c (bs : List Byte) : BitVec 32 := ~~~(bs.foldl crcByte 0xFFFFFFFF#32)

/-- The words of a record with a given CRC field. -/
def Record.wordsWith (r : Record) (crc : BitVec 32) : List (BitVec 64) :=
  [BitVec.ofNat 64 ((3 + r.values.length) + field r.type 10 6 + field r.rep 16 16 + field r.seq.toNat 32 32),
   BitVec.ofNat 64 (r.opsec.toNat + field r.pcyc.toNat 24 40),
   BitVec.ofNat 64 (crc.toNat + field r.lastd 16 32),
   r.key] ++ r.values

/-- R524: the CRC is that of the whole record, computed with its field zero. -/
def Record.words (r : Record) : List (BitVec 64) :=
  r.wordsWith (crc32c ((r.wordsWith 0#32).flatMap fun w => toLE 8 w.toNat))

/-- The 64-bit word at a ring offset: zero outside the span (R529). -/
def Recorder.wordAt (r : Recorder) (a : Nat) : BitVec 64 :=
  match r.ring.find? fun x => decide (x.off ≤ a) && decide (a < x.off + x.size) with
  | some x => x.words.getD ((a - x.off) / 8) 0#64
  | none => 0#64

end Sys2Proof.Machine
end

