-- ==== Sys2Proof/Machine/Wire.lean ====
section
/-! DEFINITION. The words of the fabric link (R240 to R246): frames as 8-byte words with their trailer, the lanes they are dealt to, and
the words of a frame as it arrives. -/

namespace Sys2Proof.Machine

/-- Header word 0 (R243). -/
def headerWord (lseq ack : Option (BitVec 12)) (f : Frame) : BitVec 64 :=
  BitVec.ofNat 64 (field (lseq.getD 0#12).toNat 12 0 + field f.vc.toNat 2 12 + flag1 ack.isSome 14 + field (ack.getD 0#12).toNat 12 16 +
    field f.type.toNat 8 28 + field f.len 7 36 + field f.dchip.toNat 8 48 + field f.schip.toNat 8 56)

/-- Words in byte order, and bytes in words of 8 (R6). -/
def wordBytes (ws : List (BitVec 64)) : List Byte := ws.flatMap fun w => toLE 8 w.toNat

def byteWords (bs : List Byte) : List (BitVec 64) :=
  (List.range (bs.length / 8)).map fun i => BitVec.ofNat 64 (leNat ((bs.drop (8 * i)).take 8))

/-- The trailer of header and payload words (R242). -/
def trailerOf (ws : List (BitVec 64)) : BitVec 64 := (crc32c (wordBytes ws)).zeroExtend 64

/-- R242: the words of a frame: the header, the payload and the trailer. -/
def frameWords (lseq ack : Option (BitVec 12)) (f : Frame) : List (BitVec 64) :=
  let ws := headerWord lseq ack f :: f.w1 :: f.w2 :: f.w3 :: byteWords f.payload
  ws ++ [trailerOf ws]

/-- R242: an IDLE word. -/
def idleWord : BitVec 64 := 0#64

/-- The active lanes of a port, in ascending order. -/
def activeLanes (lanes : BitVec 4) : List Nat := (List.range 4).filter fun i => lanes.getLsbD i

/-- R240: words dealt to the active lanes, round-robin from the lowest. -/
def deal (lanes : BitVec 4) (ws : List (BitVec 64)) : List (Nat × List (BitVec 64)) :=
  let ls := activeLanes lanes
  ls.zipIdx.map fun lj => (lj.1, (ws.zipIdx.filter fun wi => wi.2 % ls.length = lj.2).map Prod.fst)

/-- A frame as its words spell it (R243, R247): the frame, its link fields, and whether its CRC matches and every bit that R243 to R246
make zero is zero. -/
structure RxFrame where
  frame : Frame
  lseq : BitVec 12
  ackv : Bool
  ackseq : BitVec 12
  len : Nat
  crcOk : Bool
  zerosOk : Bool
deriving DecidableEq, Repr

/-- The bits of words 1 to 3 that each TYPE leaves zero (R244 to R246). -/
def zeroMasks (type : BitVec 8) : BitVec 64 × BitVec 64 × BitVec 64 :=
  let all : BitVec 64 := BitVec.allOnes 64
  let from_ := fun n : Nat => all <<< n
  if type = 0x01#8 then (0xF8#64, from_ 25, all)
  else if type = 0x02#8 ∨ type = 0x03#8 then (from_ 58, from_ 8, all)
  else if type = 0x04#8 then (from_ 37, 0#64, 0#64)
  else if type = 0x05#8 then (from_ 40, 0#64, all)
  else if type = 0x11#8 then (from_ 12, all, all)
  else if type = 0x12#8 then (from_ 48, all, all)
  else if type = 0x13#8 then (0x00FE000000000000#64, all, all)
  else (all, all, all)

/-- R244: a type that acts on one link only. -/
def linkControl (t : BitVec 8) : Bool := decide (0x10#8 ≤ t) && decide (t ≤ 0x13#8)

/-- R242 to R247: what a frame's words spell. LEN tells how many words of payload come before the trailer. -/
def rxFrame (ws : List (BitVec 64)) : RxFrame :=
  let w := fun i => ws.getD i 0#64
  let h := (w 0).toNat
  let n := bits h 42 36
  let body := ws.take (4 + 8 * n)
  let t := w (4 + 8 * n)
  let f : Frame := { type := BitVec.ofNat 8 (bits h 35 28), vc := BitVec.ofNat 2 (bits h 13 12), dchip := BitVec.ofNat 8 (bits h 55 48),
                     schip := BitVec.ofNat 8 (bits h 63 56), w1 := w 1, w2 := w 2, w3 := w 3, payload := wordBytes (body.drop 4) }
  let z := zeroMasks f.type
  { frame := f, lseq := BitVec.ofNat 12 (bits h 11 0), ackv := bit h 14, ackseq := BitVec.ofNat 12 (bits h 27 16), len := n,
    crcOk := decide (ws.length = 5 + 8 * n) && decide (bits t.toNat 31 0 = (crc32c (wordBytes body)).toNat),
    zerosOk := !bit h 15 && decide (bits h 47 43 = 0) && decide (bits t.toNat 63 32 = 0) && decide (f.w1 &&& z.1 = 0#64) &&
      decide (f.w2 &&& z.2.1 = 0#64) && decide (f.w3 &&& z.2.2 = 0#64) &&
      (!linkControl f.type || (decide (f.dchip = 0#8) && decide (f.schip = 0#8))) }

end Sys2Proof.Machine
end

