-- ==== Sys2Proof/Machine/HostState.lean ====
section
/-! DEFINITION. The host interface's state (chapter 20): interrupt blocks, device-memory windows, denial counts, keep
registers; the service state (R19 to R27); and what leaves the module at its edges. -/

namespace Sys2Proof.Machine

/-- The service states, in the order of their codes (R19). -/
inductive Service where
  | off | init | filling | ready | serving | degraded | saving | benched
deriving DecidableEq, Repr

def Service.code : Service → Nat
  | .off => 0 | .init => 1 | .filling => 2 | .ready => 3 | .serving => 4 | .degraded => 5 | .saving => 6 | .benched => 7

/-- R22, R433: the states in which a trajectory is followed. -/
def Service.follows : Service → Bool
  | .off | .init | .saving => false
  | .filling | .ready | .serving | .degraded | .benched => true

/-- The interrupt block of a function (R548). -/
structure IntBlock where
  cause : BitVec 8
  mask : BitVec 8
  vec : BitVec 32
  slots : Tbl Bool
deriving DecidableEq, Repr

def IntBlock.reset : IntBlock := { cause := 0#8, mask := 0xFF#8, vec := 0#32, slots := [] }

/-- What leaves the module at its edges (log entry 2). -/
inductive Out where
  /-- an MSI-X message of a function (R548) -/
  | msix (fn vec : Nat)
  /-- link words leaving a port, as dealt to its active lanes (R240, R242) -/
  | link (port : Nat) (lanes : List (Nat × List (BitVec 64)))
  /-- a frame on the tray serial link (R566) -/
  | tray (bytes : List Byte)
  /-- a PMBus reply -/
  | pmbus (bytes : List Byte)
  /-- an I3C reply or in-band interrupt -/
  | i3c (bytes : List Byte)
  /-- a frame put on a die's set-point ring, by the PTC or by a node (R367, R368) -/
  | ring (die : Nat) (frame : BitVec 64)
  /-- data returned to a host read, and whether it is marked poisoned (R544) -/
  | hostRead (fn : Nat) (bytes : List Byte) (poisoned : Bool)
  /-- the PWR_CYCLE_REQ_L output (R563) -/
  | pwrCycle
  /-- bits shifted out at the boundary-scan port (R605) -/
  | tdo (bits : List Bool)
deriving DecidableEq, Repr

/-- The host interface (R534 to R551). -/
structure HostIf where
  ints : Tbl IntBlock
  /-- the words of VF_WIN at (CW offset − 0xB000) / 8 (R545) -/
  vfWin : Tbl (BitVec 64)
  denyCw : Nat
  denyDw : Nat
  denyMw : Nat
  denyLast : BitVec 64
  badAcc : BitVec 32
  scratch : BitVec 64
  changes : BitVec 32
  serial : BitVec 64
  /-- the MSI-X tables at DW 0x2000, 16 bytes a vector (R535), by 16 × function + vector, and their pending bits -/
  msixTab : Tbl (BitVec 128)
  msixPend : Tbl Bool
  /-- functions in D3hot (R534), PERST_L asserted (R598), the upper half RT_NOW latched for a function (R236) -/
  d3hot : Tbl Bool
  perst : Bool
  rtLatch : Tbl (Option (BitVec 32))
  /-- keep registers by CW offset, and their write counters (R541, R542) -/
  keep : Tbl (BitVec 64)
  keepCount : Tbl Nat
deriving DecidableEq, Repr

/-- KEEP_T2_CODE is shipped as 2 (R304, R321). -/
def keepT2Code : Nat := 0xC0A00

/-- KEEP_BENCH (R521): shipped with LIMIT 3 and WINDOW_H 24. -/
def keepBench : Nat := 0xC0C00

/-- An MSI-X table entry at reset: masked (PCI Express 6.0). -/
def msixMasked : BitVec 128 := BitVec.ofNat 128 (2 ^ 96)

/-- R548, R551; keep registers and the serial number as shipped (log entry 11). -/
def HostIf.reset : HostIf :=
  { ints := [], vfWin := [], denyCw := 0, denyDw := 0, denyMw := 0, denyLast := 0#64, badAcc := 0#32, scratch := 0#64,
    changes := 0#32, serial := 0#64, msixTab := [], msixPend := [], d3hot := [], perst := false, rtLatch := [], keep := [(keepT2Code, 2#64), (keepBench, 0x1803#64)],
    keepCount := [] }

end Sys2Proof.Machine
end

