-- ==== Sys2Proof/Machine/SysState.lean ====
section
/-! DEFINITION. The state of rack time, contexts, partitions, the fabric and the memory system (chapters 07 to 11). -/

namespace Sys2Proof.Machine

/-! Rack time (chapter 07). -/

/-- The states of the rack-time counter, in the order of their codes (R200). -/
inductive RtState where
  | none | acquiring | locked | holdover | lost | slewing
deriving DecidableEq, Repr

def RtState.code : RtState → Nat
  | .none => 0 | .acquiring => 1 | .locked => 2 | .holdover => 3 | .lost => 4 | .slewing => 5

/-- The rack-time counter and its registers (R200 to R206, R236). -/
structure RackTime where
  state : RtState
  tickOk : Bool
  timeOk : Bool
  jump : Bool
  holdMs : Nat
  losses : BitVec 32
  /-- the counter, in ns RT -/
  now : BitVec 64
  /-- consecutive good codes, consecutive missing or invalid codes, the value the next code must name -/
  good : Nat
  bad : Nat
  expect : Option (BitVec 64)
  offset : BitVec 11
  holdLimit : BitVec 10
  err : BitVec 32
  /-- the e of R204 that a slew still has to remove, in ns RT -/
  slew : Int
  /-- local time at which the running holdover began -/
  holdFrom : Nat
  /-- the RT_DELAY the counter was loaded with, in 10 ps (R559) -/
  delay : Nat
deriving DecidableEq, Repr

def RackTime.reset : RackTime :=
  { state := .none, tickOk := false, timeOk := false, jump := false, holdMs := 0, losses := 0#32, now := 0#64, good := 0,
    bad := 0, expect := none, offset := 0#11, holdLimit := 100#10, err := 0#32, slew := 0, holdFrom := 0,
    delay := 0 }

/-! Step programs (R210 to R217). -/

/-- A draw-plan record (R214): CUR by nominal cluster in 0.25 A. -/
structure PlanRec where
  run : Nat
  mem : Nat
  link : Nat
  quiet : Bool
  cur : Tbl Nat
deriving DecidableEq, Repr

/-- A reduction descriptor (R264). -/
structure RedDesc where
  form : Nat
  mbox : Nat
  window : Int
  count : Nat
  localN : Nat
  rrow : Nat
  rcol : Nat
  nbuf : Nat
  dest : Nat
deriving DecidableEq, Repr

/-- The header of a step program (R210), with defaults applied, its plan and descriptors. -/
structure StepProg where
  rows : Nat
  cols : Nat
  beatNs : Nat
  kindNs : Nat
  firstRel : Nat
  gapNs : Nat
  minPeriod : Nat
  stepCount : Nat
  plan : List PlanRec
  descs : List RedDesc
deriving DecidableEq, Repr

def StepProg.none : StepProg :=
  { rows := 0, cols := 0, beatNs := 10000, kindNs := 2000, firstRel := 0, gapNs := 20000, minPeriod := 0,
    stepCount := 0, plan := [], descs := [] }

/-- A held arrival: member index, A and p (R220, R223). -/
structure Arrival where
  member : Nat
  stamp : BitVec 64
  pace : Nat
deriving DecidableEq, Repr

/-- The running step of a context (R207, R220 to R222, R237). -/
structure StepState where
  index : Nat
  rel : Nat
  beatLen : Nat
  pace : Nat
  atBarrier : Bool
  missed : Bool
  lateRel : Nat
  /-- the beat running, and whether the step has been released -/
  beat : Nat
  released : Bool
  steps : Nat
  /-- arrivals held for this step and for the next (R223) -/
  arrivals : List Arrival
  early : List Arrival
  /-- the agreed next release and pace (R221) -/
  next : Option (Nat × Nat)
  /-- a START or RESTORE instant still to come, and the pace it releases with (R219, R337) -/
  pendingRel : Option Nat
  nextPace : Nat
  /-- the slot offset that set this step's local release instant (R220, R228) -/
  offset : Nat
  /-- the context's first grants are still to be sent (R178, R184) -/
  grantsDue : Bool
deriving DecidableEq, Repr

def StepState.reset : StepState :=
  { index := 0, rel := 0, beatLen := 10000, pace := 256, atBarrier := false, missed := false, lateRel := 0,
    beat := 0, released := false, steps := 0, arrivals := [], early := [], next := none, pendingRel := none, nextPace := 256, offset := 0,
    grantsDue := true }

/-! Contexts (chapter 11). -/

/-- The context states, in the order of their codes (R325). -/
inductive CtxState where
  | free | loaded | running | parked | aborted | suspect | torn
deriving DecidableEq, Repr

def CtxState.code : CtxState → Nat
  | .free => 0 | .loaded => 1 | .running => 2 | .parked => 3 | .aborted => 4 | .suspect => 5 | .torn => 6

/-- The results of a context command, in the order of their codes (R346). -/
inductive CtxResult where
  | idle | busy | ok | refusedState | refusedService | invalid | badarg | ended
deriving DecidableEq, Repr

def CtxResult.code : CtxResult → Nat
  | .idle => 0 | .busy => 1 | .ok => 2 | .refusedState => 3 | .refusedService => 4 | .invalid => 5 | .badarg => 6 | .ended => 7

/-- A command in progress. -/
inductive CtxBusy where
  | load | park | restore
deriving DecidableEq, Repr

/-- An extent of a memory layout (R332). -/
structure Extent where
  base : Nat
  len : Nat
  kind : Nat
  wr : Bool
deriving DecidableEq, Repr

/-- A member of a job (R255). -/
structure Member where
  chip : Nat
  gen : Nat
  ports : BitVec 18
deriving DecidableEq, Repr

/-- The state a park saves for one logical core (R184, R334). -/
structure ParkedCore where
  lrow : Nat
  lcol : Nat
  core : Core
deriving DecidableEq, Repr

/-- CTX_PROGRESS and CTX_WATCH of a slot (R490, R491, R508 to R510, R521). -/
structure Progress where
  idleMs : Nat
  expired : Bool
  fcore : Nat
  bundles : Nat
  limit : Nat
  snapOn : Bool
  replays : Nat
  snapValid : Bool
deriving DecidableEq, Repr

def Progress.reset : Progress :=
  { idleMs := 0, expired := false, fcore := 0, bundles := 0, limit := 0, snapOn := false, replays := 0, snapValid := false }

/-- One context slot (R322 to R346). -/
structure Slot where
  state : CtxState
  done : Bool
  parkPend : Option Nat
  gen : BitVec 8
  nextGen : BitVec 8
  part : BitVec 4
  cause : BitVec 8
  owner : BitVec 6
  image : BitVec 48
  membersAt : BitVec 48
  layoutAt : BitVec 48
  park : BitVec 48
  salt : BitVec 32
  arg : BitVec 64
  result : CtxResult
  reason : BitVec 8
  lost : Nat
  check : BitVec 32
  busy : Option CtxBusy
  prog : StepProg
  /-- the translation of the plan onto physical clusters (R216): nominal and physical cluster of each of the context's cores -/
  xlat : List (Nat × Nat)
  step : StepState
  job : BitVec 16
  members : List Member
  extents : List Extent
  /-- whether the context was loaded with CHIP_VALID 0 (R241) -/
  noChip : Bool
  /-- the snapshot a park wrote, and whether its check will still hold (R337) -/
  snap : List ParkedCore
  snapGood : Bool
  /-- the credits the reduction units held toward its cores at the snapshot (R184) -/
  snapRed : List CreditEntry
  /-- the progress and watchdog registers (R490, R491, R521) -/
  pw : Progress
deriving DecidableEq, Repr

/-- R346: the reset values. -/
def Slot.reset : Slot :=
  { state := .free, done := false, parkPend := none, gen := 0#8, nextGen := 0#8, part := 0#4, cause := 0#8, owner := 0#6,
    image := 0#48, membersAt := 0#48, layoutAt := 0#48, park := 0#48, salt := 0#32, arg := 0#64, result := .idle,
    reason := 0#8, lost := 0, check := 0#32, busy := none, prog := StepProg.none, xlat := [], step := StepState.reset, job := 0#16,
    members := [], extents := [], noChip := false, snap := [], snapGood := false, snapRed := [], pw := Progress.reset }

/-- A partition: PART_DEF and PART_STATUS.RESULT (R335, R346). Counts are minus one, as the register holds them. -/
structure Part where
  row0 : Nat
  nrows : Nat
  col0 : Nat
  ncols : Nat
  valid : Bool
  owner : Nat
  result : Nat
deriving DecidableEq, Repr

def Part.reset : Part := { row0 := 0, nrows := 0, col0 := 0, ncols := 0, valid := false, owner := 0, result := 0 }

/-! The fabric (chapter 08). -/

/-- PORT_STATUS.STATE, in the order of its codes (R276). -/
inductive PortState where
  | down | training | up | disabled
deriving DecidableEq, Repr

def PortState.code : PortState → Nat
  | .down => 0 | .training => 1 | .up => 2 | .disabled => 3

/-- Three counts, one for each virtual channel (R250). -/
structure Vc3 where
  c0 : Nat
  c1 : Nat
  c2 : Nat
deriving DecidableEq, Repr

def Vc3.get (v : Vc3) (k : Nat) : Nat := if k = 0 then v.c0 else if k = 1 then v.c1 else v.c2
def Vc3.set (v : Vc3) (k n : Nat) : Vc3 :=
  if k = 0 then { v with c0 := n } else if k = 1 then { v with c1 := n } else { v with c2 := n }
def Vc3.zero : Vc3 := { c0 := 0, c1 := 0, c2 := 0 }

/-- A fabric port (R238 to R262, R276). -/
structure Port where
  state : PortState
  lanes : BitVec 4
  failed : BitVec 4
  downs : Nat
  disable : Bool
  crc : Nat
  replays : Nat
  badFrame : Nat
  misroute : Nat
  corr : BitVec 32
  uncorr : Nat
  nextLseq : BitVec 12
  expLseq : BitVec 12
  /-- sequenced frames sent and not acknowledged, oldest first (R248) -/
  replay : List (BitVec 12 × Frame)
  credits : Vc3
  /-- frames waiting to be sent, oldest first -/
  queue : List Frame
  stale : Nat
  /-- the LINK_INIT exchange (R251): a valid one received, one with RCVD received, one with RCVD sent -/
  initGot : Bool
  rcvdGot : Bool
  rcvdSent : Bool
  aligned : Bool
  discard : Bool
  /-- frames are held for a retrain (R252, R259), and the link-control frames that wait for its end, with their ACKSEQ -/
  retrain : Bool
  late : List (Option (BitVec 12) × Frame)
deriving DecidableEq, Repr

def Port.reset : Port :=
  { state := .training, lanes := 0#4, failed := 0#4, downs := 0, disable := false, crc := 0, replays := 0, badFrame := 0,
    misroute := 0, corr := 0#32, uncorr := 0, nextLseq := 0#12, expLseq := 0#12, replay := [], credits := Vc3.zero,
    queue := [], stale := 0, initGot := false, rcvdGot := false, rcvdSent := false, aligned := false, discard := false,
    retrain := false, late := [] }

/-- A partial held for a chunk instance: member, PART, elements, flags (R267). -/
structure Partial where
  member : Nat
  part : Nat
  elems : List KafBits
  flag : FlagByte
deriving DecidableEq, Repr

/-- An open chunk instance of a reduction descriptor (R266 to R270). -/
structure RedInst where
  slot : Nat
  desc : Nat
  chunk : Nat
  /-- local contributions so far, what each element has accumulated, the sums and flags, and whether the partial has gone -/
  count : Nat
  acc : List KafAcc
  sum : List KafBits
  flag : FlagByte
  sent : Bool
  parts : List Partial
  /-- parts of the owner's result received (R267) -/
  results : List Partial
  /-- the flag byte of the result once it is written; the completion waits for credits (R269) -/
  written : Option FlagByte
deriving DecidableEq, Repr

/-- An abort acted on: its job, generation, origin and time (R246, R273). -/
structure AbortSeen where
  job : Nat
  gen : Nat
  chip : BitVec 8
  rt : BitVec 64
deriving DecidableEq, Repr

/-- The fabric's registers, ports and reduction units (R276). -/
structure Fabric where
  chipId : BitVec 8
  chipValid : Bool
  winmis : Nat
  redStale : Nat
  redCredit : Nat
  sent : Nat
  received : Nat
  dup : Nat
  stale : Nat
  barStale : Nat
  barDup : Nat
  barLater : Nat
  ports : Tbl Port
  insts : List RedInst
  /-- aborts already acted on (R273) -/
  acted : List AbortSeen
  /-- the credit table of the reduction units as one source (R179, R263) -/
  redCredits : List CreditEntry
  /-- reduction frames that wait for an instance to close (R270), with their ports, oldest first -/
  held : List (Nat × Frame)
  /-- VC2 link credits withheld while every instance is open: port, and the frame they belong to (R270) -/
  owed : List (Nat × Frame)
deriving DecidableEq, Repr

def Fabric.reset : Fabric :=
  { chipId := 0#8, chipValid := false, winmis := 0, redStale := 0, redCredit := 0, sent := 0, received := 0, dup := 0,
    stale := 0, barStale := 0, barDup := 0, barLater := 0, ports := [], insts := [], acted := [], redCredits := [], held := [], owed := [] }

/-! The memory system (chapters 09 and 10). -/

/-- A tier-1 channel (R281, R290 to R292, R297). -/
structure Chan where
  rd : BitVec 32
  wr : BitVec 32
  load : Nat
  busyPct : Nat
  hot : Bool
  hotWin : Nat
  coldWin : Nat
  top : Option Nat
  /-- granules of the running window by slot + 1; 0 is traffic of no context -/
  run : Tbl Nat
  hotMs : Nat
  /-- full seconds of this stay in the hot state that its record has counted (R292) -/
  repeats : Nat
deriving DecidableEq, Repr

def Chan.reset : Chan :=
  { rd := 0#32, wr := 0#32, load := 0, busyPct := 0, hot := false, hotWin := 0, coldWin := 0, top := none, run := [], hotMs := 0, repeats := 0 }

/-- A tier-1 stack (R293, R297, R321). -/
structure Stack where
  temp : Nat
  throt : Nat
  throtMs : Nat
  level3Ms : Nat
  ce : Nat
  ue : Nat
  passes : BitVec 16
  ceHour : Nat
  raised : Bool
  fused : Nat
  kept : Nat
  /-- level 1 of R293 holds -/
  l1 : Bool
deriving DecidableEq, Repr

def Stack.reset : Stack :=
  { temp := 0, throt := 0, throtMs := 0, level3Ms := 0, ce := 0, ue := 0, passes := 0#16, ceHour := 0, raised := false,
    fused := 0, kept := 0, l1 := false }

/-- An entry of MEM_LOG (R312, R321). -/
structure LogEntry where
  row : BitVec 32
  count : Nat
  valid : Bool
  pending : Bool
  repaired : Bool
  ue : Bool
  noSpare : Bool
deriving DecidableEq, Repr

def LogEntry.reset : LogEntry :=
  { row := 0#32, count := 0, valid := false, pending := false, repaired := false, ue := false, noSpare := false }

/-- An entry of MEM_T2LOG (R313, R321). -/
structure T2Log where
  page : Nat
  maxSym : Nat
  count : Nat
  valid : Bool
  ue : Bool
deriving DecidableEq, Repr

def T2Log.reset : T2Log := { page := 0, maxSym := 0, count := 0, valid := false, ue := false }

/-- MEM_UE_LAST once VALID (R321). -/
structure UeLast where
  addr : Nat
  tier2 : Bool
  scrub : Bool
  addrFault : Bool
  slot : Option Nat
deriving DecidableEq, Repr

/-- A row repair in progress (R317). -/
structure Repair where
  stack : Nat
  row : BitVec 32
  spare : Nat
  entry : Option Nat
deriving DecidableEq, Repr

/-- A range of device memory whose contents a rule leaves undefined (R296, R327): base, length, which open values. -/
structure UndefRange where
  base : Nat
  len : Nat
  nonce : Nat
deriving DecidableEq, Repr

/-- A scrub pass of a tier (R311): the next codeword or page, when it began, whether its period has ended before it, and whether it is
complete. -/
structure Pass where
  pos : Nat
  start : Nat
  overran : Bool
  done : Bool
deriving DecidableEq, Repr

def Pass.reset : Pass := { pos := 0, start := 0, overran := false, done := false }

/-- A host access that waits in the queue of a stack at throttle level 3 (R293): the function, the address, and the length of a read or
the bytes of a write. -/
structure MwWait where
  fn : Fin 64
  addr : Nat
  len : Nat
  bytes : Option (List Byte)
deriving DecidableEq, Repr

/-- Device memory and its registers (R277 to R321). -/
structure MemSys where
  /-- bytes by device address; a byte nothing has written is zero, as a fill leaves it (R289) -/
  bytes : List Host.Cell
  undef : List UndefRange
  /-- poisoned codewords by address / 64 (R305) -/
  poison : Tbl Bool
  /-- the bad symbols of stored codewords, by address / 64, and of pages, by (address − tier-2 base) / 4096: from a symbol's place in the
  order of R298 or R302 (72 to 77 are the virtual ones of R299) to the bits that differ from the codeword in `bytes` and `poison` -/
  err1 : Tbl (Tbl Nat)
  err2 : Tbl (Tbl Nat)
  fill : Nat
  t1Pct : Nat
  t2Pct : Nat
  t2Kept : Bool
  fillMs : Nat
  /-- when the running fill began, ns LT -/
  fillAt : Nat
  t1Filled : Bool
  t2Filled : Bool
  earlyAccess : Bool
  hotRatio : Nat
  hotFloor : Nat
  hotWindows : Nat
  hotHoldS : Nat
  hotEvents : Nat
  saltResult : Nat
  saltSlot : Nat
  saltDone : BitVec 32
  /-- the rotation under way: slot and new salt -/
  rotation : Option (Nat × BitVec 32)
  chans : Tbl Chan
  stackTab : Tbl Stack
  t2ch : Tbl (BitVec 32 × BitVec 32)
  t1ScrubH : Nat
  t2ScrubH : Nat
  rowLimit : Nat
  autoRepair : Bool
  ceIrq : Nat
  t1Pass : Pass
  t2Pass : Pass
  t2Code : Nat
  overruns : Nat
  t2Ce : Nat
  t2Ue : Nat
  t2Passes : BitVec 16
  t2CeHour : Nat
  t2Raised : Bool
  ueLast : Option UeLast
  repairResult : Nat
  repairRow : BitVec 32
  repairStack : Nat
  repair : Option Repair
  injAddr : BitVec 42
  injNsym : BitVec 5
  injArm : Bool
  log : Tbl LogEntry
  t2log : Tbl T2Log
  /-- rows remapped, by 256 × stack + spare (R315) -/
  remap : Tbl (Option (BitVec 32))
  /-- the factory fuse map, as `remap` -/
  fuse : Tbl (Option (BitVec 32))
  /-- host accesses that wait under level 3, oldest first (R293) -/
  waiting : List MwWait
deriving DecidableEq, Repr

def MemSys.reset : MemSys :=
  { bytes := [], undef := [], poison := [], err1 := [], err2 := [], fill := 0, t1Pct := 0, t2Pct := 0, t2Kept := false,
    fillMs := 0, fillAt := 0, t1Filled := false, t2Filled := false, earlyAccess := false, hotRatio := 8, hotFloor := 125000,
    hotWindows := 100, hotHoldS := 10, hotEvents := 0, saltResult := 0, saltSlot := 0, saltDone := 0#32, rotation := none,
    chans := [], stackTab := [], t2ch := [], t1ScrubH := 24, t2ScrubH := 24, rowLimit := 16, autoRepair := true,
    ceIrq := 10000, t1Pass := Pass.reset, t2Pass := Pass.reset, t2Code := 2, overruns := 0, t2Ce := 0, t2Ue := 0, t2Passes := 0#16,
    t2CeHour := 0, t2Raised := false, ueLast := none, repairResult := 0, repairRow := 0#32, repairStack := 0,
    repair := none, injAddr := 0#42, injNsym := 0#5, injArm := false, log := [], t2log := [], remap := [], fuse := [], waiting := [] }

end Sys2Proof.Machine
end

