-- ==== Sys2Proof/Machine/RstState.lean ====
section
/-! DEFINITION. The state of resets, dumps, ember save and benching (chapter 18). -/

namespace Sys2Proof.Machine

/-- A reset under way (R493 to R499): its cause and target, and the local time of its decision. -/
structure ResetRun where
  level : Nat
  target : Nat
  cause : Nat
  at_ : Nat
  /-- ordered through RST_CMD -/
  cmd : Bool
  /-- a REPLAY waits for it (R510): slot -/
  replay : Option Nat
deriving DecidableEq, Repr

/-- One record of a dump (R505): the core's physical index, FULL or STATE, its registers and its debug window. -/
structure DumpRec where
  core : Nat
  full : Bool
  regs : Core
  win : Tbl (BitVec 64)
deriving DecidableEq, Repr

/-- A dump in the ember store (R504 to R506). -/
structure Dump where
  level : Nat
  cause : Nat
  kind : Nat
  chip : Nat
  opsec : Nat
  rt : BitVec 64
  slot : Nat
  recs : List DumpRec
  seq : Nat
deriving DecidableEq, Repr

/-- An ember save under way (R514): which step it is at, and the extents still to be written. -/
structure SaveRun where
  step : Nat
  rest : List Extent
deriving DecidableEq, Repr

/-- The registers and units of chapter 18 (R521). -/
structure Rst where
  cfgDump : Nat
  arg : BitVec 64
  result : Nat
  detail : Nat
  lastLevel : Nat
  lastEsc : Bool
  lastBenched : Bool
  lastCause : Nat
  lastTarget : Nat
  drained : Nat
  lastMs : Nat
  /-- RST_COUNT L0 to L3 -/
  count : Tbl Nat
  runs : List ResetRun
  /-- a DUMP or DUMP_COPY running from RST_CMD: its operation code and target -/
  busyCmd : Option (Nat × Nat)
  /-- drain-discard is in force, and what follows it: 3 an L3, 4 an L4, 5 an ember save (R501) -/
  drain : Option Nat
  /-- local time of the decision that drain-discard follows -/
  drainAt : Nat
  saveAddr : BitVec 48
  saveList : List Extent
  listState : Nat
  saveValid : Bool
  saveComplete : Bool
  saveParts : Nat
  /-- the length of the save image in bytes, which no rule fixes -/
  saveSize : Nat
  save : Option SaveRun
  dumps : Tbl (Option Dump)
  dumpSeq : Nat
  /-- local times of the L1 resets of a core in this power cycle (R499) -/
  l1 : Tbl (List Nat)
  /-- KEEP_BENCH_LOG entries that hold for this power cycle only (R518) -/
  benchCycle : Tbl (BitVec 64)
  benchNext : Nat
  /-- RST_LAST at the end of the previous power cycle (R525) -/
  prevLast : BitVec 64
deriving DecidableEq, Repr

def Rst.reset : Rst :=
  { cfgDump := 2, arg := 0#64, result := 0, detail := 0, lastLevel := 0, lastEsc := false, lastBenched := false,
    lastCause := 0, lastTarget := 0, drained := 0, lastMs := 0, count := [], runs := [], busyCmd := none, drain := none, drainAt := 0,
    saveAddr := 0#48, saveList := [], listState := 0, saveValid := false, saveComplete := false, saveParts := 0, saveSize := 0,
    save := none, dumps := [], dumpSeq := 0, l1 := [], benchCycle := [], benchNext := 0, prevLast := 0#64 }

/-- RST_STATUS.ACTIVE: the highest level under way, 7 for none (R521). -/
def Rst.active (r : Rst) : Nat :=
  if r.runs.isEmpty then 7 else r.runs.foldl (fun m x => max m x.level) 0

end Sys2Proof.Machine
end

