-- ==== Sys2Proof/Machine/TrayState.lean ====
section
/-! DEFINITION. The state of the tray signals and serial link, PMBus, I3C, bring-up, coolant and the test access port (chapters
21 to 24). -/

namespace Sys2Proof.Machine

/-- A stored response of the tray serial link (R568): type, sequence number, status, reason, payload. -/
structure TslReply where
  type : Nat
  seq : Nat
  status : Nat
  reason : Nat
  payload : List Byte
deriving DecidableEq, Repr

/-- The tray signals, the tray serial link, PMBus and I3C (R553 to R576). -/
structure Tray where
  slotId : Nat
  link : Bool
  /-- local time of the last valid frame from the rack (R568) -/
  heardAt : Nat
  linkLosses : Nat
  badFrames : Nat
  rtDelay : Nat
  /-- the link was lost since the last STATUS (R570) -/
  lostSince : Bool
  dlPresent : Bool
  /-- PWR_CYCLE_REQ_L is asserted (R563) -/
  pwrReq : Bool
  /-- the module's own count of unsolicited frames (R566) -/
  ownSeq : Nat
  /-- requests waiting to be answered, oldest first: type, sequence number and payload (R567) -/
  queue : List (Nat × Nat × List Byte)
  /-- the responses of the last 16 requests, newest first (R568) -/
  stored : List TslReply
  /-- PMBus status bytes and the energy accumulator (R574) -/
  stInput : Nat
  stTemp : Nat
  stCml : Nat
  /-- the sum of the 1 ms means of the bus power in W, and how many -/
  ein : Nat
  einN : Nat
  /-- I3C: dynamic address, interrupts enabled, sensor values in 0.1 units by index, thresholds reached (R575) -/
  dynAddr : Option (BitVec 7)
  ibi : Bool
  sensors : Tbl Int
  armedOff : Tbl Bool
  /-- the input stage opened, or TICK went missing, at this local time (R589) -/
  openedAt : Option Nat
  tickAt : Option Nat
deriving DecidableEq, Repr

/-- R576; SLOT_ID as a strap of 0 (log entry 17). -/
def Tray.reset : Tray :=
  { slotId := 0, link := false, heardAt := 0, linkLosses := 0, badFrames := 0, rtDelay := 0, lostSince := false, dlPresent := false,
    pwrReq := false, ownSeq := 0, queue := [], stored := [], stInput := 0, stTemp := 0, stCml := 0, ein := 0, einN := 0, dynAddr := none,
    ibi := false, sensors := [], armedOff := [], openedAt := none, tickAt := none }

/-- Bring-up and the service epoch (R592). -/
structure BringUp where
  epoch : BitVec 24
  joined : Bool
  drained : Bool
  moved : Bool
  renumbered : Bool
  phase : Nat
  result : Nat
  upMs : Nat
  /-- a start of this rail has failed once (R579), by rail index -/
  retried : Tbl Bool
  /-- what has started of R577 steps 7 and 8: the bus converters, then the rails, in their order -/
  started : Nat
  /-- the pressure drop was there at step 6, and the local time of the last check that it was not -/
  coolOk : Bool
  checkAt : Nat
  /-- local time at which VAUX came into its window -/
  initAt : Nat
  /-- an IDENT has set CHIP_ID since INIT (R585) -/
  identDone : Bool
deriving DecidableEq, Repr

def BringUp.reset : BringUp :=
  { epoch := 0#24, joined := false, drained := false, moved := false, renumbered := false, phase := 1, result := 0, upMs := 0,
    retried := [], started := 0, coolOk := false, checkAt := 0, initAt := 0, identDone := false }

/-- COOL_STATUS and the trips of R600 and R612. -/
structure Cool where
  noFlow : Bool
  stackTrip : Bool
  dp : Nat
  losses : Nat
  /-- consecutive samples below, and at or above, the threshold (R610) -/
  below : Nat
  above : Nat
  /-- dies at level 1 since a region reached 105 °C, and the local time of the cut (R600) -/
  trip : Tbl (Option Nat)
  /-- the compute dies stay held in reset after a thermal reset (R600, R612) -/
  held : Bool
deriving DecidableEq, Repr

def Cool.reset : Cool :=
  { noFlow := false, stackTrip := false, dp := 0, losses := 0, below := 0, above := 0, trip := [], held := false }

/-- The no-flow threshold of R602, 4.0 kPa. -/
def noFlowDp : Nat := 40

/-- The instructions of the test access port (R605). -/
inductive TapInstr where
  | extest | idcode | samplePreload | clamp | highz | bypass
deriving DecidableEq, Repr

/-- The test access port (R605, R606): the instruction selected and the boundary register's update stage. -/
structure Tap where
  instr : TapInstr
  boundary : BitVec 212
deriving DecidableEq, Repr

/-- R605: the port rests in Test-Logic-Reset, which selects IDCODE (IEEE 1149.1; log entry 18). -/
def Tap.reset : Tap := { instr := .idcode, boundary := 0#212 }

end Sys2Proof.Machine
end

