-- ==== Sys2Proof/Machine/State.lean ====
section
/-! DEFINITION. The state of the module, and the reasons a step can stop. -/

namespace Sys2Proof.Machine

/-- Why the machine stops with a fault. No command of the spec does: what the spec calls a fault is an event of a core, a
context or a rail, and is a next state. -/
inductive Fault where
  /-- nothing raises it: safe -/
  | never
deriving DecidableEq, Repr

/-- Why a command has no meaning. -/
inductive Refusal where
  /-- raised by the dispatcher for a command that has no meaning yet: safe, the machine stops -/
  | notModelled (mnemonic : String)
deriving DecidableEq, Repr

/-- The module. -/
structure State where
  /-- the commands waiting, first in first out -/
  pending : List Instr
  /-- open values taken so far (log entry 1) -/
  free : Nat
  /-- what has left the module at its edges, newest first (log entry 2) -/
  out : List Out
  /-- local time, ns since power-on (log entry 3) -/
  lt : Nat
  /-- GLB_STATE.SERVICE and DEGRADE (R19, R20) -/
  svc : Service
  degrade : BitVec 5
  grid : Grid
  /-- cores by physical index 36 × row + column (R76) -/
  cores : Tbl Core
  slots : Tbl Slot
  parts : Tbl Part
  rt : RackTime
  fab : Fabric
  mem : MemSys
  /-- messages under way between cores of the module that are not DATA in an outbound buffer (R185) -/
  mesh : List Msg
  reg : RegSys
  pwr : Power
  feed : Feed
  draw : Draw
  carts : Carts
  ptc : Ptc
  rst : Rst
  recorder : Recorder
  host : HostIf
  tray : Tray
  up : BringUp
  cool : Cool
  tap : Tap
deriving DecidableEq, Repr

/-- The module right after reset: the start of INIT (R577), every register at the value its table gives. -/
def State.reset : State :=
  { pending := [], free := 0, out := [], lt := 0, svc := .init, degrade := 0#5, grid := Grid.reset, cores := [],
    slots := [], parts := [], rt := RackTime.reset, fab := Fabric.reset, mem := MemSys.reset, mesh := [],
    reg := RegSys.reset, pwr := Power.reset, feed := Feed.reset, draw := Draw.reset, carts := Carts.reset, ptc := Ptc.reset,
    rst := Rst.reset, recorder := Recorder.reset,
    host := HostIf.reset, tray := Tray.reset, up := BringUp.reset, cool := Cool.reset, tap := Tap.reset }

end Sys2Proof.Machine
end

