-- ==== Sys2Proof/Machine/Ops.lean ====
section
/-! DEFINITION. The operations every command is made of: access to the parts of State, recorder records, interrupts, keep
registers, what a core sees of the module, frames and routes, and the end of a context. -/

namespace Sys2Proof.Machine

/-! Parts of the state. -/

def State.core (s : State) (k : Nat) : Core := Tbl.get Core.reset s.cores k
def State.setCore (s : State) (k : Nat) (c : Core) : State := { s with cores := Tbl.set Core.reset s.cores k c }
def State.modCore (s : State) (k : Nat) (f : Core → Core) : State := s.setCore k (f (s.core k))
/-- Every core of a list changed alike. -/
def State.modCores (s : State) (ks : List Nat) (f : Core → Core) : State := ks.foldl (fun a k => a.modCore k f) s

def State.slot (s : State) (n : Nat) : Slot := Tbl.get Slot.reset s.slots n
def State.setSlot (s : State) (n : Nat) (x : Slot) : State := { s with slots := Tbl.set Slot.reset s.slots n x }
def State.modSlot (s : State) (n : Nat) (f : Slot → Slot) : State := s.setSlot n (f (s.slot n))
/-- The slots that differ from their reset values; every other slot is FREE and untouched. -/
def State.liveSlots (s : State) : List Nat := s.slots.map Prod.fst

def State.part (s : State) (k : Nat) : Part := Tbl.get Part.reset s.parts k
def State.setPart (s : State) (k : Nat) (x : Part) : State := { s with parts := Tbl.set Part.reset s.parts k x }

def State.region (s : State) (i : Nat) : Region := Tbl.get Region.reset s.reg.regions i
def State.setRegion (s : State) (i : Nat) (x : Region) : State :=
  { s with reg := { s.reg with regions := Tbl.set Region.reset s.reg.regions i x } }
def State.modRegion (s : State) (i : Nat) (f : Region → Region) : State := s.setRegion i (f (s.region i))
def State.modRegions (s : State) (is : List Nat) (f : Region → Region) : State := is.foldl (fun a i => a.modRegion i f) s

def State.rail (s : State) (i : Nat) : Rail := Tbl.get Rail.reset s.pwr.rails i
def State.setRail (s : State) (i : Nat) (x : Rail) : State :=
  { s with pwr := { s.pwr with rails := Tbl.set Rail.reset s.pwr.rails i x } }
def State.modRail (s : State) (i : Nat) (f : Rail → Rail) : State := s.setRail i (f (s.rail i))

/-- A rail takes a STATE of R359. -/
def State.railState (s : State) (i x : Nat) : State := s.modRail i fun r => { r with state := x }

/-- R350, R354, R386: a rail comes into its window; a phase-fed one starts its phases. -/
def State.railUp (s : State) (i : Nat) : State :=
  let s := s.railState i 1
  match feedRail i with
  | some r => { s with feed := s.feed.startRail r }
  | none => s

/-- The rails take a STATE. -/
def State.railsState (s : State) (is : List Nat) (x : Nat) : State := is.foldl (fun a i => a.railState i x) s

def State.cluster (s : State) (j : Nat) : Cluster := Tbl.get Cluster.reset s.reg.clusters j
def State.setCluster (s : State) (j : Nat) (x : Cluster) : State :=
  { s with reg := { s.reg with clusters := Tbl.set Cluster.reset s.reg.clusters j x } }

def State.port (s : State) (p : Nat) : Port := Tbl.get Port.reset s.fab.ports p
def State.setPort (s : State) (p : Nat) (x : Port) : State :=
  { s with fab := { s.fab with ports := Tbl.set Port.reset s.fab.ports p x } }
def State.modPort (s : State) (p : Nat) (f : Port → Port) : State := s.setPort p (f (s.port p))

/-- Something leaves the module. -/
def State.emit (s : State) (o : Out) : State := { s with out := o :: s.out }

/-- An open value: the value is Config.freeNat of the counter, and the counter advances (log entry 1). -/
def State.draw1 (s : State) : Nat × State := (Config.freeNat s.free, { s with free := s.free + 1 })

/-- R524: the count of values of each TYPE is fixed; it is the most that a causing rule of the TYPE names (log entry 16). -/
def valueCount (ty : Nat) : Nat :=
  if ty = 0x080 then 15 else if ty = 0x061 then 4 else if ty = 0x052 then 5 else if ty = 0x050 || ty = 0x090 then 3
  else if ty = 0x012 || ty = 0x020 || ty = 0x030 || ty = 0x053 || ty = 0x060 || ty = 0x070 || ty = 0x062 then 2
  else if ty = 0x040 || ty = 0x051 || ty = 0x0A0 || ty = 0x011 then 1 else 0

/-- R522 to R527: an event is submitted to the recorder; a value that no rule names is open (log entry 16). -/
def State.recordValue (s : State) (ty i : Nat) : Nat := Config.recordValue s.recorder.nextSeq.toNat ty i
def State.record (s : State) (ty key : Nat) (vals : List Nat) : State :=
  let vs := vals ++ (List.range (valueCount ty - vals.length)).map fun i => s.recordValue ty (vals.length + i)
  { s with recorder := s.recorder.submit ty (BitVec.ofNat 64 key) (vs.map (BitVec.ofNat 64)) }

/-! Interrupts (R547, R548). -/

def HostIf.int (h : HostIf) (f : Nat) : IntBlock := Tbl.get IntBlock.reset h.ints f
def HostIf.setInt (h : HostIf) (f : Nat) (b : IntBlock) : HostIf := { h with ints := Tbl.set IntBlock.reset h.ints f b }

/-- R548: the vector of a cause, and the vectors a function has. -/
def IntBlock.vector (b : IntBlock) (k : Nat) : Nat := bits b.vec.toNat (4 * k + 3) (4 * k)
def vectorsOf (f : Nat) : Nat := if f = 0 then 16 else 4

/-- The per-vector mask of the MSI-X capability (R548). -/
def HostIf.vecMasked (h : HostIf) (f v : Nat) : Bool := (Tbl.get msixMasked h.msixTab (16 * f + v)).getLsbD 96

/-- The message of cause k of function f, unless its vector lies beyond the table (R548) or the link is down (R563, R598). A masked
vector stays pending. -/
def State.msix (s : State) (f k : Nat) : State :=
  let v := (s.host.int f).vector k
  if v < vectorsOf f ∧ s.host.perst = false ∧ s.tray.pwrReq = false then
    if s.host.vecMasked f v then { s with host := { s.host with msixPend := Tbl.set false s.host.msixPend (16 * f + v) true } }
    else s.emit (.msix f v)
  else s

/-- R547, R548: cause k is raised in the block of function f; the slot's bit is set for causes 1 and 2. -/
def State.raise (s : State) (f k : Nat) (slot : Option Nat) : State :=
  let b := s.host.int f
  let was := b.cause.getLsbD k
  let b' := { b with cause := b.cause ||| BitVec.ofNat 8 (2 ^ k),
                     slots := match slot with
                       | some n => Tbl.set false b.slots n true
                       | none => b.slots }
  let s' := { s with host := s.host.setInt f b' }
  if !was && !b.mask.getLsbD k then s'.msix f k else s'

/-- R547: causes 1 and 2 go to the physical function and to the slot's owner. -/
def State.raiseSlot (s : State) (k n : Nat) : State :=
  let s := s.raise 0 k (some n)
  let o := (s.slot n).owner.toNat
  if o = 0 then s else s.raise o k (some n)

/-! Keep registers (R541). -/

def State.keep (s : State) (off : Nat) : BitVec 64 := Tbl.get 0#64 s.host.keep off
def State.keepLimited (s : State) (off : Nat) : Bool := decide (200000 ≤ Tbl.get 0 s.host.keepCount off)

/-- A stored write of a keep register, or a KEEP_LIMIT record once its counter stands at 200,000. -/
def State.keepWrite (s : State) (off : Nat) (v : BitVec 64) : State :=
  if s.keepLimited off then s.record 0x006 off []
  else { s with host := { s.host with keep := Tbl.set 0#64 s.host.keep off v,
                                      keepCount := Tbl.update 0 s.host.keepCount off (· + 1) } }

/-! The grid (R70 to R89). -/

def keepRetire (r : Nat) : Nat := 0xC0800 + 8 * r

/-- R88: the target mask of a row; a retirement kept for this power cycle only counts with it (R91). -/
def State.targetMask (s : State) (r : Nat) : BitVec 36 :=
  Tbl.get 0#36 s.grid.fuse r ||| (s.keep (keepRetire r)).extractLsb' 0 36 ||| Tbl.get 0#36 s.grid.cycleRetire r

def State.activeMask (s : State) (r : Nat) : BitVec 36 := Tbl.get 0#36 s.grid.active r

/-- R83: a logical row is present. -/
def State.rowPresent (s : State) (r : Nat) : Bool := s.grid.present.getLsbD r

/-- The physical core that serves logical core (r, x), when the row is present (R73, R74). -/
def State.phys (s : State) (r x : Nat) : Option Nat :=
  if s.rowPresent r then ((mapRow (s.activeMask r))[x]?).map (coreIdx r) else none

/-- The physical cores of a partition, row by row (R73). -/
def State.partCores (s : State) (k : Nat) : List Nat :=
  let p := s.part k
  (List.range (p.nrows + 1)).flatMap fun i =>
    (List.range (p.ncols + 1)).filterMap fun j => s.phys (p.row0 + i) (p.col0 + j)

/-- The partition of a slot, and the cores on which its context is resident. -/
def State.partOf (s : State) (n : Nat) : Nat := (s.slot n).part.toNat
def State.coresOf (s : State) (n : Nat) : List Nat :=
  (s.cores.filter fun kc => match kc.2.res with
    | some r => decide (r.slot = n)
    | none => false).map Prod.fst

/-- R325: the states in which a context occupies its partition's cores. -/
def CtxState.resident : CtxState → Bool
  | .loaded | .running | .aborted | .suspect => true
  | _ => false

def CtxState.occupies : CtxState → Bool
  | .loaded | .running | .aborted | .suspect | .torn => true
  | _ => false

/-- A LOAD is in progress in the slot; its cores are being written. -/
def Slot.loading (x : Slot) : Bool := decide (x.busy = some .load)

/-- R325; a LOAD or RESTORE in progress holds its partition too. -/
def Slot.occupies (x : Slot) : Bool := x.state.occupies || x.loading || decide (x.busy = some .restore)

/-- The slot that occupies a partition. -/
def State.occupant (s : State) (k : Nat) : Option Nat :=
  s.liveSlots.find? fun n => (s.slot n).occupies && decide ((s.slot n).part.toNat = k)

/-! What a core sees (R107 to R111, R133, R420). -/

/-- R420: the issue level of a region. -/
def State.level (s : State) (i : Nat) : Nat :=
  let die := if dieOfRegion i = 0 then s.draw.level0 else s.draw.level1
  let cl := s.cluster (clusterOfRegion i)
  min (min die (if cl.guard then cl.level else 16)) (min (if s.draw.brake then 8 else 16) (s.region i).therm)

/-- R279: the first tier-2 address not usable at a code strength. -/
def t2TopOf (code : Nat) : Nat :=
  if code = 0 then 0x27F70000000 else if code = 1 then 0x27EE0000000 else if code = 2 then 0x27DC0000000 else 0x27B80000000

/-- R133: a rack-time reading lies within 4 ns of the counter; which is open. -/
def State.rtReading (s : State) : BitVec 64 :=
  s.rt.now + BitVec.ofInt 64 ((Config.freeNat s.free % 9 : Nat) - 4)

def RedDesc.elems (d : RedDesc) : Nat := d.count

/-- R110: the pattern of the issue level in force permits cycle c. -/
def Region.permits (r : Region) (c : Nat) : Bool := decide (c % 2 ^ 32 * r.levelNow % 16 < r.levelNow)

/-- R207: the boundary that begins beat b of the step, on this module's counter. -/
def StepState.boundary (st : StepState) (b : Nat) : Nat := st.rel + st.offset + b * st.beatLen

/-- R226: the kindling wave of a cluster. -/
def waveOf (j : Nat) : Nat := ((j % 54) / 9 + 3 * ((j % 54) % 9) + 4 * (j / 54)) % 8

/-- R226: the wave offset of wave w. -/
def waveOffset (p : StepProg) (w : Nat) : Nat := w * p.kindNs / 7

/-- R377: the regions of a cluster that share its rail, when one of them is tied: the tied and the working ones. -/
def State.inGroup (s : State) (j i : Nat) : Bool :=
  let x := s.region i
  (regionsOfCluster j).any (fun q => (s.region q).tie) && x.mode.railed && (x.tie || (x.enabled && !x.regfail && !x.opened))

/-- R109, R617: HOLD of region i: its own, or that of a group one of whose regulators limits itself. -/
def State.held (s : State) (i : Nat) : Bool :=
  let j := clusterOfRegion i
  (s.region i).hold || (s.inGroup j i && (regionsOfCluster j).any fun q => (s.region q).limited && s.inGroup j q)

/-- The issue logic's view of core k. -/
def State.env (s : State) (k : Nat) : Env :=
  let c := s.core k
  let me := c.res.getD { slot := 0, lrow := 0, lcol := 0 }
  let x := s.slot me.slot
  let p := s.part x.part.toNat
  let i := regionOfCore k
  let rg := s.region i
  let cc := rg.cyc / 4
  { hold := s.held i, permitted := rg.permits cc, clockChange := decide (s.lt < rg.changeTill),
    beat := x.step.beat, now := s.rt.now.toNat, quarters := rg.quarters,
    armNext := x.step.boundary (x.step.beat + 1) + waveOffset x.prog (waveOf (clusterOfCore k)),
    rt := s.rtReading, chip := s.fab.chipId, slot := me.slot, gen := x.gen.toNat, part := x.part.toNat,
    rowIn := me.lrow - p.row0, colIn := me.lcol - p.col0, steps := BitVec.ofNat 64 x.step.steps,
    ccSince := BitVec.ofNat 64 ((rg.quarters - c.relCyc) / 4), row0 := p.row0, nrows := p.nrows + 1, col0 := p.col0, ncols := p.ncols + 1,
    members := x.members.map (·.chip),
    descs := (x.prog.descs.zipIdx).map fun d => (d.2, some d.1.elems), t2top := t2TopOf s.mem.t2Code }

/-! Frames and ports (R242 to R257). -/

/-- R245: the frame of a message between chips. -/
def msgFrame (m : Msg) : Frame :=
  let kind := match m.kind with
    | .data => 0 | .completion => 1 | .grant => 2 | .grantAck => 3 | .creditReturn => 4
  { type := 0x01#8, vc := if m.kind = .data then 1#2 else 0#2, dchip := m.dstChip, schip := m.srcChip,
    w1 := BitVec.ofNat 64 (kind + field m.srcRow.toNat 6 8 + field m.srcCol.toNat 5 14 + field m.dstRow.toNat 6 19 +
      field m.dstCol.toNat 5 25 + field m.mbox.toNat 4 30 + field m.gen.toNat 8 34 + field m.seq.toNat 16 42 +
      field m.len6.toNat 6 58),
    w2 := BitVec.ofNat 64 (m.offset.toNat + field m.units.toNat 13 12), w3 := 0#64,
    payload := if m.kind = .data then m.payload else [] }

/-- R245: the message an MSG frame carries. -/
def frameMsg (f : Frame) : Msg :=
  let w := f.w1.toNat
  let k := bits w 2 0
  { kind := if k = 0 then .data else if k = 1 then .completion else if k = 2 then .grant else if k = 3 then .grantAck
            else .creditReturn,
    srcChip := f.schip, srcRow := BitVec.ofNat 6 (bits w 13 8), srcCol := BitVec.ofNat 5 (bits w 18 14),
    dstChip := f.dchip, dstRow := BitVec.ofNat 6 (bits w 24 19), dstCol := BitVec.ofNat 5 (bits w 29 25),
    mbox := BitVec.ofNat 4 (bits w 33 30), gen := BitVec.ofNat 8 (bits w 41 34), seq := BitVec.ofNat 16 (bits w 57 42),
    offset := f.w2.extractLsb' 0 12, units := f.w2.extractLsb' 12 13, len6 := BitVec.ofNat 6 (bits w 63 58),
    payload := f.payload }

/-- R248: bytes of the frames held for replay. -/
def Port.replayBytes (p : Port) : Nat := p.replay.foldl (fun n x => n + 40 + x.2.payload.length) 0

/-- R248, R250, R259: whether a port can send a sequenced frame now; under drain-discard only an ABORT (R501). -/
def Port.canSend (p : Port) (drain : Bool) (f : Frame) : Bool :=
  decide (p.state = .up) && !p.retrain && decide (p.replay.length < 2048) &&
  decide (p.replayBytes + 40 + f.payload.length ≤ 0x40000) && decide (f.len + 1 ≤ p.credits.get f.vc.toNat) &&
  (!drain || decide (f.type = 0x05#8))

/-- R250: the next frame of a port: VC0 before VC1 and VC2, and each VC in order. -/
def Port.pick (p : Port) (drain : Bool) : Option Frame :=
  let head := fun v : BitVec 2 => (p.queue.find? fun f => f.vc = v).filter fun f => p.canSend drain f
  (head 0#2).or ((head 1#2).or (head 2#2))

/-- One frame leaves. -/
def Port.sent (p : Port) (f : Frame) : Port :=
  { p with queue := p.queue.erase f, replay := p.replay ++ [(p.nextLseq, f)], nextLseq := p.nextLseq + 1#12,
           credits := p.credits.set f.vc.toNat (p.credits.get f.vc.toNat - (f.len + 1)) }

/-- Words leave a port on its active lanes (R240). -/
def State.sendWords (s : State) (k : Nat) (ws : List (BitVec 64)) : State := s.emit (.link k (deal (s.port k).lanes ws))

/-- R242, R243: a frame leaves a port, and one IDLE word after it; how many there are is timing (log entry 135). -/
def State.sendFrame (s : State) (k : Nat) (lseq ack : Option (BitVec 12)) (f : Frame) : State :=
  (s.sendWords k (frameWords lseq ack f)).sendWords k [idleWord]

/-- A port sends what it may, at most n frames. -/
def State.pump (s : State) (k : Nat) : Nat → State
  | 0 => s
  | n + 1 =>
    let p := s.port k
    match p.pick s.rst.drain.isSome with
    | none => s
    | some f => ((s.setPort k (p.sent f)).sendFrame k (some p.nextLseq) none f).pump k n

/-- A frame joins a port's queue, and the port sends what it may. -/
def State.sendOn (s : State) (k : Nat) (f : Frame) : State :=
  let p := s.port k
  let s := s.setPort k { p with queue := p.queue ++ [f] }
  s.pump k (s.port k).queue.length

/-- A link-control frame (R244, R246). -/
def controlFrame (type : BitVec 8) (w1 : BitVec 64) : Frame :=
  { type, vc := 0#2, dchip := 0#8, schip := 0#8, w1, w2 := 0#64, w3 := 0#64, payload := [] }

/-- R244, R259: a link-control frame leaves at once, unsequenced; during a retrain it waits for the end, and a port with no link sends
none. -/
def State.linkFrame (s : State) (k : Nat) (ack : Option (BitVec 12)) (type : BitVec 8) (w1 : BitVec 64) : State :=
  let p := s.port k
  let f := controlFrame type w1
  if p.retrain then s.setPort k { p with late := p.late ++ [(ack, f)] }
  else if p.state = .up ∨ (p.state = .training ∧ p.aligned = true) then s.sendFrame k none ack f
  else s

/-- R257: the first port in the cyclic order from the home port that both entries name. -/
def routePort (own other : BitVec 18) (home : Nat) : Option Nat :=
  ((List.range 18).map fun i => (home + i) % 18).find? fun k => own.getLsbD k && other.getLsbD k

/-- The module's own membership entry, and the entry and index of a chip (R255). -/
def Slot.member (x : Slot) (chip : Nat) : Option Member := x.members.find? fun m => decide (m.chip = chip)
def Slot.memberIdx (x : Slot) (chip : Nat) : Option Nat := x.members.findIdx? fun m => decide (m.chip = chip)

/-- R257: a routed frame of context n toward a chip. A member with no shared port gets nothing (R256 refuses such a load). -/
def State.route (s : State) (n : Nat) (home : Nat) (f : Frame) : State :=
  let x := s.slot n
  match x.member s.fab.chipId.toNat, x.member f.dchip.toNat with
  | some a, some b => match routePort a.ports b.ports home with
    | some k => s.sendOn k f
    | none => s
  | _, _ => s

/-- R257: the home port of a message. -/
def msgHome (m : Msg) : Nat := (m.srcRow.toNat * 32 + m.srcCol.toNat + 5 * m.dstChip.toNat) % 18

/-- A message leaves its source: over the fabric to another chip, over the mesh to a core of this one (R185, R193). -/
def State.post (s : State) (n : Nat) (m : Msg) : State :=
  if m.dstChip = s.fab.chipId then { s with mesh := s.mesh ++ [m] } else s.route n (msgHome m) (msgFrame m)

/-- R272: one ABORT to every other member on every UP port. -/
def State.abortFrames (s : State) (n cause level : Nat) : State :=
  let x := s.slot n
  let f := fun m : Member =>
    { type := 0x05#8, vc := 0#2, dchip := BitVec.ofNat 8 m.chip, schip := s.fab.chipId,
      w1 := BitVec.ofNat 64 (x.job.toNat + field x.gen.toNat 8 16 + field cause 8 24 + field level 8 32),
      w2 := s.rt.now, w3 := 0#64, payload := [] : Frame }
  let others := x.members.filter fun m => m.chip ≠ s.fab.chipId.toNat
  let up := (List.range 18).filter fun k => decide ((s.port k).state = .up)
  up.foldl (fun a k => others.foldl (fun b m => b.sendOn k (f m)) a) s

/-! Undefined ranges of device memory (R296, R327). -/

def State.modMem (s : State) (f : MemSys → MemSys) : State := { s with mem := f s.mem }

/-- Two ranges of device addresses meet. -/
def meets (a n b m : Nat) : Bool := decide (a < b + m) && decide (b < a + n)

/-- The undefined ranges without the n bytes from a. -/
def cutUndef (a n : Nat) (rs : List UndefRange) : List UndefRange :=
  rs.flatMap fun r =>
    if meets a n r.base r.len then
      (if r.base < a then [{ r with len := a - r.base }] else []) ++
      (if a + n < r.base + r.len then [{ base := a + n, len := r.base + r.len - (a + n), nonce := r.nonce }] else [])
    else [r]

/-- A range of device memory becomes undefined. -/
def State.undefine (s : State) (a n : Nat) : State :=
  { s with free := s.free + 1 }.modMem fun m =>
    { m with undef := { base := a, len := n, nonce := s.free } :: cutUndef a n m.undef }

/-- R296: a rotation of a context that ends stops with the stripe in progress, and the context's tier-1 contents are undefined. -/
def State.stopRotation (s : State) (n : Nat) : State :=
  if s.mem.rotation.any fun r => r.1 = n then
    let all := ((s.slot n).extents.filter fun e => decide (e.kind = 0)).foldl (fun k e => k + e.len / 0x10000) 0
    let s := s.modMem fun m => { m with rotation := none, saltResult := 5, saltDone := BitVec.ofNat 32 (min all (m.saltDone.toNat + 1)) }
    ((s.slot n).extents.filter fun e => decide (e.kind ≤ 1)).foldl (fun a e => a.undefine e.base e.len) s
  else s

/-! The end of a context (R114, R272, R327). -/

/-- A core of a context that leaves RUNNING: it stops and abandons what it waits in (R114, R340), and grants are not repeated (R178). -/
def Core.stop (c : Core) : Core :=
  { c with stopped := true, bundle := [], holding := false, waiting := false, tried := none, armFrom := none,
           fetchWait := 0, grants := [], creditDue := [], sendWait := SendWait.none, recvWait := none }

/-- R270: the open reduction instances of a context are discarded, and its cores' offloads with them. -/
def State.dropInsts (s : State) (n : Nat) : State :=
  let s := { s with fab := { s.fab with insts := s.fab.insts.filter fun i => i.slot ≠ n } }
  s.modCores (s.coresOf n) fun c => { c with offloads := [], contribs := [] }

/-- R272: the abort decision of a context of a job with more than one member. -/
def State.abortDecision (s : State) (n cause level : Nat) : State :=
  if (s.slot n).members.length ≤ 1 then s
  else { s with fab := { s.fab with sent := satAdd 0xFFFF s.fab.sent 1 } }.abortFrames n cause level

/-- R327: what a LOAD or RESTORE in progress has copied into a core is discarded. -/
def Core.uncopied (c : Core) : Core := { Core.reset with res := c.res, stopped := true, drop := c.drop }

/-- A core with no context; MSG_DROP stays with the physical core until a reset of L1 or higher (R198). -/
def Core.cleared (c : Core) : Core := { Core.reset with drop := c.drop }

/-- A context leaves its state for ABORTED or SUSPECT (R114, R326, R327): its cores stop, a busy command ends ENDED, a park
that waits is dropped, what a copy in progress wrote is discarded, and the CTX interrupt is raised where a command ends or a RUNNING context ends without one. `own` is
the ABORT command itself, which reports its own result. -/
def State.endCtx (s : State) (n : Nat) (dst : CtxState) (cause : Nat) (own : Bool) : State :=
  let s := s.stopRotation n
  let x := s.slot n
  let ends := !own && (x.busy.isSome || decide (x.state = .running))
  let y := { x with state := dst, cause := BitVec.ofNat 8 cause, parkPend := none, busy := none,
                    result := if x.busy.isSome && !own then .ended else x.result,
                    step := { x.step with pendingRel := none, next := none } }
  let copying := x.loading || decide (x.busy = some .restore)
  let s := ((s.setSlot n y).modCores (s.coresOf n) fun c => if copying then c.uncopied else c.stop).dropInsts n
  if ends then s.raiseSlot 1 n else s

/-- The states an event aborts from, and a LOAD in progress (R326, R327). -/
def Slot.abortable (x : Slot) : Bool :=
  x.loading || (match x.state with
    | .loaded | .running | .parked => true
    | _ => false)

/-- R272 with R326: an event aborts a context in LOADED, RUNNING or PARKED, with abort frames. -/
def State.abortCtx (s : State) (n cause level : Nat) : State :=
  if (s.slot n).abortable then (s.endCtx n .aborted cause false).abortDecision n cause level else s

/-- The regions that serve a context. -/
def State.regionsOf (s : State) (n : Nat) : List Nat := ((s.coresOf n).map regionOfCore).eraseDups

/-- The contexts a predicate picks. -/
def State.ctxs (s : State) (p : Slot → Bool) : List Nat := s.liveSlots.filter fun n => p (s.slot n)

/-- Progress of a context (R490): the idle time restarts and EXPIRED clears (R491). -/
def State.progress (s : State) (n : Nat) : State :=
  s.modSlot n fun x => { x with pw := { x.pw with idleMs := 0, expired := false } }

/-- KEY fields of a CONTEXT record (R525). -/
def State.ctxRecord (s : State) (event n reason : Nat) : State :=
  s.record 0x021 (event + field n 10 3 + field (s.slot n).gen.toNat 8 13 + field reason 8 21) []

end Sys2Proof.Machine
end

