-- ==== Sys2Proof/Machine/Service.lean ====
section
/-! DEFINITION. The service state and the degradation reasons (R19 to R27). -/

namespace Sys2Proof.Machine

/-- R20, R579: a port counts as down: DOWN, DISABLED, or still TRAINING once FILLING has ended. -/
def Port.isDown (p : Port) (v : Service) : Bool :=
  match p.state with
  | .up => false
  | .training => decide (3 ≤ v.code)
  | .down | .disabled => true

/-- R20: the degradation conditions in a service state, bit by bit as GLB_STATE.DEGRADE holds them (R551). -/
def State.degradeIn (s : State) (v : Service) : BitVec 5 :=
  BitVec.ofNat 5
    (flag1 (decide (s.grid.present ≠ BitVec.allOnes 48)) 0 +
     flag1 (decide (s.ptc.a = .failed) || decide (s.ptc.b = .failed)) 1 +
     flag1 (!(s.carts.a.state.serves && s.carts.b.state.serves)) 2 +
     flag1 ((List.range 18).any fun k => (s.port k).isDown v) 3 +
     flag1 (s.rst.runs.any fun r => decide (r.level = 3)) 4)

def State.degradeNow (s : State) : BitVec 5 := s.degradeIn s.svc

/-! The tray serial link's STATUS payload and unsolicited frames (R570, R571). -/

/-- PTC_PAIR (R488). -/
def Ptc.pairWord (p : Ptc) : Nat :=
  field p.a.code 3 0 + field p.b.code 3 3 + field p.ownerBit 1 6 + flag1 p.absent 7 + field p.lastCause 4 8 +
  field p.epoch.toNat 16 16 + field p.proves 16 32 + field p.proveFails 16 48

/-- E_low in J, rounded down. -/
def Carts.lowJ (c : Carts) : Nat := (c.eLow / joule 1).toNat

/-- R565, R566: the bytes of a frame between its first and its last symbol. -/
def tslFrame (type flags seq status reason : Nat) (payload : List Byte) : List Byte :=
  let b := toLE 1 type ++ toLE 1 flags ++ toLE 2 seq ++ toLE 2 payload.length ++ toLE 1 status ++ toLE 1 reason ++ payload
  b ++ toLE 4 (crc32c b).toNat

/-- R570. -/
def State.statusPayload (s : State) : List Byte :=
  toLE 1 s.svc.code ++ toLE 1 s.degrade.toNat ++ toLE 1 s.rt.state.code ++ toLE 1 s.fab.chipId.toNat ++
  toLE 1 (flag1 s.fab.chipValid 0 + flag1 s.tray.pwrReq 1 + flag1 s.draw.brake 2 + flag1 (s.draw.traj.isSome && s.svc.follows) 3 + flag1 s.tray.lostSince 4) ++
  toLE 1 s.carts.a.state.code ++ toLE 1 s.carts.b.state.code ++ toLE 1 (bits s.ptc.pairWord 6 0) ++ toLE 2 s.draw.ceiling ++
  toLE 2 s.draw.limit ++ toLE 2 s.carts.lowJ ++ toLE 2 s.tray.badFrames ++ toLE 4 s.recorder.nextSeq.toNat ++
  toLE 4 s.recorder.tailSeq.toNat

/-- R464, R571: an unsolicited frame; only an ACTIVE PTC drives the transmitter. -/
def State.unsol (s : State) (type : Nat) (payload : List Byte) : State :=
  if s.ptc.hasActive then
    { s with tray := { s.tray with ownSeq := (s.tray.ownSeq + 1) % 65536 } }.emit (.tray (tslFrame type 2 s.tray.ownSeq 0 0 payload))
  else s

/-- R567, R568: the response to a request: it leaves the queue, and the response is kept. -/
def State.tslAnswer (s : State) (type seq status reason : Nat) (payload : List Byte) : State :=
  let t := s.tray
  let r : TslReply := { type, seq, status, reason, payload }
  let t := { t with stored := (r :: t.stored).take 16,
                    queue := t.queue.eraseP fun q => decide (q.1 = type) && decide (q.2.1 = seq) }
  let s := { s with tray := t }
  if s.ptc.hasActive then s.emit (.tray (tslFrame type 1 seq status reason payload)) else s

/-- R567, R568: what the rack's request of this TYPE and SEQ, with payload p, meets: the ACTIVE PTC acts on it (while a switch-over is under way
a PTC_CMD ends BUSY, R473), in arrival order; a repeat gets the stored response; a fifth waiting request is answered BUSY (log entry 152). -/
def State.byRack (s : State) (type seq : Nat) (p : List Byte) (act : State → State) : State :=
  let here := fun q : Nat × Nat × List Byte => decide (q.1 = type) && decide (q.2.1 = seq)
  let arrived := fun s : State => { s with tray := { s.tray with link := true, heardAt := s.lt, queue := s.tray.queue ++ [(type, seq, p)] } }
  if s.svc = .off || (!s.ptc.hasActive && !(decide (type = 5) && s.ptc.switching)) then s
  else match s.tray.stored.find? fun r => decide (r.type = type) && decide (r.seq = seq) with
    | some r => if s.ptc.hasActive then s.emit (.tray (tslFrame type 1 seq r.status r.reason r.payload)) else s
    | none => match s.tray.queue with
      | [] => act (arrived s)
      | q :: _ =>
        if here q then act s
        else if s.tray.queue.any here then s
        else if 4 ≤ s.tray.queue.length then s.tslAnswer type seq 4 0 []
        else arrived s

/-- Some context is RUNNING. -/
def State.anyRunning (s : State) : Bool := s.liveSlots.any fun n => decide ((s.slot n).state = .running)

/-- R27: a change of service state or of the degradation reasons: the record, the count and the interrupt. -/
def State.setService (s : State) (v : Service) (d : BitVec 5) : State :=
  if s.svc = v ∧ s.degrade = d then s
  else
    let s := (({ s with svc := v, degrade := d, host := { s.host with changes := s.host.changes + 1#32 } }).record 0x010
      (v.code + field s.svc.code 4 4 + field d.toNat 8 8) []).raise 0 0 none
    s.unsol 0x42 s.statusPayload

/-- R21: after an event, the state among READY, SERVING and DEGRADED whose condition holds; INIT and FILLING are left only
forward, and the reasons are found before INIT is left (R95). -/
def State.settle (s : State) : State :=
  match s.svc with
  | .off | .init => s
  | .ready | .serving | .degraded =>
    let d := s.degradeNow
    s.setService (if d ≠ 0#5 then .degraded else if s.anyRunning then .serving else .ready) d
  | v => s.setService v s.degradeNow

/-- R475: absence has lasted 5 ms LT. -/
def State.longAbsent (s : State) : Bool := s.ptc.absent && decide (s.ptc.absentAt + 5000000 ≤ s.lt)

/-- Initialisation is complete and no save or bench is on (R22). -/
def State.serviceUp (s : State) : Bool :=
  match s.svc with
  | .ready | .serving | .degraded => true
  | _ => false

end Sys2Proof.Machine
end

