-- ==== Sys2Proof/Machine/MemOps.lean ====
section
/-! DEFINITION. Device memory (R277 to R320): where an address lies, channels and their traffic, the codes, poison, uncorrectable
events, row logs, and the reads and writes that every requester makes. -/

namespace Sys2Proof.Machine

/-! Addresses (R277 to R287). -/

/-- The end of the tier-2 data (R279). -/
def State.t2top (s : State) : Nat := t2TopOf s.mem.t2Code

/-- The tier of a device address: 0 where nothing is mapped. -/
def State.tierOf (s : State) (a : Nat) : Nat := if a < t1End then 1 else if t2Base ≤ a ∧ a < s.t2top then 2 else 0

def Extent.has (e : Extent) (a : Nat) : Bool := decide (e.base ≤ a) && decide (a < e.base + e.len)

def Slot.extentAt (x : Slot) (a : Nat) : Option Extent := x.extents.find? fun e => e.has a

/-- The context whose layout holds an address (R285, R310). -/
def State.ownerAt (s : State) (a : Nat) : Option Nat :=
  s.liveSlots.find? fun n => decide ((s.slot n).state ≠ .free) && ((s.slot n).extentAt a).isSome

/-- R282, exactly. -/
def channelHashed (a : Nat) (salt : BitVec 32) : Nat :=
  let x : BitVec 24 := BitVec.ofNat 24 (bits a 39 16) ^^^ salt.extractLsb' 0 24
  let c : BitVec 8 := BitVec.ofNat 8 (bits a 15 8) ^^^ (x.extractLsb' 0 8).rotateLeft (bits salt.toNat 26 24) ^^^
    (x.extractLsb' 8 8).rotateLeft (bits salt.toNat 29 27) ^^^ (x.extractLsb' 16 8).rotateLeft (bits salt.toNat 31 30)
  c.toNat

/-- The place of an address among the stripes of a context's hashed extents, in the order of its layout (R295, R296). -/
def stripeIn : List Extent → Nat → Nat
  | [], _ => 0
  | e :: t, a => if e.kind ≠ 0 then stripeIn t a else if e.has a then (a - e.base) / 0x10000 else e.len / 0x10000 + stripeIn t a

/-- The stripes of a context's hashed extents. -/
def Slot.stripes (x : Slot) : Nat := (x.extents.filter fun e => decide (e.kind = 0)).foldl (fun m e => m + e.len / 0x10000) 0

/-- R285, R296: the salt of slot n's stripe that holds an address: during a rotation the new one for stripes already permuted. -/
def State.saltAt (s : State) (n a : Nat) : BitVec 32 :=
  match s.mem.rotation with
  | some (m, new) => if m = n ∧ stripeIn (s.slot n).extents a < s.mem.saltDone.toNat then new else (s.slot n).salt
  | none => (s.slot n).salt

/-- R283, R285: the tier-1 channel of an address. -/
def State.channelAt (s : State) (a : Nat) : Nat :=
  match s.ownerAt a with
  | some n =>
    match (s.slot n).extentAt a with
    | some e => if e.kind = 1 then bits a 15 8 else channelHashed a (s.saltAt n a)
    | none => channelHashed a 0#32
  | none => channelHashed a 0#32

/-- R287. -/
def t2Channel (a : Nat) : Nat :=
  let n := (a - t2Base) / 4096
  (bits n 6 0 ^^^ bits n 13 7 ^^^ bits n 20 14 ^^^ bits n 27 21) ^^^ (bits n 28 28 * 64)

def State.chan (s : State) (c : Nat) : Chan := Tbl.get Chan.reset s.mem.chans c
def State.modChan (s : State) (c : Nat) (f : Chan → Chan) : State :=
  s.modMem fun m => { m with chans := Tbl.update Chan.reset m.chans c f }
def State.stack (s : State) (k : Nat) : Stack := Tbl.get Stack.reset s.mem.stackTab k
def State.modStack (s : State) (k : Nat) (f : Stack → Stack) : State :=
  s.modMem fun m => { m with stackTab := Tbl.update Stack.reset m.stackTab k f }

/-- R281: the stack of a channel. -/
def stackOf (c : Nat) : Nat := c % 8

/-- R290, R297: n granules of a channel are read or written; k is the contributing slot + 1, or 0 where no context's traffic moves them. -/
def Chan.moved (c : Chan) (n k : Nat) (wr : Bool) : Chan :=
  { c with rd := if wr then c.rd else c.rd + BitVec.ofNat 32 n, wr := if wr then c.wr + BitVec.ofNat 32 n else c.wr,
           run := Tbl.update 0 c.run k (· + n) }

/-- R297: n pages of a tier-2 channel are read or written. -/
def State.pageTraffic (s : State) (ch n : Nat) (wr : Bool) : State :=
  let up := fun p : BitVec 32 × BitVec 32 => if wr then (p.1, p.2 + BitVec.ofNat 32 n) else (p.1 + BitVec.ofNat 32 n, p.2)
  s.modMem fun m => { m with t2ch := Tbl.update (0#32, 0#32) m.t2ch ch up }

/-- One granule or page is read or written for a requester whose traffic counts for k. -/
def State.trafficFor (s : State) (a : Nat) (wr : Bool) (k : Nat) : State :=
  if a < t1End then s.modChan (s.channelAt a) fun c => c.moved 1 k wr else s.pageTraffic (t2Channel a) 1 wr

/-- The contributor of an access by DMA or MW: the context whose layout holds the address. -/
def State.contributor (s : State) (a : Nat) : Nat :=
  match s.ownerAt a with
  | some n => n + 1
  | none => 0

/-- R290, R297: one granule or page is read or written. -/
def State.traffic (s : State) (a : Nat) (wr : Bool) : State := s.trafficFor a wr (s.contributor a)

/-- n whole stripes, of which every channel holds one granule (R281). -/
def State.stripeTraffic (s : State) (n : Nat) (wr : Bool) (k : Nat) : State :=
  if n = 0 then s else (List.range 256).foldl (fun b c => b.modChan c fun x => x.moved n k wr) s

/-- n runs of 128 pages that share n[28:7]: one page in every channel (R287). -/
def State.runTraffic (s : State) (n : Nat) (wr : Bool) : State :=
  if n = 0 then s else (List.range 128).foldl (fun b c => b.pageTraffic c n wr) s

/-- The numbers from lo up to hi: those outside whole blocks of b, and how many whole blocks they hold. -/
def spanOf (lo hi b : Nat) : List Nat × Nat :=
  let m := (lo + b - 1) / b
  let q := hi / b
  if m < q then ((List.range (m * b - lo)).map (lo + ·) ++ (List.range (hi - q * b)).map (q * b + ·), q - m)
  else ((List.range (hi - lo)).map (lo + ·), 0)

/-- The granules, or the pages, of n bytes from a. -/
def granuleSpan (a n : Nat) : List Nat × Nat := spanOf (a / 256) ((a + n + 255) / 256) 256
def pageSpan (a n : Nat) : List Nat × Nat := spanOf ((a - t2Base) / 4096) ((a + n - t2Base + 4095) / 4096) 128

/-- The traffic of n bytes from a. -/
def State.trafficSpan (s : State) (a n : Nat) (wr : Bool) (k : Nat) : State :=
  if n = 0 then s
  else if a < t1End then
    let p := granuleSpan a n
    (p.1.foldl (fun b g => b.trafficFor (256 * g) wr k) s).stripeTraffic p.2 wr k
  else
    let p := pageSpan a n
    (p.1.foldl (fun b g => b.trafficFor (t2Base + 4096 * g) wr k) s).runTraffic p.2 wr

/-- R293: some stack stands at throttle level 3. -/
def State.anyStopped (s : State) : Bool := (List.range 8).any fun k => decide ((s.stack k).throt = 3)

/-- R293: n bytes from a reach a stack at throttle level 3, which issues no read or write. -/
def State.blocked (s : State) (a n : Nat) : Bool :=
  s.anyStopped && decide (a < t1End) &&
  (let p := granuleSpan a n
   decide (p.2 ≠ 0) || p.1.any fun g => decide ((s.stack (stackOf (s.channelAt (256 * g)))).throt = 3))

/-! Bytes. -/

/-- The byte at a device address; inside an undefined range it is open. -/
def MemSys.byte (m : MemSys) (a : Nat) : Byte :=
  match m.undef.find? fun r => decide (r.base ≤ a) && decide (a < r.base + r.len) with
  | some r => Config.undefByte r.nonce a
  | none => Mem.read8 m.bytes a

def MemSys.read (m : MemSys) (a n : Nat) : List Byte := (List.range n).map fun i => m.byte (a + i)

/-- The bits of a page that a pattern of bad symbols turns over, as one number (R302). -/
def pageFlips (e : Tbl Nat) : Nat := e.foldl (fun x v => if v.1 < 2731 then x ^^^ (v.2 <<< (12 * v.1)) else x) 0

/-- The byte as it is stored, for a reader that is given an uncorrectable page as it stands (log entry 28). -/
def MemSys.rawByte (m : MemSys) (a : Nat) : Byte :=
  if t2Base ≤ a then
    let e := Tbl.get [] m.err2 ((a - t2Base) / 4096)
    if e = [] then m.byte a else m.byte a ^^^ BitVec.ofNat 8 (pageFlips e >>> (8 * (a % 4096)))
  else m.byte a

def MemSys.raw (m : MemSys) (a n : Nat) : List Byte := (List.range n).map fun i => m.rawByte (a + i)

def MemSys.store (m : MemSys) (a : Nat) (bs : List Byte) : MemSys :=
  { m with bytes := Mem.write m.bytes a bs, undef := cutUndef a bs.length m.undef }

/-! Counts, logs and events (R310 to R314). -/

/-- KEY of a MEM_ERROR record (R525). -/
def memKey (event a : Nat) : Nat := event + field a 48 3

/-- R310, R314, R547: the memory-error interrupt, of the physical function and of the function that owns MEM_UE_LAST.SLOT. -/
def State.memError (s : State) : State :=
  let s := s.raise 0 3 none
  match s.mem.ueLast.bind UeLast.slot with
  | some n => if (s.slot n).owner = 0#6 then s else s.raise (s.slot n).owner.toNat 3 none
  | none => s

/-- R310: an uncorrectable event. -/
def State.ueEvent (s : State) (t2 : Bool) (a : Nat) (scrub addrFault : Bool) : State :=
  let o := s.ownerAt a
  let s := if t2 then s.modMem fun m => { m with t2Ue := satAdd 0xFFFF m.t2Ue 1 }
    else s.modStack (stackOf (s.channelAt a)) fun k => { k with ue := satAdd 0xFFFF k.ue 1 }
  let s := s.modMem fun m => { m with ueLast := some { addr := a, tier2 := t2, scrub, addrFault, slot := o } }
  (s.record 0x052 (memKey 2 a) [a, flag1 t2 0, flag1 scrub 0, flag1 addrFault 0, o.getD (s.recordValue 0x052 4)]).memError

/-- R321: the row identity of a tier-1 address. -/
def State.rowId (s : State) (a : Nat) : BitVec 32 :=
  let c := s.channelAt a
  let p := (Config.tier1Row c (4 * (a / 65536) + a / 64 % 4)).toNat
  BitVec.ofNat 32 (c / 8 + field p 6 5 + field (p / 64 % 40960) 16 11)

/-- The entry a row or page takes in a log of n entries: its own, a free one, else the lowest COUNT that may go (R312, R313). -/
def logPlace (n : Nat) (mine free busy : Nat → Bool) (count : Nat → Nat) : Option Nat :=
  let is := List.range n
  ((is.find? mine).or (is.find? free)).or
    (is.foldl (fun b i => if busy i then b else match b with
      | none => some i
      | some j => if count i < count j then some i else b) none)

def State.logEntry (s : State) (k e : Nat) : LogEntry := Tbl.get LogEntry.reset s.mem.log (32 * k + e)
def State.setLog (s : State) (k e : Nat) (x : LogEntry) : State :=
  s.modMem fun m => { m with log := Tbl.set LogEntry.reset m.log (32 * k + e) x }

/-! Row repairs (R315 to R318). -/

def keepRowmap (k spare : Nat) : Nat := 0xC2000 + 8 * (256 * k + spare)

/-- The lowest free spare of a stack. -/
def State.freeSpare (s : State) (k : Nat) : Option Nat :=
  (List.range 256).find? fun i => (Tbl.get none s.mem.remap (256 * k + i)).isNone

def State.remapped (s : State) (k : Nat) (row : BitVec 32) : Bool :=
  (List.range 256).any fun i => decide (Tbl.get none s.mem.remap (256 * k + i) = some row)

/-- The log entry of a row. -/
def State.logOf (s : State) (k : Nat) (row : BitVec 32) : Option Nat :=
  (List.range 32).find? fun e => (s.logEntry k e).valid && decide ((s.logEntry k e).row = row)

def State.modLogOf (s : State) (k : Nat) (row : BitVec 32) (f : LogEntry → LogEntry) : State :=
  match s.logOf k row with
  | some e => s.setLog k e (f (s.logEntry k e))
  | none => s

/-- KEY of a MEM_MAINT record of a row (R525). -/
def maintKey (event k : Nat) (row : BitVec 32) : Nat := event + field row.toNat 32 2 + field k 3 34

/-- R317 step 1, R318. -/
def State.startRepair (s : State) (k : Nat) (row : BitVec 32) : State :=
  let s := s.modMem fun m => { m with repairRow := row, repairStack := k }
  match s.freeSpare k with
  | none =>
    ((s.modLogOf k row fun e => { e with noSpare := true, pending := false }).modMem fun m => { m with repairResult := 3 }).record 0x053
      (maintKey 2 k row) []
  | some i => (s.modLogOf k row fun e => { e with pending := false }).modMem fun m =>
      { m with repairResult := 1, repair := some { stack := k, row, spare := i, entry := s.logOf k row } }

/-- The pending entries, lowest stack and entry first. -/
def State.pendingRepair (s : State) : Option (Nat × Nat) :=
  ((List.range 256).find? fun i => (s.logEntry (i / 32) (i % 32)).pending).map fun i => (i / 32, i % 32)

/-- R312, R316: an event of a row is logged. A row that is due starts its repair at once, or is PENDING behind another. -/
def State.logRow (s : State) (a : Nat) (ue : Bool) : State :=
  let k := stackOf (s.channelAt a)
  let id := s.rowId a
  match logPlace 32 (fun e => (s.logEntry k e).valid && decide ((s.logEntry k e).row = id)) (fun e => !(s.logEntry k e).valid)
      (fun e => (s.logEntry k e).pending) fun e => (s.logEntry k e).count with
  | none => s
  | some e =>
    let x := s.logEntry k e
    let x := if x.valid ∧ x.row = id then x else { LogEntry.reset with row := id, valid := true }
    let y := { x with count := satAdd 0xFFFF x.count 1, ue := x.ue || ue }
    let hit := (decide (x.count < s.mem.rowLimit) && decide (s.mem.rowLimit ≤ y.count)) || (ue && !x.ue)
    let t := s.setLog k e y
    if !(s.mem.autoRepair && hit) then t
    else if s.mem.repair.isSome ∨ s.pendingRepair.isSome then s.setLog k e { y with pending := true }
    else t.startRepair k id

/-- R313: an event of a page. -/
def State.logPage (s : State) (p syms : Nat) (ue : Bool) : State :=
  let g := fun e => Tbl.get T2Log.reset s.mem.t2log e
  match logPlace 64 (fun e => (g e).valid && decide ((g e).page = p)) (fun e => !(g e).valid) (fun _ => false) fun e => (g e).count with
  | none => s
  | some e =>
    let x := if (g e).valid ∧ (g e).page = p then g e else { T2Log.reset with page := p, valid := true }
    let y := { x with count := if ue then x.count else satAdd 0x3FFF x.count 1, maxSym := if ue then x.maxSym else max x.maxSym syms,
                      ue := x.ue || ue }
    s.modMem fun m => { m with t2log := Tbl.set T2Log.reset m.t2log e y }

/-- R314: the corrected errors of an hour reach CE_IRQ. -/
def State.ceAlarm (s : State) (src : Nat) : State := (s.record 0x052 (memKey 3 0) [src]).memError

/-- R301, R314: one corrected error of a codeword. -/
def State.corrected1 (s : State) (a : Nat) : State :=
  let k := stackOf (s.channelAt a)
  let x := s.stack k
  let hit := decide (s.mem.ceIrq ≠ 0) && decide (s.mem.ceIrq ≤ x.ceHour + 1) && !x.raised
  let s := (s.modStack k fun x => { x with ce := satAdd 0xFFFFFFFF x.ce 1, ceHour := x.ceHour + 1, raised := x.raised || hit }).logRow a false
  if hit then s.ceAlarm k else s

/-- R303, R314: one corrected page. -/
def State.corrected2 (s : State) (p syms : Nat) : State :=
  let m := s.mem
  let hit := decide (m.ceIrq ≠ 0) && decide (m.ceIrq ≤ m.t2CeHour + 1) && !m.t2Raised
  let s := (s.modMem fun m => { m with t2Ce := satAdd 0xFFFFFFFF m.t2Ce 1, t2CeHour := m.t2CeHour + 1, t2Raised := m.t2Raised || hit }).logPage
    p syms false
  if hit then s.ceAlarm 8 else s

/-! Reads (R301, R303, R305, R308). -/

/-- R305: a codeword becomes poisoned: zero data. -/
def State.poison1 (s : State) (w : Nat) : State :=
  s.modMem fun m => { m.store (64 * w) (List.replicate 64 0#8) with
    poison := Tbl.set false m.poison w true, err1 := Tbl.set [] m.err1 w [] }

/-- R301, R306: the codeword is written back with the symbols of d turned over against what it was, POISON in metadata byte 0 with them:
d is empty where the correction was true. -/
def MemSys.rewrite1 (m : MemSys) (w : Nat) (d : Tbl Nat) : MemSys :=
  let m := { m with err1 := Tbl.set [] m.err1 w [] }
  if d = [] then m
  else { m.store (64 * w) ((m.read (64 * w) 64).zipIdx.map fun x => x.1 ^^^ BitVec.ofNat 8 (Tbl.get 0 d x.2)) with
           poison := if bit (Tbl.get 0 d 64) 0 then Tbl.update false m.poison w not else m.poison }

/-- A read of the tier-1 codeword w: false where it is poisoned or found uncorrectable (R301, R305). -/
def State.decode1 (s : State) (w : Nat) (scrub : Bool) : Bool × State :=
  let a := 64 * w
  let e := Tbl.get [] s.mem.err1 w
  let fail := fun virt : Bool => ((s.ueEvent false a scrub virt).logRow a true).poison1 w
  let t := if e = [] then s
    else match decodeWord e with
      | some f => if f.any fun x => decide (72 ≤ x.1) then fail true else (s.corrected1 a).modMem fun m => m.rewrite1 w (joinErr e f)
      | none => fail false
  (!Tbl.get false t.mem.poison w, t)

/-- The correction capability of tier 2 (R279, R302). -/
def State.t2t (s : State) : Nat := 2 ^ (s.mem.t2Code + 1)

/-- R303, R306: the page is written back with the symbols of d turned over against what it was. -/
def MemSys.rewrite2 (m : MemSys) (p : Nat) (d : Tbl Nat) : MemSys :=
  let m := { m with err2 := Tbl.set [] m.err2 p [] }
  if d = [] then m
  else
    let a := t2Base + 4096 * p
    m.store a ((m.read a 4096).zipIdx.map fun x => x.1 ^^^ BitVec.ofNat 8 (pageFlips d >>> (8 * x.2)))

/-- A read of the tier-2 page p: false where it is uncorrectable (R303, R308). -/
def State.decode2 (s : State) (p : Nat) (scrub : Bool) : Bool × State :=
  let e := Tbl.get [] s.mem.err2 p
  if e = [] then (true, s)
  else match decodePage s.t2t e with
    | some f => (true, (s.corrected2 p f.length).modMem fun m => m.rewrite2 p (joinErr e f))
    | none => (false, (s.ueEvent true (t2Base + 4096 * p) scrub false).logPage p 0 true)

/-- The 64-byte unit at a device address is read for a requester: none where it is poisoned or uncorrectable. `first` says that
its granule or page is new to the access; a page is decoded once for the access. -/
def State.readUnit (s : State) (a : Nat) (first : Bool) : Option (List Byte) × State :=
  if a < t1End then
    let s := if first || decide (a % 256 = 0) then s.traffic a false else s
    let r := s.decode1 (a / 64) false
    (if r.1 then some (r.2.mem.read a 64) else none, r.2)
  else if first || decide (a % 4096 = 0) then
    let r := (s.traffic a false).decode2 ((a - t2Base) / 4096) false
    (if r.1 then some (r.2.mem.read a 64) else none, r.2)
  else (if Tbl.get [] s.mem.err2 ((a - t2Base) / 4096) = [] then some (s.mem.read a 64) else none, s)

/-- The keys of a table that lie in a range. -/
def keysIn {α : Type} (t : Tbl α) (lo hi : Nat) : List Nat := (t.map Prod.fst).filter fun k => decide (lo ≤ k) && decide (k < hi)

/-- The module reads n bytes from a for itself: every codeword and page that they touch is decoded, counted and poisoned as by any other
read (R301, R303, R305, R308). False where one is poisoned or uncorrectable. -/
def State.touch (s : State) (a n k : Nat) : Bool × State :=
  let s := s.trafficSpan a n false k
  if a < t1End then
    let hi := (a + n + 63) / 64
    let t := (keysIn s.mem.err1 (a / 64) hi).foldl (fun b w => (b.decode1 w false).2) s
    ((keysIn t.mem.poison (a / 64) hi).isEmpty, t)
  else
    (keysIn s.mem.err2 ((a - t2Base) / 4096) ((a + n - t2Base + 4095) / 4096)).foldl (fun b p =>
      let r := b.2.decode2 p false
      (b.1 && r.1, r.2)) (true, s)

/-- R301, R309: every codeword with a bad symbol that a predicate picks is read by the module, and kept or poisoned. -/
def State.moveWords (s : State) (p : Nat → Bool) : State :=
  ((s.mem.err1.map Prod.fst).filter p).foldl (fun a w => (a.decode1 w false).2) s

/-- R295: the stripes from i up to j of a context's hashed extents are permuted: each granule is read and written once. -/
def State.moveStripes (s : State) (x : Slot) (i j : Nat) : State :=
  let hashed := x.extents.filter fun e => decide (e.kind = 0)
  let s := s.moveWords fun w => hashed.any (fun e => e.has (64 * w)) && decide (i ≤ stripeIn x.extents (64 * w)) &&
    decide (stripeIn x.extents (64 * w) < j)
  (s.stripeTraffic (j - i) false 0).stripeTraffic (j - i) true 0

/-! Writes (R307, R320). -/

/-- R320: an armed injection is consumed by a whole write of the codeword or page it names; symbols 0 to NSYM − 1 are stored inverted. -/
def State.inject (s : State) (t2 : Bool) (unit a : Nat) : State :=
  let m := s.mem
  let hit := m.injArm && (if t2 then decide (m.injAddr.toNat / 64 = a / 4096) else decide (m.injAddr.toNat = a / 64))
  let e : Tbl Nat := if hit then (List.range m.injNsym.toNat).map fun i => (i, if t2 then 0xFFF else 0xFF) else []
  let s := s.modMem fun m =>
    if t2 then { m with err2 := Tbl.set [] m.err2 unit e, injArm := m.injArm && !hit }
    else { m with err1 := Tbl.set [] m.err1 unit e, injArm := m.injArm && !hit }
  if hit then s.record 0x052 (memKey 5 a) [a] else s

/-- R307, R320: the pages from lo up to hi have been written whole: nothing bad is left in them but what an injection puts there. -/
def State.pagesWritten (s : State) (lo hi : Nat) : State :=
  let s := s.modMem fun m => { m with err2 := m.err2.filter fun e => decide (e.1 < lo) || decide (hi ≤ e.1) }
  let q := s.mem.injAddr.toNat / 64 - t2Base / 4096
  if s.mem.injArm ∧ t2Base / 4096 ≤ s.mem.injAddr.toNat / 64 ∧ lo ≤ q ∧ q < hi then s.inject true q (t2Base + 4096 * q) else s

/-- R307: a whole codeword is written: new check bytes, no poison. -/
def State.write1 (s : State) (a : Nat) (bs : List Byte) : State :=
  (s.modMem fun m => { m.store a bs with poison := Tbl.set false m.poison (a / 64) false }).inject false (a / 64) a

/-- R307: a whole page is written. -/
def State.write2 (s : State) (a : Nat) (bs : List Byte) : State :=
  (s.modMem fun m => m.store a bs).inject true ((a - t2Base) / 4096) a

/-- The units of a write by DMA, 64 bytes in tier 1 and a page in tier 2. -/
def State.writeUnits (s : State) (a : Nat) : Nat → List Byte → State
  | 0, _ => s
  | n + 1, bs =>
    if a < t1End then
      let s := if a % 256 = 0 then s.traffic a true else s
      (s.write1 a (bs.take 64)).writeUnits (a + 64) n (bs.drop 64)
    else ((s.traffic a true).write2 a (bs.take 4096)).writeUnits (a + 4096) n (bs.drop 4096)

/-- A row of a DMA.ST. -/
def State.writeRow (s : State) (a : Nat) (bs : List Byte) : State :=
  if a < t1End then
    let s := if a % 256 = 0 then s else s.traffic a true
    s.writeUnits a (bs.length / 64) bs
  else s.writeUnits a (bs.length / 4096) bs

end Sys2Proof.Machine
end

