-- ==== Sys2Proof/Machine/Forward.lean ====
section
/-! DEFINITION. The forward model, the bus target and the pace proposal (R216, R217, R357, R414, R426, R625). Powers are exact
rationals in W. -/

namespace Sys2Proof.Machine

/-! The draw plan on physical clusters. -/

/-- R215: the nominal cluster of a logical core. -/
def nominalCluster (r c : Nat) : Nat := (r / 4) * 9 + c / 4

/-- The logical cores of slot n's partition. -/
def State.logicals (s : State) (n : Nat) : List (Nat × Nat) :=
  let p := s.part (s.partOf n)
  (List.range (p.nrows + 1)).flatMap fun i => (List.range (p.ncols + 1)).map fun j => (p.row0 + i, p.col0 + j)

/-- R216: the translation of slot n's plan, made at load and after every repair application. -/
def State.translate (s : State) (n : Nat) : State :=
  let t := (s.logicals n).filterMap fun rc => (s.phys rc.1 rc.2).map fun k => (nominalCluster rc.1 rc.2, clusterOfCore k)
  s.modSlot n fun x => { x with xlat := t }

/-- R216: a record's planned current of physical cluster P under a translation, in 1/64 A, each core's share rounded down. -/
def planned64 (xlat : List (Nat × Nat)) (cur : Tbl Nat) (P : Nat) : Nat :=
  (xlat.filter fun kp => kp.2 = P).foldl (fun a kp => a + Tbl.get 0 cur kp.1 * 16 / xlat.countP fun q => q.1 = kp.1) 0

def State.planned64 (s : State) (n : Nat) (cur : Tbl Nat) (P : Nat) : Nat := Machine.planned64 (s.slot n).xlat cur P

/-- R217: the record of a beat; after the last beat the last record stays. -/
def planAt : List PlanRec → Nat → Option PlanRec
  | [], _ => none
  | [r], _ => some r
  | r :: t, b => if b < r.run then some r else planAt t (b - r.run)

/-- R208: the beat length at pace q. -/
def beatLenAt (p : StepProg) (q : Nat) : Nat := (p.beatNs * q + 255) / 256

/-- R217, R395: the record of a RUNNING context at rack time t: by the beats of the step under way, the last record standing after the plan's
end; from the local instant of the next release, once that is known, by the beats of the next step. -/
def Slot.recAt (x : Slot) (offset t : Nat) : Option PlanRec :=
  let now := planAt x.prog.plan (max x.step.beat ((t - x.step.boundary 0) / max 1 x.step.beatLen))
  match x.step.next with
  | some (rel, q) => if rel + offset ≤ t then planAt x.prog.plan ((t - (rel + offset)) / max 1 (beatLenAt x.prog q)) else now
  | none => now

/-- The RUNNING contexts. -/
def State.runningSlots (s : State) : List Nat := s.ctxs fun x => decide (x.state = .running)

/-- The regions with a rail, and the mean set-point of some of them in V. -/
def State.powered (s : State) : List Nat := (List.range 432).filter fun i => (s.region i).mode.railed
def codeV (k : Nat) : Rat := 1 / 2 + (k : Rat) / 400
def State.meanV (s : State) (is : List Nat) : Rat :=
  if is.isEmpty then 0 else (is.map fun i => codeV (s.region i).setpt).foldl (· + ·) 0 / (is.length : Rat)

/-- The powered regions that no RUNNING context's plan covers (R357). -/
def State.idleRegions (s : State) : List Nat :=
  let busy := s.runningSlots.flatMap s.coresOf
  s.powered.filter fun i => !(coresOfRegion i).any fun k => decide (k ∈ busy)

/-- The planned load of one instant or one mean: current of each cluster in A, MEM and LINK as fractions. -/
structure PlanLoad where
  cur : Nat → Rat
  mem : Rat
  link : Rat

def ratSum (xs : List Rat) : Rat := xs.foldl (· + ·) 0
def capOne (x : Rat) : Rat := if 1 < x then 1 else x
def milli (n : Nat) : Rat := (n : Rat) / 1000

/-- PWR_MODEL and PWR_MODEL_LOAD as they read (R359). -/
def Power.words (p : Power) : Nat × Nat :=
  p.wait.getD (field p.etaR 10 0 + field p.etaF 10 10 + field p.etaP 10 20 + field p.etaB 10 30 + field p.auxW 8 40,
    field p.memBase 8 0 + field p.memSpan 8 8 + field p.linkBase 8 16 + field p.linkSpan 8 24 + field p.edgeBase 8 32 + field p.edgeMem 8 40 +
    field p.edgeLink 8 48 + field p.idleA 8 56)

/-- R359: written values come into force. -/
def Power.applyModel (p : Power) : Power :=
  match p.wait with
  | none => p
  | some (m, l) =>
    { p with etaR := bits m 9 0, etaF := bits m 19 10, etaP := bits m 29 20, etaB := bits m 39 30, auxW := bits m 47 40, memBase := bits l 7 0,
             memSpan := bits l 15 8, linkBase := bits l 23 16, linkSpan := bits l 31 24, edgeBase := bits l 39 32, edgeMem := bits l 47 40,
             edgeLink := bits l 55 48, idleA := bits l 63 56, wait := none }

def State.newModel (s : State) : State := { s with pwr := s.pwr.applyModel }

/-- R357: p_comp and p_edge of a planned load. -/
def State.pComp (s : State) (l : PlanLoad) (idle : List Nat) : Rat :=
  ratSum ((List.range 108).map fun P => l.cur P * s.meanV ((regionsOfCluster P).filter fun i => (s.region i).mode.railed))
    + (idle.length : Rat) * ((s.pwr.idleA : Rat) / 8) * s.meanV idle

def State.pEdge (s : State) (l : PlanLoad) : Rat :=
  (s.pwr.edgeBase : Rat) + s.pwr.edgeMem * capOne l.mem + s.pwr.edgeLink * capOne l.link

/-- R357: p_int for a planned load. -/
def State.pInt (s : State) (l : PlanLoad) (idle : List Nat) : Rat :=
  let w := s.pwr
  let mem := (w.memBase : Rat) + w.memSpan * capOne l.mem
  let link := (w.linkBase : Rat) + w.linkSpan * capOne l.link
  let feed := (s.pComp l idle + s.pEdge l) / milli w.etaR / milli w.etaF
  let priv := (mem + link) / milli w.etaP
  (feed + priv) / milli w.etaB + w.auxW

/-- The summed plans of the RUNNING contexts in the beats in force. -/
def State.loadNow (s : State) : PlanLoad :=
  let rs := s.runningSlots.filterMap fun n => (planAt (s.slot n).prog.plan (s.slot n).step.beat).map fun r => (n, r)
  { cur := fun P => ratSum (rs.map fun nr => (s.planned64 nr.1 nr.2.cur P : Rat) / 64),
    mem := ratSum (rs.map fun nr => (nr.2.mem : Rat) / 255), link := ratSum (rs.map fun nr => (nr.2.link : Rat) / 255) }

/-- R217: the summed plans of the RUNNING contexts at rack time t, read ahead. -/
def State.loadAt (s : State) (t : Nat) : PlanLoad :=
  let rs := s.runningSlots.filterMap fun n => ((s.slot n).recAt s.rt.offset.toNat t).map fun r => (n, r)
  { cur := fun P => ratSum (rs.map fun nr => (s.planned64 nr.1 nr.2.cur P : Rat) / 64),
    mem := ratSum (rs.map fun nr => (nr.2.mem : Rat) / 255), link := ratSum (rs.map fun nr => (nr.2.link : Rat) / 255) }

/-- R357: the forward internal draw of the beat in force. -/
def State.forwardNow (s : State) : Rat := s.pInt s.loadNow s.idleRegions

/-- A RUN-weighted mean over a plan (R426). -/
def runMean (plan : List PlanRec) (f : PlanRec → Rat) : Rat :=
  let n : Nat := plan.foldl (fun a r => a + r.run) 0
  if n = 0 then 0 else ratSum (plan.map fun r => (r.run : Rat) * f r) / (n : Rat)

/-- R426: the summed mean plan of the RUNNING contexts. -/
def State.loadMean (s : State) : PlanLoad :=
  let ns := s.runningSlots
  { cur := fun P => ratSum (ns.map fun n => runMean (s.slot n).prog.plan fun r => (s.planned64 n r.cur P : Rat) / 64),
    mem := ratSum (ns.map fun n => runMean (s.slot n).prog.plan fun r => (r.mem : Rat) / 255),
    link := ratSum (ns.map fun n => runMean (s.slot n).prog.plan fun r => (r.link : Rat) / 255) }

def State.pPlan (s : State) : Rat := s.pInt s.loadMean s.idleRegions

/-- R426: every powered region idle and m = l = 0. -/
def State.pIdle (s : State) : Rat := s.pInt { cur := fun _ => 0, mem := 0, link := 0 } s.powered

/-! The bus target. -/

/-- R462, R444: E_now and E_set in J. -/
def energyJ (e : Int) : Rat := (e : Rat) / (joule 1 : Int)
def Carts.eSet (c : Carts) : Int := c.eFull * c.setPct / 100

/-- R426: R_rec, clamped to ±500 W. -/
def State.rRec (s : State) : Rat :=
  let x := energyJ (s.carts.eNow - s.carts.eSet) / 10
  if x < -500 then -500 else if 500 < x then 500 else x

/-- R625: P_self; in INIT, until the bus converters have started, R_rec is 0. -/
def State.pSelf (s : State) : Rat :=
  let avg : Rat := if s.draw.intAvg.isEmpty then (s.draw.measMw : Rat) / 1000
    else ((s.draw.intAvg.foldl (· + ·) 0 : Nat) : Rat) / (1000 * s.draw.intAvg.length : Nat)
  let x := (if s.anyRunning then s.pPlan else avg) - (if s.svc = .init ∧ s.up.started < 8 then 0 else s.rRec)
  if x < 0 then 0 else x

/-- R432: a trajectory's value at a rack time: linear between points, held after the last. -/
def trajValue : List TrajPoint → Nat → Rat
  | [], _ => 0
  | [p], _ => (p.w : Rat)
  | p :: q :: t, x =>
    if x ≤ p.rt then (p.w : Rat)
    else if x < q.rt then (p.w : Rat) + ((q.w : Rat) - p.w) * ((x - p.rt : Nat) : Rat) / ((q.rt - p.rt : Nat) : Rat)
    else trajValue (q :: t) x

/-- R433: the trajectory the module follows: INIT and SAVING follow none (R22). -/
def State.trajNow (s : State) : Option Traj :=
  if s.svc.follows then s.draw.traj else none

def ratMin (a b : Rat) : Rat := if b < a then b else a

/-- R414: P_tgt in W and DRAW_STATUS.SOURCE, the lowest code among equal terms (R439). -/
def State.target (s : State) : Option Rat × Nat :=
  let d := s.draw
  let c : Rat := d.ceiling
  let l : Rat := d.limit
  if d.brake then (some (d.floor : Rat), 2)
  else if s.svc = .saving then (none, 3)
  else match s.trajNow with
    | some t =>
      let v := trajValue t.points s.rt.now.toNat
      let m := ratMin l (ratMin v c)
      (some m, if m = l then 0 else if m = v then 1 else 4)
    | none =>
      let v := s.pSelf
      let m := ratMin l (ratMin v c)
      (some m, if m = l then 0 else if m = c then 4 else 5)

/-- R417: the module-level caps of codes 2 and 3. -/
def State.cap23 (s : State) : Rat × Nat :=
  let u := (Tbl.get Rail.reset s.pwr.rails 1).units
  let failed := (List.range 8).countP fun k => u.getLsbD k
  let c3 : Rat := 450 * ((8 - failed : Nat) : Rat) / milli s.pwr.etaB + s.pwr.auxW
  if 2 ≤ failed ∧ c3 < 2900 then (c3, 3) else (2900, 2)

/-- The lowest value of a trajectory over a span (R426): its ends and the points between. -/
def trajLow (ps : List TrajPoint) (a b : Nat) : Rat :=
  ((ps.filter fun p => a ≤ p.rt ∧ p.rt ≤ b).map fun p => (p.w : Rat)).foldl ratMin (ratMin (trajValue ps a) (trajValue ps b))

/-- The trajectory that R432 puts in force by a rack time: the pending one, where its first point lies no later. -/
def State.trajComing (s : State) (x : Nat) : Option Traj :=
  match s.svc with
  | .init | .saving | .off => none
  | _ => s.draw.pend.filter fun p => decide ((p.points.headD { rt := 0, w := 0 }).rt ≤ x)

/-- R426, R432: the lowest trajectory value over the next span of ns RT, a pending trajectory replacing the one in force at its first
point's time. -/
def State.trajLowest (s : State) (span : Nat) : Option Rat :=
  let now := s.rt.now.toNat
  let now' := now + span
  match s.trajComing now' with
  | none => s.trajNow.map fun t => trajLow t.points now now'
  | some p =>
    let f := max now (p.points.headD { rt := 0, w := 0 }).rt
    let later := trajLow p.points f now'
    some (match s.trajNow with
      | some t => ratMin (trajLow t.points now f) later
      | none => later)

/-- R426: P_allow for a context whose plan spans the given ns RT. -/
def State.pAllow (s : State) (span : Nat) : Rat :=
  let a := match s.target.1 with
    | some t => t
    | none => (s.cap23).1
  let b := (s.trajLowest span).getD a
  ratMin (ratMin a b) s.cap23.1 + s.rRec

/-- R426: pace_proposal, exactly. -/
def paceOf (pPlan pAllow pIdle : Rat) : Nat :=
  if pPlan ≤ pAllow then 256
  else if pAllow ≤ pIdle then 4096
  else max 256 (min 4096 ((256 * (pPlan - pIdle) / (pAllow - pIdle)).ceil.toNat))

/-- Σ RUN × BEAT_NS of a context, in ns RT. -/
def StepProg.span (p : StepProg) : Nat := (p.plan.foldl (fun a r => a + r.run) 0) * p.beatNs

def State.pace (s : State) (n : Nat) : Nat := paceOf s.pPlan (s.pAllow (s.slot n).prog.span) s.pIdle

end Sys2Proof.Machine
end

