-- ==== Sys2Proof/Machine/RegOps.lean ====
section
/-! DEFINITION. The regions' operations: presence of rows, gating and repair (R74 to R93), ties, guards and lost clusters (R377 to R380),
the conditions of a calibration (R382). -/

namespace Sys2Proof.Machine

/-! Rows and gating (R74, R81 to R86). -/

def State.lost (s : State) (r x : Nat) : Bool := decide ((s.region (regionOf r x)).mode = .dark)

/-- R74, R84: a row is short; for this only lost regions count as dark (R81). -/
def State.isShort (s : State) (r : Nat) : Bool := rowShort (s.activeMask r) (s.lost r)

/-- A partition contains a logical row. -/
def Part.hasRow (p : Part) (r : Nat) : Bool := decide (p.row0 ≤ r) && decide (r ≤ p.row0 + p.nrows)

/-- R86: a row becomes absent: LOADED and PARKED contexts whose partition contains it are aborted with cause 0x0B. -/
def State.rowGone (s : State) (r : Nat) : State :=
  let hit := s.ctxs fun x => (decide (x.state = .loaded) || decide (x.state = .parked) || x.loading) && (s.part x.part.toNat).hasRow r
  hit.foldl (fun a n => (a.abortCtx n 0x0B 0xFF).ctxRecord 0 n 0x0B) s

/-- R83, R94: ROW_PRESENT follows the rows that are short; what R86 says follows for each row newly absent. -/
def State.updateRows (s : State) : State :=
  let now := (List.range 48).foldl (fun (b : BitVec 48) r => if s.isShort r then b else b ||| BitVec.ofNat 48 (2 ^ r)) 0#48
  let gone := (List.range 48).filter fun r => s.rowPresent r && !now.getLsbD r
  gone.foldl State.rowGone { s with grid := { s.grid with present := now } }

/-- The set-point code of a clock (R423): ⌈VF_LO + k × (VF_HI − VF_LO) ÷ 48⌉. -/
def Draw.code (d : Draw) (k : Nat) : Nat := d.vfLo + (k * (d.vfHi - d.vfLo) + 47) / 48

/-- The code a regulator takes for a clock: no output lies above 0.900 V (R360). -/
def Draw.outCode (d : Draw) (k : Nat) : Nat := min 160 (d.code k)

/-- R81, R365: a gated region: no output, bellows discharged, tie open. -/
def Region.gate (x : Region) (retired : Bool) : Region :=
  { x with mode := if retired then .gatedRetired else .gatedSpare, enabled := false, tie := false, cal := false, hold := false,
           bellows := .off, ramping := none, untie := none, raised := 0, stages := false, setpt := 0, ref := 0 }

/-- A region that comes back from gating: powered at the code of its clock; a failed regulator is carried (R376). -/
def Region.ungate (x : Region) (d : Draw) : Region :=
  let k := d.outCode x.clock
  { x with mode := if x.regfail then .carried else .powered, enabled := !x.regfail, tie := x.regfail, setpt := k, target := k,
           ref := k, bellows := .recharging }

/-- R378: a guard ends when no region of its cluster is carried any longer. -/
def State.dropGuards (s : State) : State :=
  (List.range 108).foldl (fun a j =>
    let x := a.cluster j
    if x.guard ∧ ¬ (regionsOfCluster j).any (fun i => decide ((a.region i).mode = .carried)) then
      a.setCluster j { x with guard := false, level := 16 } else a) s

/-- R91: a retirement kept for this power cycle only. -/
def State.cycleRetire (s : State) (r : Nat) (bits : BitVec 36) : State :=
  { s with grid := { s.grid with cycleRetire := Tbl.update 0#36 s.grid.cycleRetire r (· ||| bits) } }

/-- R91: positions retired by the module, one keep write for each row; past the endurance limit the retirement
holds for this power cycle. Each writes the GRID record that R525 lists under R91, whose values are open (log entry 125). -/
def State.retire (s : State) (r : Nat) (bits : BitVec 36) : State :=
  let off := keepRetire r
  let s := if s.keepLimited off then (s.record 0x006 off []).cycleRetire r bits
    else s.keepWrite off (s.keep off ||| bits.zeroExtend 64)
  s.record 0x020 (field r 6 1) []

def State.retireRegion (s : State) (i : Nat) : State :=
  let r := (i / 18) * 2
  let b := BitVec.ofNat 36 (3 * 2 ^ ((i % 18) * 2))
  (s.retire r b).retire (r + 1) b

/-! Guards and failures (R375 to R380). -/

/-- Working regulators of a cluster that are not under calibration (R378). -/
def State.working (s : State) (j : Nat) : List Nat :=
  (regionsOfCluster j).filter fun i =>
    let x := s.region i
    x.mode.railed && x.enabled && !x.regfail && !x.cal && !x.opened

/-- R377: the group's set-point code: the highest set-point in force of the cluster's four regions. -/
def State.groupCode (s : State) (j : Nat) : Nat := (regionsOfCluster j).foldl (fun m i => max m (s.region i).setpt) 0

/-- R362, R377: the reference of a group's regions is the group's set-point; that of any other region with a rail is its own set-point,
but for one under a ramp, which keeps it. -/
def State.groupRefs (s : State) (j : Nat) : State :=
  let k := s.groupCode j
  let shared := (regionsOfCluster j).filter (s.inGroup j)
  let own := (regionsOfCluster j).filter fun i => !s.inGroup j i && (s.region i).mode.railed && (s.region i).ramping.isNone
  (s.modRegions shared fun x => { x with ref := k }).modRegions own fun x => { x with ref := x.setpt }

/-- R81: the regions of a row pair are powered or gated anew. -/
def State.regatePair (s : State) (pair : Nat) : State :=
  let m0 := s.activeMask (2 * pair)
  let m1 := s.activeMask (2 * pair + 1)
  let g := gatedOfPair m0 m1 fun c => decide ((s.region (pair * 18 + c)).mode = .dark)
  let s := (List.range 18).foldl (fun a c =>
    let i := pair * 18 + c
    let x := a.region i
    let retired := m0.getLsbD (2 * c) || m0.getLsbD (2 * c + 1) || m1.getLsbD (2 * c) || m1.getLsbD (2 * c + 1)
    if g.getD c false then a.setRegion i (x.gate retired)
    else match x.mode with
      | .gatedSpare | .gatedRetired => a.setRegion i (x.ungate a.draw)
      | _ => a) s
  ((List.range 9).map fun c => clusterOfRegion (pair * 18 + 2 * c)).foldl State.groupRefs s

/-- R97, R380: a lost cluster: gated first, then dark, its RUNNING contexts aborted, its rows short where R84 makes them so; its cores hold
nothing any more. -/
def State.loseCluster (s : State) (j : Nat) : State :=
  let rs := regionsOfCluster j
  let s := s.modRegions rs fun x => { x.gate false with mode := .dark }
  let s := s.setCluster j { dark := true, guard := false, level := 16 }
  let hit := s.runningSlots.filter fun n => (s.coresOf n).any fun k => decide (clusterOfCore k = j)
  ((hit.foldl (fun a n => a.abortCtx n 0x01 0xFF) s).updateRows).modCores (coresOfCluster j) fun _ => Core.reset

/-! Calibration (R381, R382). -/

/-- R357, R382: the planned current of a cluster over the beats of the next 500 µs LT, at most, in 1/64 A. -/
def State.clusterAhead (s : State) (j : Nat) : Nat :=
  s.runningSlots.foldl (fun a n =>
    let x := s.slot n
    let l := max 1 x.step.beatLen
    let bs := (List.range (500000 / l + 2)).filterMap fun i => planAt x.prog.plan (x.step.beat + i)
    a + (bs.map fun r => s.planned64 n r.cur j).foldl max 0) 0

/-- R371, R382: a pre-bias of the cluster falls within the next 500 µs: a release of a context on it is that near. -/
def State.biasAhead (s : State) (j : Nat) : Bool :=
  s.liveSlots.any fun n =>
    let x := s.slot n
    let rel := x.step.pendingRel.or (x.step.next.map Prod.fst)
    (match rel with
     | some t => decide (t ≤ s.rt.now.toNat + 500000 + 1000)
     | none => false) && (s.coresOf n).any fun k => decide (clusterOfCore k = j)

/-- R382: the first unmet condition in the order of R485, 0 when a calibration can start. -/
def State.calRefusal (s : State) (i : Nat) : Nat :=
  let j := clusterOfRegion i
  if (regionsOfCluster j).any (fun q => decide ((s.region q).mode = .carried) || decide ((s.region q).mode = .dark)) then 1
  else if (s.cluster j).guard then 2
  else if 20 * 64 < s.clusterAhead j then 3
  else if s.biasAhead j then 4
  else if s.reg.calActive then 5
  else 0

end Sys2Proof.Machine
end

