-- ==== Sys2Proof/Machine/ResetOps.lean ====
section
/-! DEFINITION. Debug windows (R549, R550), dumps (R504 to R506), the decision of a reset (R492 to R501) and benching (R518,
R519). -/

namespace Sys2Proof.Machine

/-! Debug windows. -/

/-- A reset under way covers core k (R496). -/
def State.coreInReset (s : State) (k : Nat) : Bool :=
  s.rst.runs.any fun r =>
    decide (3 ≤ r.level) || (decide (r.level = 1) && decide (r.target = k)) ||
    (decide (r.level = 2) && decide (k ∈ s.partCores r.target))

/-- WIN_ID.STATE (R549): 0 SERVING, 1 IDLE, 2 RETIRED, 3 GATED, 4 DARK, 5 RESET. A core for which several hold shows RESET, then
DARK, then RETIRED, then GATED (log entry 138). -/
def State.winState (s : State) (k : Nat) : Nat :=
  let r := k / 36
  let x := k % 36
  if s.coreInReset k then 5
  else match (s.region (regionOfCore k)).mode with
    | .dark => 4
    | .gatedSpare | .gatedRetired => if (s.activeMask r).getLsbD x then 2 else 3
    | _ =>
      if (s.activeMask r).getLsbD x then 2
      else if s.rowPresent r ∧ (logicalCol (s.activeMask r) x).any (· < 32) then 0
      else 1

/-- CORE_FAULT (R136). -/
def Core.faultWord (c : Core) : Nat :=
  match c.fault with
  | none => 0
  | some f => f.code.toNat + field f.slot 2 8 + flag1 f.deferred 10 + 2 ^ 11 + field f.pc.toNat 19 32

/-- UNIT_QUEUE (R171). -/
def Core.unitQueue (c : Core) : Nat :=
  field c.dmas.length 5 0 + ((List.range 8).foldl (fun a q => a + flag1 (decide (Tbl.get 0 c.dmaCnt q ≠ 0)) (8 + q)) 0) +
  field c.m0.length 2 16 + field c.m1.length 2 18 + field c.offloads.length 3 20 + field c.outbound.length 6 24 +
  field (c.recvWait.getD 0) 4 32 + flag1 c.recvWait.isSome 36

/-- MSG_SEND_STATE (R198). -/
def SendWait.word (w : SendWait) : Nat :=
  field w.entry 6 0 + flag1 w.credit 6 + flag1 w.buffer 7 + flag1 w.noGrant 8 + field w.need 13 16 + field w.have_ 13 32

/-- MBOX_STATE of a mailbox (R198). -/
def Core.mboxWord (c : Core) (m : Nat) : Nat :=
  let b := Tbl.get Mbox.reset c.mbox m
  match Tbl.get none c.desc m with
  | some d => 1 + flag1 d.rota 1 + field b.cursor 6 8 + field b.held.length 16 16 + field b.opened.length 16 32
  | none => field b.held.length 16 16 + field b.opened.length 16 32

/-- The word at an offset of core k's debug window as the physical function reads it (R549, R550). -/
def State.winWord (s : State) (k off : Nat) : Nat :=
  let c := s.core k
  let st := s.winState k
  if off = 0x100 then
    let lc := (logicalCol (s.activeMask (k / 36)) (k % 36)).getD 0
    field (k / 36) 6 0 + field (k % 36) 6 6 + field st 3 12 + (if st = 0 then field (k / 36) 6 15 + field lc 5 21 else 0) +
    (match c.res with
     | some r => if st = 0 then field r.slot 10 26 + 2 ^ 36 else 0
     | none => 0)
  else if st ≠ 0 then 0
  else if off = 0 then c.faultWord
  else if off = 8 then match c.fault with
    | some f => f.addr.toNat
    | none => 0
  else if off = 0x10 then
    field c.pc.toNat 19 0 + flag1 c.waiting 19 + flag1 c.armed 20 + flag1 c.ended 21 + field (s.level (regionOfCore k) - 1) 4 22 +
    field c.late.toNat 32 32
  else if off = 0x18 then c.asw.toNat
  else if 0x20 ≤ off ∧ off < 0x48 then (Tbl.get 0#64 c.stall ((off - 0x20) / 8)).toNat
  else if off = 0x48 then c.unitQueue
  else if off = 0x50 then c.issued.toNat + field (min 0xFFFF c.idleUs) 16 48
  else if off = 0x58 then c.sendWait.word
  else if off = 0x60 then c.creditStall.toNat
  else if off = 0x68 then c.sent.toNat + field c.returned.toNat 32 32
  else if off = 0x70 then
    field c.drop.gen 16 0 + field c.drop.dup 16 16 + field c.drop.reject 16 32 + field c.drop.grant 16 48
  else if 0x80 ≤ off ∧ off < 0x100 then c.mboxWord ((off - 0x80) / 8)
  else 0

/-! Dumps. -/

/-- R505: the record of a core, captured as it stands. -/
def State.captureCore (s : State) (full : Bool) (k : Nat) : DumpRec :=
  { core := k, full, regs := s.core k,
    win := ((List.range 33).map fun i => (8 * i, BitVec.ofNat 64 (s.winWord k (8 * i)))).filter fun e => e.2 ≠ 0#64 }

/-- The size of a dump in bytes (R505). -/
def Dump.size (d : Dump) : Nat := 4096 + d.recs.foldl (fun n r => n + (if r.full then 819200 else 16384)) 0

/-- The lowest SEQ held, and its entry. -/
def Rst.oldestDump (r : Rst) : Nat :=
  let ds := (List.range 64).filterMap fun i => (Tbl.get none r.dumps i).map fun d => (d.seq, i)
  (ds.foldl (fun m d => if d.1 < m.1 then d else m) (ds.headD (0, 0))).2

/-- R506: a new dump takes the lowest free entry, or replaces the one with the lowest SEQ and writes a record. -/
def State.addDump (s : State) (d : Dump) : State :=
  let free := (List.range 64).find? fun i => (Tbl.get none s.rst.dumps i).isNone
  let i := free.getD s.rst.oldestDump
  let s := { s with rst := { s.rst with dumps := Tbl.set none s.rst.dumps i (some { d with seq := s.rst.dumpSeq }),
                                        dumpSeq := (s.rst.dumpSeq + 1) % 2 ^ 24 } }
  if free.isSome then s else s.record 0x0A0 (1 + field d.level 3 2 + field d.cause 8 5) []

/-- A dump of some cores: `full` says which records are FULL (R504, R505). -/
def State.dump (s : State) (level cause slot : Nat) (cores : List Nat) (full : Nat → Bool) : State :=
  let fs := cores.map full
  let kind := if fs.all id then 2 else if fs.any id then 3 else 1
  s.addDump { level, cause, kind, chip := s.fab.chipId.toNat, opsec := s.recorder.opMs / 1000, rt := s.rt.now, slot,
              recs := cores.map fun k => s.captureCore (full k) k, seq := 0 }

/-- R504: the dump of a reset, under RST_CFG.DUMP. -/
def State.resetDump (s : State) (level cause : Nat) (cores : List Nat) : State :=
  let held := cores.filter fun k => (s.core k).res.isSome
  if s.rst.cfgDump = 0 ∨ held.isEmpty then s
  else s.dump level cause 0xFFFF held fun _ => decide (s.rst.cfgDump = 2) && decide (level ≠ 4)

/-! What a reset clears (R494). -/

/-- L1 and above: everything of the core, its residence apart. -/
def Core.resetAll (c : Core) : Core :=
  { Core.reset with res := c.res, entry := c.entry, stopped := c.res.isSome }

/-- L0: registers and queues; scratchpad, tiles and the debug window's counters are kept. -/
def Core.resetL0 (c : Core) : Core :=
  { Core.reset with res := c.res, entry := c.entry, stopped := true, sp := c.sp, spBad := c.spBad, tiles := c.tiles,
                    fault := c.fault, late := c.late, stall := c.stall, creditStall := c.creditStall, sent := c.sent,
                    returned := c.returned, drop := c.drop, issued := c.issued, idleUs := c.idleUs }

/-! Benching (R518, R519). -/

def keepBenchLog (i : Nat) : Nat := 0xC0C08 + 8 * i
def State.benchLimit (s : State) : Nat := bits (s.keep keepBench).toNat 3 0
def State.benchWindow (s : State) : Nat := bits (s.keep keepBench).toNat 15 8

/-- The log entry i as it stands: one that holds for this power cycle only counts too (R518). -/
def State.benchEntry (s : State) (i : Nat) : BitVec 64 :=
  let x := Tbl.get 0#64 s.rst.benchCycle i
  if x = 0#64 then s.keep (keepBenchLog i) else x

/-- R518: VALID entries stamped within the last WINDOW_H hours. -/
def State.benchCount (s : State) : Nat :=
  (List.range 8).countP fun i =>
    let e := (s.benchEntry i).toNat
    bit e 43 && decide (s.recorder.opMs / 1000 - bits e 39 0 ≤ s.benchWindow * 3600)

/-- A port that is held down: nothing trained, nothing queued (R519, R563). -/
def Port.quiet (p : Port) (st : PortState) : Port :=
  { p with state := st, lanes := 0#4, nextLseq := 0#12, expLseq := 0#12, replay := [], credits := Vc3.zero,
           queue := [], stale := 0, initGot := false, rcvdGot := false, rcvdSent := false, aligned := false, discard := false, retrain := false, late := [] }

def State.quietPorts (s : State) (st : PortState) : State :=
  (List.range 18).foldl (fun a k => a.modPort k fun p => p.quiet (if p.disable then .disabled else st)) s

/-- R519: what lies behind the rails of BENCHED is unpowered: the grid, the tiers, the ports. -/
def Power.benched (p : Power) : Power :=
  { p with rails := (List.range 9).foldl (fun t i => Tbl.update Rail.reset t (i + 2) fun x => { x with state := 0 }) p.rails }

/-- R519: the module enters BENCHED: dies in reset, regions gated, memories unpowered, ports held down. -/
def State.enterBenched (s : State) : State :=
  let s := (s.ctxs fun x => decide (1 < x.members.length)).foldl (fun a n => a.abortCtx n 0x0A 0xFF) s
  let s := s.keepWrite keepBench (s.keep keepBench ||| 0x10000#64)
  let s := s.quietPorts .down
  let s := s.modRegions (List.range 432) fun x => x.gate false
  let s := { s with rst := { s.rst with lastBenched := true, runs := [], drain := none }, cores := [], mesh := [], pwr := s.pwr.benched,
                    mem := { s.mem with bytes := [], undef := [], poison := [], err1 := [], err2 := [], t1Filled := false,
                                        t2Filled := false, waiting := [], rotation := none, repair := none } }
  s.setService .benched s.degradeNow

/-- R518, R519: a counted reset writes the log in turn; at the limit the module is benched. -/
def State.countBench (s : State) (level : Nat) : State :=
  let i := s.rst.benchNext
  let e := BitVec.ofNat 64 (field (s.recorder.opMs / 1000) 40 0 + field level 3 40 + 2 ^ 43)
  let lim := s.keepLimited (keepBenchLog i)
  let s := s.keepWrite (keepBenchLog i) e
  let s := { s with rst := { s.rst with benchNext := (i + 1) % 8,
                                        benchCycle := Tbl.set 0#64 s.rst.benchCycle i (if lim then e else 0#64) } }
  if s.benchLimit ≤ s.benchCount then s.enterBenched else s

/-! The decision of a reset. -/

/-- Contexts resident on some cores. -/
def State.residents (s : State) (cores : List Nat) : List Nat :=
  (cores.filterMap fun k => (s.core k).res.map (·.slot)).eraseDups

/-- R495, R500: a context under a reset: LOADED, RUNNING or PARKED are aborted with cause 0x08 and the level; SUSPECT ends. -/
def State.resetCtx (s : State) (level n : Nat) : State :=
  match (s.slot n).state with
  | .suspect => s.endCtx n .aborted 0x08 false
  | _ => s.abortCtx n 0x08 level

/-- The cores a reset covers. -/
def State.resetCores (s : State) (level target : Nat) : List Nat :=
  if level = 0 then s.coresOf target else if level = 1 then [target] else if level = 2 then s.partCores target
  else (List.range 1728)

/-- RST_COUNT and RST_LAST at a decision (R521). -/
def State.noteReset (s : State) (level target cause : Nat) (esc : Bool) : State :=
  { s with rst := { s.rst with lastLevel := level, lastEsc := esc, lastBenched := false, lastCause := cause,
                               lastTarget := target, drained := 0, lastMs := 0,
                               count := if level ≤ 3 then Tbl.update 0 s.rst.count level fun n => satAdd 0xFFFF n 1
                                        else s.rst.count } }

/-- R499: whether the scope of one reset contains another's. -/
def State.covers (s : State) (level target : Nat) (r : ResetRun) : Bool :=
  decide (3 ≤ level) && decide (r.level ≤ level) ||
  (decide (level = 2) && decide (r.level = 1) && decide (r.target ∈ s.partCores target)) ||
  (decide (level = r.level) && decide (target = r.target))

/-- R495, R500: what becomes of the contexts at an L3 decision. -/
def State.l3Ctx (s : State) (n : Nat) : State :=
  let x := s.slot n
  let t1 := x.extents.any fun e => decide (e.kind ≤ 1)
  match x.state with
  | .loaded | .running =>
    if t1 ∨ 1 < x.members.length then s.abortCtx n 0x08 3 else s.modCores (s.coresOf n) Core.stop
  | .parked => if t1 ∨ x.busy.isSome then s.abortCtx n 0x08 3 else s
  | _ => s.abortCtx n 0x08 3

/-- R492 to R501: a reset is decided. -/
def State.startReset (s : State) (level target cause : Nat) (cmd esc : Bool) (replay : Option Nat) : State :=
  let s := s.noteReset level target cause esc
  let s := if cause = 1 ∨ cause = 2 then s else s.record 0x0A0 (field level 3 2 + field cause 8 5 + field target 11 13) []
  let cores := s.resetCores level target
  let run : ResetRun := { level, target, cause, at_ := s.lt, cmd, replay }
  let s := { s with rst := { s.rst with runs := run :: s.rst.runs.filter fun r => !s.covers level target r } }
  if level = 0 then
    (s.resetCtx 0 target).modCores cores Core.resetL0
  else if level ≤ 2 then
    let s := (s.residents cores).foldl (fun a n => if replay = some n then a else a.resetCtx level n) s
    let s := (s.modCores cores Core.stop).resetDump level cause cores
    let s := s.modCores cores Core.resetAll
    if level = 1 then { s with rst := { s.rst with l1 := Tbl.update [] s.rst.l1 target (s.lt :: ·) } } else s
  else if level = 3 then
    let s := s.liveSlots.foldl State.l3Ctx s
    ({ (s.modCores (s.cores.map Prod.fst) Core.stop) with rst := { s.rst with drain := some 3, drainAt := s.lt } }.countBench 3).settle
  else
    let s := s.liveSlots.foldl (fun a n => a.abortCtx n 0x08 4) s
    let s := (s.modCores (s.cores.map Prod.fst) Core.stop)
    let s : State := if cause = 1 ∨ cause = 2 then s else s.resetDump 4 cause (s.cores.map Prod.fst)
    let up := decide (s.svc ≠ .init) && decide (s.svc ≠ .benched)
    { s with rst := { s.rst with drain := if up then some 4 else none, drainAt := s.lt } }

/-- A record that a rule orders and that the TYPE table of R525 does not list: its TYPE and KEY are open (log entry 19). -/
def State.recordOpen (s : State) (vals : List Nat) : State :=
  let a := s.draw1
  let b := a.2.draw1
  b.2.record (a.1 % 1024) b.1 vals

/-- A power cycle the module decides: an L4 (R563). -/
def State.powerCycle (s : State) (cause : Nat) : State :=
  match s.svc with
  | .off | .saving | .benched => s
  | _ => if s.rst.runs.any fun r => decide (r.level = 4) then s else s.startReset 4 0 cause false false none

/-- An L4 of the module's own whose cause code no rule gives (log entry 22): neither 0x01 nor 0x02, which name the host and the rack. -/
def State.powerCycleOpen (s : State) : State :=
  let c := s.draw1
  c.2.powerCycle (3 + c.1 % 253)

/-- R492: the causes of the detectors. -/
def isDetector (cause : Nat) : Bool := decide (3 ≤ cause) && decide (cause ≤ 0x0B)

/-- R24, R498, R499: a reset the module decides is not performed in OFF, SAVING or BENCHED; a detector of R492 that fires in INIT is
a failure of power-on (R579: a record, then the power cycle; log entry 137), and one that fires during an L3 recovery makes it an L4;
any other reset contained in one that runs adds nothing. -/
def State.ownReset (s : State) (level target cause : Nat) : State :=
  match s.svc with
  | .off | .saving | .benched => s
  | .init => if isDetector cause then (s.recordOpen []).powerCycleOpen else s
  | _ =>
    if s.rst.runs.any fun r => decide (4 ≤ r.level) then s
    else if s.rst.runs.any fun r => decide (r.level = 3) then
      if isDetector cause then s.startReset 4 0 0x0C false true none else s
    else s.startReset level target cause false false none

end Sys2Proof.Machine
end

