-- ==== Sys2Proof/Machine/MsgOps.lean ====
section
/-! DEFINITION. What a core receives (R178 to R189): generation checks, deposits, grants, acknowledgements and credit-returns, and
what leaves a core after a command. -/

namespace Sys2Proof.Machine

def State.modFab (s : State) (f : Fabric → Fabric) : State := { s with fab := f s.fab }

/-- R186, R338, R500: the contexts that expect frames. -/
def CtxState.expects : CtxState → Bool
  | .loaded | .running => true
  | _ => false

/-- R186: a frame's generation against slot n. -/
def State.genMatches (s : State) (n : Nat) (chip gen : BitVec 8) : Bool :=
  let x := s.slot n
  x.state.expects &&
  (if chip = s.fab.chipId then decide (gen = x.gen)
   else match x.member chip.toNat with
     | some e => decide (e.gen = gen.toNat)
     | none => false)

/-- A frame that fails its generation check at a core (R187, R188). -/
def Core.dropGen (c : Core) : Core := { c with drop := { c.drop with gen := satAdd 0xFFFF c.drop.gen 1 } }

/-- KEY of a MESSAGE record (R525). -/
def msgKey (event k : Nat) (m : Msg) : Nat :=
  event + field k 11 2 + field m.mbox.toNat 4 13 + field (m.srcChip.toNat + field m.srcRow.toNat 6 8 + field m.srcCol.toNat 5 14) 19 17

/-- R182, R187, R199: a message failure: counted, recorded, and the context ends with cause 0x03. -/
def State.reject (s : State) (k n event : Nat) (m : Msg) (vals : List Nat) : State :=
  ((s.modCore k fun c => { c with drop := { c.drop with reject := satAdd 0xFFFF c.drop.reject 1 } }).record 0x030 (msgKey event k m)
    vals).abortCtx n 0x03 0xFF

/-! Deposits (R187). -/

/-- The units a message occupies and skips in a sub-ring of S units, as ranges. -/
def msgUnits (S offset U charge : Nat) : List (Nat × Nat) :=
  (offset, U) :: (if U < charge then [(S - (charge - U), charge - U)] else [])

/-- R187 check 4: the placement is legal and its units are free. -/
def placeOk (b : Mbox) (src S : Nat) (m : Msg) : Bool :=
  let U := m.len6.toNat + 1
  let mine := msgUnits S m.offset.toNat U m.units.toNat
  decide (m.offset.toNat + U ≤ S) && decide (m.units.toNat ≤ S) &&
  ((b.held ++ b.opened).filter fun h => h.src = src).all fun h =>
    (msgUnits S h.offset (h.len6 + 1) h.charge).all fun r => mine.all fun q => !overlaps r.1 r.2 q.1 q.2

/-- The source of a message in a mailbox (R187 check 2). -/
def Core.sourceOf (c : Core) (d : MboxDesc) (m : Msg) : Option Nat :=
  (List.range (d.nsrc + 1)).find? fun k =>
    let e := c.source d k
    decide (e.chip = m.srcChip) && decide (e.row = m.srcRow) && decide (e.col = m.srcCol)

/-- R187: the message is deposited and held. -/
def Core.deposit (c : Core) (d : MboxDesc) (src : Nat) (m : Msg) : Core :=
  let b := m.mbox.toNat
  let x := Tbl.get Mbox.reset c.mbox b
  let h : HeldMsg := { src, chip := m.srcChip, seq := m.seq, offset := m.offset.toNat, len6 := m.len6.toNat, charge := m.units.toNat }
  { c.spWrite (d.base + subRing c d src + 64 * m.offset.toNat) m.payload with
    mbox := Tbl.set Mbox.reset c.mbox b { x with held := x.held ++ [h] },
    expSeq := Tbl.set 0#16 c.expSeq (64 * b + src) (m.seq + 1#16) }

/-- R187 at core k of context n, once its generation matches. -/
def State.depositAt (s : State) (k n : Nat) (m : Msg) : State :=
  let c := s.core k
  match Tbl.get none c.desc m.mbox.toNat with
  | none => s.reject k n 2 m []
  | some d =>
    match c.sourceOf d m with
    | none => s.reject k n 2 m []
    | some src =>
      let want := Tbl.get 0#16 c.expSeq (64 * m.mbox.toNat + src)
      let ahead := (m.seq - want).toNat
      if 32768 ≤ ahead then s.modCore k fun c => { c with drop := { c.drop with dup := satAdd 0xFFFF c.drop.dup 1 } }
      else if ahead ≠ 0 then s.reject k n 2 m [want.toNat, m.seq.toNat]
      else if !placeOk (Tbl.get Mbox.reset c.mbox m.mbox.toNat) src ((c.source d src).share + 1) m then s.reject k n 2 m []
      else (s.setCore k (c.deposit d src m)).progress n

/-! Credits (R178 to R182). -/

def CreditEntry.fresh (m : Msg) : CreditEntry :=
  { chip := m.srcChip, row := m.srcRow, col := m.srcCol, mbox := m.mbox, size := m.units.toNat, credits := m.units.toNat, wptr := 0, seq := 0#16 }

/-- The endpoint a grant or credit-return comes from. -/
def senderOf (m : Msg) : Endpoint := { chip := m.srcChip, row := m.srcRow, col := m.srcCol, mbox := m.mbox }

/-- The acknowledgement of a grant (R178). -/
def grantAckOf (m : Msg) (gen : BitVec 8) : Msg :=
  { m with kind := .grantAck, srcChip := m.dstChip, srcRow := m.dstRow, srcCol := m.dstCol, dstChip := m.srcChip, dstRow := m.srcRow,
           dstCol := m.srcCol, gen, units := 0#13 }

/-- R198: MSG_SEND_STATE of a waiting SEND follows what it waits for. -/
def Core.renote (c : Core) : Core :=
  let waits := c.bundle.findSome? fun i => match i with
    | .send iss o => if (sylSend iss o).active c then some o else none
    | _ => none
  if c.sendWait = SendWait.none then c
  else match waits with
    | some o => { c with sendWait := (sendState c o).getD SendWait.none }
    | none => c

/-- R178, R179: a grant at core k of context n. -/
def State.grantAt (s : State) (k n : Nat) (m : Msg) : State :=
  let c := s.core k
  let ack := grantAckOf m (s.slot n).gen
  if c.credits.any fun e => e.isFor (senderOf m) then s.post n ack
  else if 64 ≤ c.credits.length then
    (s.modCore k fun c => { c with drop := { c.drop with grant := satAdd 0xFFFF c.drop.grant 1 } }).record 0x030 (msgKey 0 k m) []
  else (s.setCore k ({ c with credits := c.credits ++ [CreditEntry.fresh m] } : Core).renote).post n ack

/-- R178: an acknowledged grant is not sent again. -/
def Core.grantAcked (c : Core) (m : Msg) : Core :=
  { c with grants := c.grants.filter fun g =>
      !(decide (g.dstChip = m.srcChip) && decide (g.dstRow = m.srcRow) && decide (g.dstCol = m.srcCol) && decide (g.mbox = m.mbox)) }

/-- R182: the units of a credit-return, or none where it would raise C above S or no entry exists. -/
def giveCredit (es : List CreditEntry) (m : Msg) : Option (List CreditEntry) :=
  match es.find? fun e => e.isFor (senderOf m) with
  | none => none
  | some e => if e.size < e.credits + m.units.toNat then none
    else some (es.map fun f => if f.isFor (senderOf m) then { f with credits := f.credits + m.units.toNat } else f)

def State.creditAt (s : State) (k n : Nat) (m : Msg) : State :=
  match giveCredit (s.core k).credits m with
  | some es => s.modCore k fun c => ({ c with credits := es } : Core).renote
  | none => s.reject k n 1 m []

/-! The reduction units as a source (R179, R182, R263). -/

/-- The context whose reduction traffic a frame belongs to: of this module's own core for traffic on the chip, else one that lists
the sending chip with the frame's generation (log entry 23). -/
def State.redCtx (s : State) (m : Msg) : Option Nat :=
  if m.srcChip = s.fab.chipId then
    (s.phys m.srcRow.toNat m.srcCol.toNat).bind fun k => ((s.core k).res.map (·.slot)).filter fun n => s.genMatches n m.srcChip m.gen
  else s.liveSlots.find? fun n => s.genMatches n m.srcChip m.gen

def State.redStale (s : State) : State := s.modFab fun f => { f with redStale := satAdd 0xFFFF f.redStale 1 }

/-- R179, R182, R186: a message for the reduction units as one source. The MESSAGE record of a discarded credit-return names physical core
0: a reduction unit has no core number (log entry 140). -/
def State.redMsg (s : State) (m : Msg) : State :=
  match s.redCtx m with
  | none => s.redStale
  | some n =>
    match m.kind with
    | .grant =>
      let s := if s.fab.redCredits.any fun e => e.isFor (senderOf m) then s
        else s.modFab fun f => { f with redCredits := f.redCredits ++ [CreditEntry.fresh m] }
      s.post n (grantAckOf m (s.slot n).gen)
    | .creditReturn =>
      match giveCredit s.fab.redCredits m with
      | some es => s.modFab fun f => { f with redCredits := es }
      | none => ((s.modFab fun f => { f with redCredit := satAdd 0xFFFF f.redCredit 1 }).record 0x030 (msgKey 1 0 m) []).abortCtx n 0x03 0xFF
    | _ => s

/-! Arrival. -/

/-- A message under way leaves the mesh, or the outbound buffer of its source core, which then holds less (R154, R185, R198). -/
def State.landed (s : State) (m : Msg) : State :=
  if m.srcChip ≠ s.fab.chipId then s
  else
    let s := { s with mesh := s.mesh.erase m }
    match s.phys m.srcRow.toNat m.srcCol.toNat with
    | some k => if m ∈ (s.core k).outbound then s.modCore k fun c => ({ c with outbound := c.outbound.erase m } : Core).renote else s
    | none => s

/-- R186 to R188: a message arrives at the core or reduction unit it names. -/
def State.arrive (s : State) (m : Msg) : State :=
  if m.dstChip ≠ s.fab.chipId then s
  else
    let s := s.landed m
    if m.dstRow = 63#6 then s.redMsg m
    else match s.phys m.dstRow.toNat m.dstCol.toNat with
      | none => s
      | some k =>
        match ((s.core k).res.map (·.slot)).filter fun n => s.genMatches n m.srcChip m.gen with
        | none => s.modCore k Core.dropGen
        | some n =>
          match m.kind with
          | .data | .completion => s.depositAt k n m
          | .grant => s.grantAt k n m
          | .grantAck => s.modCore k fun c => c.grantAcked m
          | .creditReturn => s.creditAt k n m

/-! Grants (R178). -/

/-- The grants a core owes to every source of every enabled mailbox. -/
def Core.grantsOwed (c : Core) (chip gen : BitVec 8) : List Msg :=
  let me := c.res.getD { slot := 0, lrow := 0, lcol := 0 }
  (List.range 16).flatMap fun b =>
    match Tbl.get none c.desc b with
    | none => []
    | some d => (List.range (d.nsrc + 1)).map fun k =>
      let e := c.source d k
      { kind := .grant, srcChip := chip, srcRow := BitVec.ofNat 6 me.lrow, srcCol := BitVec.ofNat 5 me.lcol, dstChip := e.chip, dstRow := e.row,
        dstCol := e.col, mbox := BitVec.ofNat 4 b, gen, seq := 0#16, offset := 0#12, units := BitVec.ofNat 13 (e.share + 1), len6 := 0#6, payload := [] }

def State.postAll (s : State) (n : Nat) (ms : List Msg) : State := ms.foldl (fun a m => a.post n m) s

/-- R178: every core of a context sends its grants. -/
def State.sendGrants (s : State) (n : Nat) : State :=
  (s.coresOf n).foldl (fun a k =>
    let gs := (a.core k).grantsOwed a.fab.chipId (a.slot n).gen
    (a.modCore k fun c => { c with grants := gs }).postAll n gs) s

/-- R178: the grants a core still waits to see acknowledged go again while the context is RUNNING. -/
def State.repeatGrants (s : State) (k : Nat) : State :=
  match (s.core k).res with
  | some r => if (s.slot r.slot).state = .running then s.postAll r.slot (s.core k).grants else s
  | none => s

end Sys2Proof.Machine
end

