-- ==== Sys2Proof/Machine/RedOps.lean ====
section
/-! DEFINITION. The reduction units (R263 to R270): chunk instances, partials, results, completions, and the frames between owners
and members. -/

namespace Sys2Proof.Machine

/-- A chunk instance of a context: slot, descriptor, chunk. -/
structure InstKey where
  slot : Nat
  desc : Nat
  chunk : Nat
deriving DecidableEq, Repr

def RedInst.is (x : RedInst) (k : InstKey) : Bool := decide (x.slot = k.slot) && decide (x.desc = k.desc) && decide (x.chunk = k.chunk)

def RedInst.new (k : InstKey) : RedInst :=
  { slot := k.slot, desc := k.desc, chunk := k.chunk, count := 0, acc := [], sum := [], flag := 0#8, sent := false, parts := [], results := [], written := none }

/-- R270: the depth of the instance table. -/
def maxInsts : Nat := 4096

def State.redDesc (s : State) (n i : Nat) : Option RedDesc := (s.slot n).prog.descs[i]?

/-- The module's own member index in a context's job. -/
def State.meIdx (s : State) (n : Nat) : Nat := ((s.slot n).memberIdx s.fab.chipId.toNat).getD 0
def State.members (s : State) (n : Nat) : Nat := (s.slot n).members.length
/-- R266: the owner of a chunk. -/
def State.redOwner (s : State) (n chunk : Nat) : Nat := chunk % max 1 (s.members n)

/-! Local contributions (R266, R267). -/

/-- What the elements of an instance have accumulated after one more contribution, on the descriptor's window (R52, R58, R59). -/
def accumulate (d : RedDesc) (acc : List KafAcc) (es : List KafBits) : List KafAcc :=
  (List.range d.count).map fun j =>
    let a := acc.getD j {}
    match es[j]? with
    | some e => a.kaf d.window e
    | none => a

/-- An element of a contribution that is a finite KAF on another window (R58). -/
def mismatched (d : RedDesc) (e : KafBits) : Bool := decide ((KafAcc.kaf {} d.window e).mismatches ≠ 0)

/-- One contribution joins an instance; the second part says that it holds a window mismatch (R269). R52 decides each element over
all contributions. -/
def RedInst.add (x : RedInst) (d : RedDesc) (c : Contribution) : RedInst × Bool :=
  let es := c.elems.take d.count
  if d.form = 2 then ({ x with count := x.count + 1, sum := es, flag := x.flag ||| c.flag }, false)
  else
    let acc := accumulate d x.acc es
    let rs := acc.map fun a => a.result d.window
    ({ x with count := x.count + 1, acc, sum := rs.map fun r => r.1, flag := rs.foldl (fun f r => f ||| r.2) (x.flag ||| c.flag) },
     es.any (mismatched d))

/-- The list with its first element that `p` picks replaced. -/
def replaceFirst {α : Type} (p : α → Bool) (y : α) : List α → List α
  | [] => []
  | x :: t => if p x then y :: t else x :: replaceFirst p y t

/-- R266, R270: a contribution enters its instance; none where all instances are open. -/
def State.takeContribution (s : State) (n : Nat) (c : Contribution) : Option State :=
  match s.redDesc n c.desc with
  | none => some s
  | some d =>
    let k : InstKey := { slot := n, desc := c.desc, chunk := c.chunk }
    let open_ := fun x : RedInst => x.is k && decide (x.count < d.localN)
    match s.fab.insts.find? open_ with
    | some x =>
      let r := x.add d c
      some (s.modFab fun f => { f with insts := replaceFirst open_ r.1 f.insts, winmis := if r.2 then satAdd 0xFFFF f.winmis 1 else f.winmis })
    | none =>
      if maxInsts ≤ s.fab.insts.length then none
      else
        let r := (RedInst.new k).add d c
        some (s.modFab fun f => { f with insts := f.insts ++ [r.1], winmis := if r.2 then satAdd 0xFFFF f.winmis 1 else f.winmis })

/-- A core's contributions enter the unit in order, as far as instances allow; each ends its offload (R170). -/
def State.contribute (s : State) (k n : Nat) : List Contribution → State
  | [] => s.modCore k fun c => { c with contribs := [] }
  | x :: t =>
    match s.takeContribution n x with
    | none => s.modCore k fun c => { c with contribs := x :: t }
    | some a => (a.modCore k fun c => { c with offloads := c.offloads.erase (x.desc, x.chunk) }).contribute k n t

/-! Frames (R246, R257, R267, R268). -/

/-- The bytes of elements, padded to whole 64-byte units. -/
def elemBytes (es : List KafBits) : List Byte :=
  let bs := es.flatMap fun e => toLE 16 e.toNat
  bs ++ List.replicate ((64 - bs.length % 64) % 64) 0#8

/-- The elements of part p. -/
def partOfElems (es : List KafBits) (p : Nat) : List KafBits := (es.drop (256 * p)).take 256

/-- How many parts COUNT elements make. -/
def redParts (d : RedDesc) : Nat := (d.count + 255) / 256

/-- R246: a reduction frame. -/
def State.redFrame (s : State) (type : BitVec 8) (k : InstKey) (chip part : Nat) (flag : FlagByte) (es : List KafBits) : Frame :=
  let x := s.slot k.slot
  { type, vc := 2#2, dchip := BitVec.ofNat 8 chip, schip := s.fab.chipId,
    w1 := BitVec.ofNat 64 (field k.desc 8 0 + field k.chunk 16 8 + field part 2 24 + field flag.toNat 8 26 + field x.gen.toNat 8 34 +
      field x.job.toNat 16 42),
    w2 := BitVec.ofNat 64 (field (s.meIdx k.slot) 8 0), w3 := 0#64, payload := elemBytes es }

/-- All parts to one member, by the port of R257. -/
def State.sendElems (s : State) (type : BitVec 8) (k : InstKey) (d : RedDesc) (flag : FlagByte) (es : List KafBits) (chip : Nat) : State :=
  (List.range (redParts d)).foldl (fun a p =>
    a.route k.slot ((k.desc + k.chunk + chip) % 18) (a.redFrame type k chip p flag (partOfElems es p))) s

/-- The chips of the other members. -/
def State.otherChips (s : State) (n : Nat) : List Nat :=
  ((s.slot n).members.map (·.chip)).filter fun c => c ≠ s.fab.chipId.toNat

/-! Results (R267 to R269). -/

/-- The receiver's core. -/
def State.redReceiver (s : State) (n : Nat) (d : RedDesc) : Option Nat :=
  let p := s.part (s.partOf n)
  s.phys (p.row0 + d.rrow) (p.col0 + d.rcol)

/-- R267, R268: where a result, or the contribution of member m, lies in the receiver's scratchpad. -/
def State.redDest (s : State) (n chunk : Nat) (d : RedDesc) (m : Nat) : Nat :=
  if d.form = 2 then d.dest + 16 * d.count * (s.members n * (chunk % d.nbuf) + m) else d.dest + 16 * d.count * (chunk % d.nbuf)

/-- Elements are written into the receiver's scratchpad from element `at_`. -/
def State.redWrite (s : State) (k : InstKey) (d : RedDesc) (m at_ : Nat) (es : List KafBits) : State :=
  match s.redReceiver k.slot d with
  | none => s
  | some r => s.modCore r fun c => c.spWrite (s.redDest k.slot k.chunk d m + 16 * at_) (es.flatMap fun e => toLE 16 e.toNat)

/-- R267 step 1: the partial of an instance whose local contributions are all in. -/
def State.partialDone (s : State) (k : InstKey) : State :=
  match s.redDesc k.slot k.desc with
  | none => s
  | some d =>
    let ready := fun x : RedInst => x.is k && !x.sent && decide (x.count = d.localN)
    match s.fab.insts.find? ready with
    | none => s
    | some x =>
      let y := { x with sent := true }
      let own := decide (s.redOwner k.slot k.chunk = s.meIdx k.slot)
      let chip := (((s.slot k.slot).members[s.redOwner k.slot k.chunk]?).map (·.chip)).getD 0
      if d.form = 2 then
        let s := (s.modFab fun f => { f with insts := replaceFirst ready y f.insts }).redWrite k d (s.meIdx k.slot) 0 x.sum
        (s.otherChips k.slot).foldl (fun a c => a.sendElems 0x02#8 k d x.flag x.sum c) s
      else if own then s.modFab fun f => { f with insts := replaceFirst ready y f.insts }
      else if d.form = 1 then (s.modFab fun f => { f with insts := f.insts.eraseP ready }).sendElems 0x02#8 k d x.flag x.sum chip
      else (s.modFab fun f => { f with insts := replaceFirst ready y f.insts }).sendElems 0x02#8 k d x.flag x.sum chip

/-- Every part of a member is held. -/
def hasParts (ps : List Partial) (m n : Nat) : Bool := (List.range n).all fun p => ps.any fun x => decide (x.member = m) && decide (x.part = p)

/-- The elements held of a member, part by part. -/
def partialElems (ps : List Partial) (m n : Nat) : List KafBits :=
  (List.range n).flatMap fun p => ((ps.find? fun x => decide (x.member = m) && decide (x.part = p)).map (·.elems)).getD []

/-- R267 to R269: the instance is final on this module. -/
def State.isFinal (s : State) (d : RedDesc) (x : RedInst) : Bool :=
  let me := s.meIdx x.slot
  let own := decide (s.redOwner x.slot x.chunk = me)
  x.sent &&
  (if d.form = 2 ∨ own = true then (List.range (s.members x.slot)).all fun m => decide (m = me) || hasParts x.parts m (redParts d)
   else hasParts x.results (s.redOwner x.slot x.chunk) (redParts d))

/-- R59, R66, R69, R269: the owner's result: the sums over its own accumulation and the other members' partials, the combined flags with HEADROOM of the final sums, the contributions with a mismatch. -/
def State.redResult (s : State) (d : RedDesc) (x : RedInst) : List KafBits × FlagByte × Nat :=
  let n := s.members x.slot
  let me := s.meIdx x.slot
  let cols := (List.range n).map fun m => if m = me then x.sum else partialElems x.parts m (redParts d)
  let others := ((List.range n).filter fun m => m ≠ me).map fun m => partialElems x.parts m (redParts d)
  let rs := (List.range d.count).map fun j => kafSumOn (x.acc.getD j {}) d.window (others.filterMap fun c => getElem? c j)
  let hs := rs.foldl (fun f r => f ||| r.2.1 ||| (match kafRead r.1 with
    | .fin _ S => headroom S
    | _ => 0#8)) 0#8
  let bad := cols.countP fun c => c.any (mismatched d)
  (rs.map fun r => r.1, x.parts.foldl (fun f p => f ||| p.flag) (x.flag ||| hs), bad)

/-- The completion of R166, charged against the reduction units' credits (R179). -/
def completionMsg (s : State) (n : Nat) (d : RedDesc) (chunk : Nat) (flag : FlagByte) (e : CreditEntry) : Msg :=
  let r := place 1 e.size e.credits e.wptr
  { kind := .completion, srcChip := s.fab.chipId, srcRow := 63#6, srcCol := 0#5, dstChip := s.fab.chipId, dstRow := e.row, dstCol := e.col,
    mbox := BitVec.ofNat 4 d.mbox, gen := (s.slot n).gen, seq := e.seq, offset := BitVec.ofNat 12 r.1, units := BitVec.ofNat 13 r.2.1, len6 := 0#6,
    payload := flag :: List.replicate 3 0#8 ++ toLE 4 chunk ++ List.replicate 56 0#8 }

/-- The endpoint of the receiver's completion mailbox. -/
def State.redEndpoint (s : State) (n : Nat) (d : RedDesc) : Endpoint :=
  let p := s.part (s.partOf n)
  { chip := s.fab.chipId, row := BitVec.ofNat 6 (p.row0 + d.rrow), col := BitVec.ofNat 5 (p.col0 + d.rcol), mbox := BitVec.ofNat 4 d.mbox }

/-- R270, R250: an instance has closed: waiting contributions enter. -/
def State.retryContribs (s : State) : State :=
  (s.cores.map Prod.fst).foldl (fun a k =>
    let c := a.core k
    match c.res, c.contribs with
    | some r, _ :: _ => a.contribute k r.slot c.contribs
    | _, _ => a) s

/-- R267, R269: a final instance: the result is written, and sent on for REDUCE. -/
def State.writeResult (s : State) (k : InstKey) : State :=
  match s.redDesc k.slot k.desc with
  | none => s
  | some d =>
    let fin := fun x : RedInst => x.is k && x.written.isNone && s.isFinal d x
    let own := decide (s.redOwner k.slot k.chunk = s.meIdx k.slot)
    match s.fab.insts.find? fin with
    | none => s
    | some x =>
      let r := s.redResult d x
      let flag := if d.form = 2 then x.parts.foldl (fun f p => f ||| p.flag) x.flag
        else if own then r.2.1 else x.results.foldl (fun f p => f ||| p.flag) 0#8
      let s := s.modFab fun f => { f with insts := replaceFirst fin { x with written := some flag } f.insts }
      if d.form ≠ 2 ∧ own = true then
        let s := (s.modFab fun f => { f with winmis := satAdd 0xFFFF f.winmis r.2.2 }).redWrite k d 0 0 r.1
        if d.form = 0 then (s.otherChips k.slot).foldl (fun a c => a.sendElems 0x03#8 k d r.2.1 r.1 c) s else s
      else s

/-- R179, R269: the completion of a written instance is delivered once credits cover it, and the instance closes. -/
def State.completeInst (s : State) (k : InstKey) : State :=
  match s.redDesc k.slot k.desc with
  | none => s
  | some d =>
    let out := fun x : RedInst => x.is k && x.written.isSome
    let ep := s.redEndpoint k.slot d
    match s.fab.insts.find? out, s.fab.redCredits.find? fun e => e.isFor ep with
    | some x, some e =>
      if e.credits < (place 1 e.size e.credits e.wptr).2.1 then s
      else
        let s := s.modFab fun f => { f with insts := f.insts.eraseP out, redCredits := f.redCredits.map fun c => if c.isFor ep then c.spend 1 else c }
        s.arrive (completionMsg s k.slot d k.chunk (x.written.getD 0#8) e)
    | _, _ => s

/-- R269: an instance is final: its result, and the completion where credits cover it. -/
def State.instanceDone (s : State) (k : InstKey) : State := (s.writeResult k).completeInst k

/-- R179, R269: the written instances whose completions wait are tried again, in the order in which they became final. -/
def State.completeInsts (s : State) : State :=
  (s.fab.insts.filter fun x => x.written.isSome).foldl (fun a x => a.completeInst { slot := x.slot, desc := x.desc, chunk := x.chunk }) s

/-! Frames received (R258, R267, R268). -/

/-- R258: the context of a job. -/
def State.jobSlot (s : State) (job : Nat) : Option Nat :=
  s.liveSlots.find? fun n => decide ((s.slot n).state ≠ .free) && decide ((s.slot n).job.toNat = job)

/-- The elements of a reduction payload: as many as part p of the descriptor holds. -/
def frameElems (d : RedDesc) (p : Nat) (bs : List Byte) : List KafBits :=
  (List.range (min 256 (d.count - 256 * p))).map fun i => BitVec.ofNat 128 (leNat ((bs.drop (16 * i)).take 16))

/-- The instance a frame's part belongs to, from its generation-checked fields. -/
structure RedHead where
  key : InstKey
  desc : RedDesc
  member : Nat
  part : Nat
  flag : FlagByte

/-- R258, R186: a reduction frame's context and descriptor; none where it is stale (a frame of an unknown descriptor too, log entry 24). -/
def State.redHead (s : State) (f : Frame) : Option RedHead :=
  let w := f.w1.toNat
  match s.jobSlot (bits w 57 42) with
  | none => none
  | some n =>
    if !s.genMatches n f.schip (BitVec.ofNat 8 (bits w 41 34)) then none
    else (s.redDesc n (bits w 7 0)).map fun d =>
      { key := { slot := n, desc := bits w 7 0, chunk := bits w 23 8 }, desc := d, member := bits f.w2.toNat 7 0, part := bits w 25 24,
        flag := BitVec.ofNat 8 (bits w 33 26) }

/-- R267, R268: a partial or a contribution of another member. None where a new instance is needed and all are open (R270). -/
def State.rcontrib (s : State) (f : Frame) : Option State :=
  match s.redHead f with
  | none => some s.redStale
  | some h =>
    let p : Partial := { member := h.member, part := h.part, elems := frameElems h.desc h.part f.payload, flag := h.flag }
    let s := if h.desc.form = 2 then s.redWrite h.key h.desc h.member (256 * h.part) p.elems else s
    let lacks := fun x : RedInst => x.is h.key && !x.parts.any fun q => decide (q.member = h.member) && decide (q.part = h.part)
    match s.fab.insts.find? lacks with
    | some x => some (s.modFab fun g => { g with insts := replaceFirst lacks { x with parts := x.parts ++ [p] } g.insts })
    | none =>
      if maxInsts ≤ s.fab.insts.length then none
      else some (s.modFab fun g => { g with insts := g.insts ++ [{ RedInst.new h.key with parts := [p] }] })

/-- R267 step 4: a part of the owner's result is written at the receiver. One that no open instance waits for is stale (log entry 24). -/
def State.rresult (s : State) (f : Frame) : State :=
  match s.redHead f with
  | none => s.redStale
  | some h =>
    let p : Partial := { member := h.member, part := h.part, elems := frameElems h.desc h.part f.payload, flag := h.flag }
    let lacks := fun x : RedInst => x.is h.key && x.sent && !x.results.any fun q => decide (q.member = h.member) && decide (q.part = h.part)
    match s.fab.insts.find? lacks with
    | some x => (s.redWrite h.key h.desc 0 (256 * h.part) p.elems).modFab fun g =>
        { g with insts := replaceFirst lacks { x with results := x.results ++ [p] } g.insts }
    | none => s.redStale

end Sys2Proof.Machine
end

