-- ==== Sys2Proof/Machine/CoreOps.lean ====
section
/-! DEFINITION. What the module does around a core: attempts to issue, faults and the end of the context they bring (R113, R114,
R508), DMA rows (R158 to R161), and arrivals (R134). -/

namespace Sys2Proof.Machine

/-! Faults (R114, R504, R508). -/

/-- R114, R504, R508: SCRATCH_DATA: the context is SUSPECT; the faulting core's dump is FULL, the others' STATE; a DUMP of 0 writes
none here either (log entry 124). -/
def State.suspectCtx (s : State) (n k : Nat) : State :=
  let s := (s.endCtx n .suspect 0x02 false).abortDecision n 0x02 0xFF
  let s := (s.modSlot n fun x => { x with pw := { x.pw with fcore := k } }).ctxRecord 5 n 0x02
  if s.rst.cfgDump = 0 then s else s.dump 0xFE 0x0D n (s.coresOf n) fun q => decide (q = k)

/-- R114: a core of context n has faulted. -/
def State.faultCtx (s : State) (n k : Nat) : State :=
  match (s.slot n).state, (s.core k).fault with
  | .running, some f => if f.code = fcScratchData then s.suspectCtx n k else s.abortCtx n 0x01 0xFF
  | .loaded, some f => if f.code = fcScratchData then s.suspectCtx n k else s.abortCtx n 0x01 0xFF
  | _, _ => s

/-- R113: a deferred fault is delivered at once to a core that waits in a waiting syllable or has issued STEPEND. -/
def Core.deliver (c : Core) (always : Bool) : Core :=
  match c.deferred with
  | some f => if always || c.waiting || c.ended then c.takeFault f else c
  | none => c

/-! After an attempt to issue. -/

/-- R132, R374: a posted hint goes to the region's node, which keeps the newest of each core. -/
def State.takeHint (s : State) (k : Nat) : State :=
  match (s.core k).hint with
  | none => s
  | some h =>
    let i := regionOfCore k
    let q := ((coresOfRegion i).findIdx? fun x => x = k).getD 0
    (s.modCore k fun c => { c with hint := none }).modRegion i fun x =>
      { x with hints := x.hints.filter (fun y => y.core ≠ q) ++ [{ core := q, level := h.level, lead := h.lead, since := h.since, at_ := s.rt.now.toNat }] }

/-- R257: DATA for another chip leaves the outbound buffer for a port. -/
def State.sendOut (s : State) (k n : Nat) : State :=
  let away := (s.core k).outbound.filter fun m => m.dstChip ≠ s.fab.chipId
  (s.modCore k fun c => { c with outbound := c.outbound.filter fun m => m.dstChip = s.fab.chipId }).postAll n away

/-- What follows a change of core k: its messages, contributions and hint leave it, issued bundles are progress (R490, R521), and
a fault ends its context. -/
def State.settleCore (s : State) (k : Nat) (before : Core) : State :=
  let c := s.core k
  match c.res with
  | none => s
  | some r =>
    let n := r.slot
    let ms := c.emit
    let s := ((s.modCore k fun c => { c with emit := [] }).postAll n ms).sendOut k n
    let s := (s.contribute k n c.contribs).takeHint k
    let s := if c.issued = before.issued then s
      else (s.modSlot n fun x => { x with pw := { x.pw with bundles := x.pw.bundles + 1 } }).progress n
    if c.fault.isSome ∧ before.fault.isNone then (s.faultCtx n k).settle else s

/-- A change of one core, and what follows it. An attempt advances the open-value counter (log entry 1). -/
def State.onCore (s : State) (k : Nat) (f : Env → Core → Core) : State :=
  let c := s.core k
  let s := { (s.setCore k (f (s.env k) c)) with free := s.free + 1 }
  s.settleCore k c

/-- A core whose context is RUNNING. -/
def State.coreRuns (s : State) (k : Nat) : Bool :=
  match (s.core k).res with
  | some r => decide ((s.slot r.slot).state = .running)
  | none => false

/-- R98, R107: a syllable reaches the core its command names. -/
def State.syllable (s : State) (i : Instr) (iss : Issue) : State :=
  if s.coreRuns iss.core then s.onCore iss.core fun e c => c.present e i iss else s

/-! DMA (R158 to R161). -/

/-- R161, R332: every byte of a row lies in the layout, and is writable for a store. -/
def Slot.rowAllowed (x : Slot) (store : Bool) (a n : Nat) : Bool :=
  (List.range (n / 64)).all fun i => match x.extentAt (a + 64 * i) with
    | some e => !store || e.wr
    | none => false

/-- The 64-byte units of a row of a DMA.LD: false where a poisoned unit or page stops it (R161). -/
def State.loadUnits (s : State) (k sp a : Nat) (first : Bool) : Nat → Bool × State
  | 0 => (true, s)
  | n + 1 =>
    let r := s.readUnit a first
    match r.1 with
    | none => (false, r.2)
    | some bs => (r.2.modCore k fun c => c.spWrite sp bs).loadUnits k (sp + 64) (a + 64) false n

/-- A DMA that stops on a deferred fault: its counter drops (R161). -/
def Core.dmaStop (c : Core) (d : Dma) (code : BitVec 8) (addr : BitVec 64) : Core :=
  { c with dmas := c.dmas.erase d, dmaCnt := Tbl.update 0 c.dmaCnt d.q (· - 1) }.defer code d.slot d.pc addr

/-- R160: the rows that a DMA.ST has moved stand in device memory. -/
def State.dmaFlush (s : State) (d : Dma) : State := d.out.foldl (fun a r => a.writeRow r.1 r.2) s

/-- The list with the element at i replaced. -/
def setAt {α : Type} (l : List α) (i : Nat) (x : α) : List α := l.take i ++ x :: l.drop (i + 1)

/-- R160, R161: the next row of the i-th outstanding DMA of core k. A row of a DMA.ST leaves the scratchpad, and is seen in device
memory once the DMA completes or stops. A scratchpad word that cannot be corrected stops a DMA.ST before the row that holds it (R168;
log entry 25). Under throttle level 3 the row waits (R293). -/
def State.dmaRow (s : State) (k i : Nat) : State :=
  let c := s.core k
  match c.res, c.dmas[i]? with
  | some r, some d =>
    let x := s.slot r.slot
    let a := d.gv + d.moved * d.stride
    let sp := d.gs + d.moved * d.rowBytes
    if d.rows ≤ d.moved then s
    else if s.blocked a d.rowBytes then s
    else if !x.rowAllowed d.store a d.rowBytes then (s.dmaFlush d).modCore k fun c => c.dmaStop d fcDmaProt 0#64
    else if d.store then
      match c.badIn sp d.rowBytes with
      | some w => (s.dmaFlush d).modCore k fun c => c.dmaStop d fcScratchData (BitVec.ofNat 64 w)
      | none => s.modCore k fun c =>
          { c with dmas := setAt c.dmas i { d with moved := d.moved + 1, out := d.out ++ [(a, c.spRead sp d.rowBytes)] } }
    else
      let r := s.loadUnits k sp a true (d.rowBytes / 64)
      if r.1 then r.2.modCore k fun c => { c with dmas := setAt c.dmas i { d with moved := d.moved + 1 } }
      else r.2.modCore k fun c => c.dmaStop d fcDmaPoison 0#64
  | _, _ => s

/-- R160: the last byte of the i-th outstanding DMA is written, and its counter drops. -/
def State.dmaDone (s : State) (k i : Nat) : State :=
  let c := s.core k
  match c.res, c.dmas[i]? with
  | some r, some d =>
    if d.moved < d.rows then s
    else ((s.dmaFlush d).modCore k fun c =>
      { c with dmas := c.dmas.eraseIdx i, dmaCnt := Tbl.update 0 c.dmaCnt d.q (· - 1) }).progress r.slot
  | _, _ => s

/-- A unit's work changes a core; a deferred fault that it brings is delivered where R113 says at once. -/
def State.unitWork (s : State) (k : Nat) (f : State → State) : State :=
  let before := s.core k
  let s := f s
  (s.modCore k fun c => if before.deferred.isNone then c.deliver false else c).settleCore k before

/-! Arrival (R134). -/

/-- Every operation the core issued has completed. -/
def Core.quiet (c : Core) : Bool :=
  c.m0.isEmpty && c.m1.isEmpty && c.dmas.isEmpty && c.outbound.isEmpty && c.offloads.isEmpty && c.contribs.isEmpty && c.creditDue.isEmpty &&
  c.deferred.isNone

end Sys2Proof.Machine
end

