-- ==== Sys2Proof/Machine/CartOps.lean ====
section
/-! DEFINITION. The cartridges' operations (R440 to R461): sampling and limits, references and learning, bay states and
calibration discharges. -/

namespace Sys2Proof.Machine

def State.bay (s : State) (b : Nat) : Bay := s.carts.bay b
def State.setBay (s : State) (b : Nat) (x : Bay) : State := { s with carts := s.carts.setBay b x }
def State.modBay (s : State) (b : Nat) (f : Bay → Bay) : State := s.setBay b (f (s.bay b))

/-- R525: the KEY of a CARTRIDGE record. -/
def State.cartRecord (s : State) (event b sub : Nat) (vals : List Nat) : State :=
  s.record 0x080 (event + field b 1 3 + field sub 4 4) vals

/-- R457: a change of a bay's state writes a record. -/
def State.bayTo (s : State) (b : Nat) (v : BayState) : State :=
  if (s.bay b).state = v then s else (s.modBay b fun x => { x with state := v }).cartRecord 2 b v.code []

/-- R442, R454, R456: an isolation writes a record with the cause and the cell readings. -/
def State.isolate (s : State) (b cause : Nat) : State :=
  let x := s.bay b
  (s.setBay b { x with isolated := true, resting := false }).cartRecord 0 b cause (cause :: x.cells.take 14)

/-- A bay goes to FAULT (R440, R442). -/
def State.bayFault (s : State) (b cause : Nat) : State :=
  let s := if cause = 2 then
      { s with carts := { s.carts with deepSerials := (s.bay b).serial :: s.carts.deepSerials.erase (s.bay b).serial } } else s
  (((s.modBay b fun x => { x with cause, precharge := false }).isolate b cause).bayTo b .fault)

def keepCartId (b : Nat) : Nat := 0xC0B00 + 16 * b
def keepCartLrn (b : Nat) : Nat := 0xC0B08 + 16 * b

/-- R452, R454: c, r and the marks go to KEEP_CART_LRN. -/
def State.writeLearn (s : State) (b : Nat) : State :=
  let x := s.bay b
  (s.keepWrite (keepCartLrn b)
    (BitVec.ofNat 64 (field x.cap 16 0 + field x.esr 16 16 + flag1 x.stale 32 + flag1 x.suspect 33))).modBay b
      fun y => { y with keptCap := x.cap, keptAt := some s.lt }

/-- R449, R450, R452, R453: a cartridge is marked SUSPECT. -/
def Bay.markSuspect (x : Bay) : Bay :=
  { x with suspect := true, suspects := if x.suspect then x.suspects else satAdd 0xFF x.suspects 1 }

/-! Calibration discharge (R454 to R456). -/

/-- Limits of a leg that moves power (R440): discharging and charging. -/
def Bay.tempsIn (x : Bay) (lo hi : Int) : Bool := x.temps.all fun t => decide (lo ≤ t) && decide (t ≤ hi)
def Bay.canMove (x : Bay) : Bool := x.state.serves && !x.isolated && !x.resting
def Bay.canDischarge (x : Bay) : Bool := x.canMove && decide (25000 < x.vmin) && x.tempsIn (-10) 65
def Bay.canCharge (x : Bay) : Bool := x.canMove && decide (x.vmax < 38000) && x.tempsIn 0 60

/-- R446: what a leg can deliver, and can take, at 100 A, in mW at VBUS_INT; charge power tapers with voltage and temperature (R440). -/
def Bay.disMax (x : Bay) : Nat := if x.canDischarge then 96 * x.pack else 0
def Bay.chgMax (x : Bay) : Nat :=
  let tv := if x.vmax ≤ 37500 then 500 else 38000 - x.vmax
  let t := (x.temps.foldl max 0).toNat
  let tt := if t ≤ 55 then 5 else 60 - t
  if x.canCharge then 100 * x.pack * 100 * tv * tt / (96 * 500 * 5) else 0

/-- R442: a power divided in proportion to two weights, equally where both are zero; what one leg cannot take goes to the other. -/
def share (p wa wb la lb : Nat) : Nat × Nat :=
  let a := min la (if wa + wb = 0 then p / 2 else p * wa / (wa + wb))
  let b := min lb (p - a)
  (min la (p - b), b)

/-- R442: the legs' powers for a P_store: discharge by e_low, charge by headroom. -/
def Carts.divide (c : Carts) (p : Int) : Int × Int :=
  if 0 ≤ p then
    let w := fun x : Bay => if x.canDischarge then x.eLow.toNat else 0
    let r := share p.toNat (w c.a) (w c.b) c.a.disMax c.b.disMax
    ((r.1 : Int), (r.2 : Int))
  else
    let w := fun x : Bay => if x.canCharge then (x.eFull - x.eV).toNat else 0
    let r := share p.natAbs (w c.a) (w c.b) c.a.chgMax c.b.chgMax
    (-(r.1 : Int), -(r.2 : Int))

/-- R442, R454: the legs' powers for the P_store in force. In a calibration X delivers 30 A and Y carries the rest; in its preparation Y gives
X up to 1.0 kW, how much being open. -/
def State.legPowers (s : State) : State :=
  let p := s.draw.storeMw
  let put := fun (s : State) (r : Int × Int) => (s.modBay 0 fun x => { x with leg := r.1 }).modBay 1 fun x => { x with leg := r.2 }
  let r := s.carts.divide p
  match s.carts.cal with
  | none => put s r
  | some c => match c.step with
    | .prep =>
      let t : Int := (Config.freeNat s.free % 1000001 : Nat)
      put { s with free := s.free + 1 } (if c.bay = 0 then (r.1 - t, r.2 + t) else (r.1 + t, r.2 - t))
    | .discharge =>
      let x : Int := (288 * (s.bay c.bay).pack / 10 : Nat)
      put s (if c.bay = 0 then (x, p - x) else (p - x, x))
    | .rest0 | .rest1 => put s r

/-- R455 reason 3: times in ns RT over the next 5 s at which some RUNNING context's beat begins. -/
def State.beatTimes (s : State) : List Nat :=
  let now := s.rt.now.toNat
  now :: s.runningSlots.flatMap fun n =>
    let st := (s.slot n).step
    let l := max 1 st.beatLen
    (List.range (5000000000 / l + 1)).map fun i => now + i * l

/-- R455: the planned load at a rack time, each step repeating its plan at the pace in force. -/
def State.loadRepeat (s : State) (t : Nat) : PlanLoad :=
  let rs := s.runningSlots.filterMap fun n =>
    let x := s.slot n
    let total : Nat := x.prog.plan.foldl (fun a r => a + r.run) 0
    (planAt x.prog.plan ((x.step.beat + (t - s.rt.now.toNat) / max 1 x.step.beatLen) % max 1 total)).map fun r => (n, r)
  { cur := fun P => ratSum (rs.map fun nr => (s.planned64 nr.1 nr.2.cur P : Rat) / 64),
    mem := ratSum (rs.map fun nr => (nr.2.mem : Rat) / 255), link := ratSum (rs.map fun nr => (nr.2.link : Rat) / 255) }

/-- The bus target projected to a rack time: along the trajectory in force and any pending one (R455). -/
def State.targetAt (s : State) (t : Nat) : Rat :=
  let lim := ratMin (s.draw.ceiling : Rat) (s.draw.limit : Rat)
  let pend := s.draw.pend.filter fun p => decide ((p.points.headD { rt := 0, w := 0 }).rt ≤ t)
  match pend.or s.trajNow with
  | some p => ratMin lim (trajValue p.points t)
  | none => ratMin lim s.pSelf

/-- One projected value approaching another under RAMP, in 0.1 W/µs, over a span of ns (R415). -/
def rampTo (x target : Rat) (ramp span : Nat) : Rat :=
  let d : Rat := (ramp * span : Nat) / 10000
  if x < target then ratMin target (x + d) else if x - d < target then target else x - d

/-- R455 reason 3: the forward P_store stays within ±1.5 kW, beat by beat, over the next 5 s. -/
def State.storeCalm (s : State) : Bool :=
  let ts := s.beatTimes.mergeSort
  let r := ts.foldl (fun (a : Rat × Nat × Bool) t =>
    let p := rampTo a.1 (s.targetAt t) s.draw.ramp (t - a.2.1)
    let d := s.pInt (s.loadRepeat t) s.idleRegions - p
    (p, t, a.2.2 && decide (-1500 ≤ d) && decide (d ≤ 1500)))
    ((s.draw.rampMw : Rat) / 1000, s.rt.now.toNat, true)
  r.2.2

/-- R455: the first failing reason, 0 when every condition holds. -/
def State.calReason (s : State) (b : Nat) : Nat :=
  let y := s.bay (1 - b)
  let cool := fun x : Bay => x.tempsIn 10 50
  if !(decide (s.carts.a.state = .inService) && decide (s.carts.b.state = .inService) && s.carts.cal.isNone) then 1
  else if !(s.pwr.closed && !s.draw.brake && !s.carts.taper &&
      (decide (s.svc = .filling) || s.serviceUp)) then 2
  else if !s.storeCalm then 3
  else if y.eFull - y.eV < joule 4000 then 4
  else if !(cool s.carts.a && cool s.carts.b) then 5
  else 0

/-- R454 step 1, R457: a calibration starts; both bays show CALIBRATING. -/
def State.startCal (s : State) (b : Nat) (cmd : Bool) : State :=
  let ready := decide (85 ≤ (s.bay b).soc)
  let c : CartCal := { bay := b, step := if ready then .rest0 else .prep, at_ := s.lt, from_ := s.lt, voc0 := 0, q := 0, rMeas := 0, cmd }
  let s := { s with carts := { s.carts with cal := some c, calBay := b, calResult := if ready then 2 else 1 } }
  ((s.modBay b fun x => { x with calWanted := false, resting := ready }).bayTo b .calibrating).bayTo (1 - b) .calibrating

/-- The bays return to the division of R442. -/
def State.calOver (s : State) : State :=
  let back := fun (s : State) b => if (s.bay b).state = .calibrating then s.bayTo b .inService else s
  let s := { s with carts := { s.carts with cal := none } }
  (back (back s 0) 1).modBay s.carts.calBay fun x => { x with resting := false }

/-- R456: a running calibration is abandoned; c and r are unchanged. -/
def State.abandonCal (s : State) (reason : Nat) : State :=
  match s.carts.cal with
  | none => s
  | some _ => { s with carts := { s.carts with calResult := 4, calReason := reason } }.calOver

/-- R455: a request of the module itself, retried later when deferred. -/
def State.ownCal (s : State) (b : Nat) : State :=
  let r := s.calReason b
  if (s.bay b).state ≠ .inService then s
  else if r = 0 then s.startCal b false
  else { s with carts := { s.carts with calReason := r } }.modBay b fun x => { x with calWanted := true }

/-! Sampling (R440, R443, R444, R446, R449, R450, R458). -/

/-- One more sample of a run, or the run broken. -/
def runIf (c : Bool) (n : Nat) : Nat := if c then n + 1 else 0

/-- The readings of a sample and the runs they extend. -/
def Bay.take (x : Bay) (m : CartSample) : Bay :=
  let cur := m.cur - x.offset
  let sum := m.cells.foldl (· + ·) 0
  let y := { x with cells := m.cells, pack := m.pack, cur, temps := m.temps.filterMap id,
                    charge := x.charge + cur, recent := (cur.natAbs :: x.recent).take 200 }
  { y with runOver := runIf (decide (38200 < y.vmax)) x.runOver,
           runSense := runIf (decide (500 < (10 * m.pack - sum) + (sum - 10 * m.pack))) x.runSense,
           runImb := runIf (decide (1000 < y.vmax - y.vmin)) x.runImb,
           runDis := runIf ((decide (y.eQ ≤ 0) && decide (joule 500 ≤ y.eV)) || (decide (y.eV ≤ 0) && decide (joule 500 ≤ y.eQ))) x.runDis,
           runOpen := runIf (m.temps.all Option.isNone) x.runOpen,
           runCid := runIf (!m.cid && m.temps.all Option.isSome) x.runCid }

/-- R440: the fault a sample shows, 0 for none, in the order of the causes. -/
def Bay.limitFault (x : Bay) : Nat :=
  if 2 ≤ x.runOver then 1
  else if x.vmin < 22000 then 2
  else if x.temps.any fun t => decide (70 ≤ t) then 3
  else if 2000 ≤ x.vmax - x.vmin then 4
  else if 10 ≤ x.runSense then 5
  else 0

/-- R450: imbalance and balancers; R449: disagreement of charge and voltage. -/
def State.bayJudge (s : State) (b : Nat) : State :=
  let x := s.bay b
  let spread := x.vmax - x.vmin
  let hi := x.cells.findIdx fun v => decide (v = x.vmax)
  let lo := x.cells.findIdx fun v => decide (v = x.vmin)
  let s := if x.runImb = 10 then
      (s.setBay b { x.markSuspect with balancing := true, imbWait := true, imbFrom := none }).cartRecord 4 b 0 [hi, x.vmax, lo, x.vmin]
    else s
  let x := s.bay b
  let s := s.setBay b { x with
    balancing := x.balancing && decide (200 < spread),
    imbFrom := if x.imbWait && decide (spread ≤ 500) then some (x.imbFrom.getD s.lt) else none }
  let x := s.bay b
  if x.runDis = 10 then
    (s.setBay b { x.markSuspect with vref := some x.voc, charge := 0, resetSince := true, runDis := 0 }).cartRecord 1 b 0 []
  else s

/-- R458: removal, R440: limits, then R449 and R450, for one bay. -/
def State.sampleBay (s : State) (b : Nat) (m : CartSample) : State :=
  if (s.bay b).state = .absent then s
  else
    let s := s.modBay b fun x => x.take m
    let x := s.bay b
    if 2 ≤ x.runOpen ∨ 2 ≤ x.runCid then
      ((s.modBay b fun y => { y with precharge := false, cause := 0, ind := false }).isolate b 0).bayTo b .absent
    else
      match x.state with
      | .admitting | .inService | .calibrating =>
        if x.limitFault ≠ 0 then s.bayFault b x.limitFault else s.bayJudge b
      | _ => s

/-- R349: a leg that the store converter can hold VBUS_INT from. -/
def Carts.holdsBus (c : Carts) : Bool := c.a.canDischarge || c.b.canDischarge

/-- R349, R359: with the input stage open, VBUS_INT is HELD while a leg can hold it. -/
def State.busHeld (s : State) : State :=
  if s.pwr.closed || decide (s.svc = .off) then s
  else s.railState 0 (if s.carts.holdsBus then 3 else 2)

/-- R446: D_avail, C_avail and the taper; R444: the totals. -/
def Carts.totals (c : Carts) : Carts :=
  let bs := [c.a, c.b].filter fun x => x.state.serves
  let eLow := (bs.map Bay.eLow).foldl (· + ·) 0
  let dis := c.a.disMax + c.b.disMax
  let chg := c.a.chgMax + c.b.chgMax
  let room := min (joule 500) (max 0 (eLow - joule 3000))
  { c with eLow, eNow := (bs.map Bay.eQ).foldl (· + ·) 0, eFull := (bs.map Bay.eFull).foldl (· + ·) 0,
           dAvail := ((min 3000000 dis : Nat) * room / joule 500).toNat, cAvail := min 3000000 chg,
           taper := decide (room < joule 500) }

/-- The totals are formed anew, with no charge taken while flow is lost (R611); the start of the taper writes a record (R446). -/
def State.cartTotals (s : State) : State :=
  let t := if s.cool.noFlow then { s.carts.totals with cAvail := 0 } else s.carts.totals
  let starts := t.taper && !s.carts.taper && s.pwr.closed
  let s := { s with carts := t }.busHeld
  if starts then s.record 0x070 4 [] else s

/-- R443, R456: a sample of both bays; a calibration ends with a fault, or when Y meets a limit. -/
def State.cartSample (s : State) (a b : CartSample) : State :=
  let s := (((s.sampleBay 0 a).sampleBay 1 b)).cartTotals
  match s.carts.cal with
  | none => s
  | some c =>
    let y := s.bay (1 - c.bay)
    if (s.bay 0).state ≠ .calibrating ∨ (s.bay 1).state ≠ .calibrating then s.abandonCal 4
    else if !(y.canCharge && y.canDischarge) then s.abandonCal 3
    else s

/-! References (R449, R451, R452). -/

/-- R451: whether a rest of leg b can start. -/
def State.mayRest (s : State) (b : Nat) : Bool :=
  let x := s.bay b
  let y := s.bay (1 - b)
  let quiet := s.runningSlots.all fun n => match planAt (s.slot n).prog.plan (s.slot n).step.beat with
    | some r => r.quiet
    | none => false
  let mean := x.recent.foldl (· + ·) 0
  let carries := y.canMove && (if s.draw.storeMw < 0 then decide (s.draw.storeMw.natAbs ≤ y.chgMax) else decide (s.draw.storeMw.natAbs ≤ y.disMax))
  quiet && decide (mean < 1000 * max 1 x.recent.length) && carries && s.pwr.closed && !s.draw.brake &&
  decide (s.svc ≠ .saving) && x.state.serves && !x.resting &&
  (match x.restAt with
   | some t => decide (10000000000 ≤ s.lt - t)
   | none => true)

/-- R452: c and r learned from a rest that ends with reference voc, after the charge counted since the last one. -/
def Bay.learn (x : Bay) (lt : Nat) (voc : Int) : Bay :=
  match x.vref with
  | none => x
  | some v0 =>
    let dv := (voc - v0).natAbs
    if x.resetSince ∨ 60000000000 < lt - x.refAt ∨ dv < 30000000 then x
    else
      let q := 200000 * x.charge.natAbs
      if 10 * q ≤ 11 * x.cap * dv ∧ 9 * x.cap * dv ≤ 10 * q then
        { x with cap := openDiv (15 * x.cap * dv + q) (16 * dv), rejects := 0 }
      else
        let y := { x with rejects := satAdd 0xFF x.rejects 1 }
        if 3 ≤ y.rejects then y.markSuspect else y

/-- R452: r_meas, accepted with weight 1/16 within ±50% of r. -/
def Bay.learnR (x : Bay) (rm : Nat) : Bay :=
  if 2 * rm ≤ 3 * x.esr ∧ x.esr ≤ 2 * rm then { x with esr := openDiv (15 * x.esr + rm) 16 } else x

/-- R449, R451: a reference: the gap is judged, c is learned, e_q restarts from voltage. -/
def State.reference (s : State) (b : Nat) : State :=
  let x := s.bay b
  let voc := x.voc
  let gap : Int := (x.eQ - x.eV).natAbs
  let s := if x.vref.isSome ∧ max (joule 500) (x.eFull / 20) < gap then (s.setBay b x.markSuspect).cartRecord 1 b 0 [] else s
  s.modBay b fun y =>
    { (y.learn s.lt voc) with vref := some voc, charge := 0, resetSince := false, refAt := s.lt }

/-- R452: KEEP_CART_LRN is written at most once an hour, when c has moved by 1% or more. -/
def State.keepLearn (s : State) (b : Nat) : State :=
  let x := s.bay b
  let moved := decide (x.keptCap ≤ 100 * ((x.cap - x.keptCap) + (x.keptCap - x.cap)))
  let due := match x.keptAt with
    | some t => decide (3600000000000 ≤ s.lt - t)
    | none => true
  if moved && due then s.writeLearn b else s

/-! Admission (R459, R460). -/

/-- R460: the serial is compared; a new one is written and the cartridge marked STALE. -/
def State.checkSerial (s : State) (b : Nat) : State :=
  let x := s.bay b
  let l := s.keep (keepCartLrn b)
  let old := (s.keep (keepCartId b)).extractLsb' 0 32
  let s := s.modBay b fun y => if l = 0#64 then y else
    { y with cap := (l.extractLsb' 0 16).toNat, esr := (l.extractLsb' 16 16).toNat, stale := l.getLsbD 32, suspect := l.getLsbD 33 }
  if old = x.serial then s
  else
    let s := (s.keepWrite (keepCartId b) (x.serial.zeroExtend 64)).modBay b fun y => { y with stale := true, calWanted := true }
    (s.writeLearn b).cartRecord 3 b 0 []

/-- R459 step 4: the bay serves. -/
def State.admitDone (s : State) (b : Nat) : State :=
  (((s.checkSerial b).modBay b fun y => { y with precharge := false, isolated := false, cause := 0, ind := false }).bayTo b .inService).cartTotals

/-- R459: steps 1 to 3 on what the identity memory and the cells show. -/
def State.admitBay (s : State) (b : Nat) : State :=
  let s := (s.modBay b fun y => { y with ind := false, cause := 0 }).bayTo b .admitting
  let x := s.bay b
  if !x.typeOk then (s.isolate b 0).bayTo b .foreign
  else if x.vmin < 22000 ∨ x.serial ∈ s.carts.deepSerials then s.bayFault b 2
  else if 2000 ≤ x.vmax - x.vmin then s.bayFault b 4
  else if x.temps.any fun t => decide (70 ≤ t) then s.bayFault b 3
  else if x.vmin < 25000 then s.modBay b fun y => { y with precharge := true }
  else s.admitDone b

end Sys2Proof.Machine
end

