-- ==== Sys2Proof/Machine/RingOps.lean ====
section
/-! DEFINITION. The set-point rings: frames, nodes and the PTC's bookkeeping (R366 to R372, R477), failures (R375, R376) and calibrations
(R381, R384). -/

namespace Sys2Proof.Machine

/-! Frames (R367, R368). -/

/-- The codes of R369. -/
def opSet : Nat := 1
def opBias : Nat := 2
def opWave : Nat := 3
def opTie : Nat := 4
def opUntie : Nat := 5
def opCal : Nat := 6
def opQuery : Nat := 7
def opGate : Nat := 8
def opStart : Nat := 9

/-- R367: a frame with its CRC. -/
def ringSeal (body : Nat) : BitVec 64 := BitVec.ofNat 64 (body + field (crc8 56 body) 8 56)

def ringOk (w : BitVec 64) : Bool := decide (crc8 56 (w.toNat % 2 ^ 56) = w.toNat / 2 ^ 56)

/-- R368: a command frame to DST. -/
def RingCmd.word (c : RingCmd) (dst : Nat) : BitVec 64 :=
  ringSeal (field dst 9 0 + field c.op 4 9 + field c.seq 8 13 + field c.arg 8 21 + field c.slew 3 29)

/-- The command that a frame spells. -/
def ringCmdOf (w : BitVec 64) : RingCmd :=
  { op := bits w.toNat 12 9, seq := bits w.toNat 20 13, arg := bits w.toNat 28 21, slew := bits w.toNat 31 29 }

/-- R368: a response frame. -/
def respWord (src : Nat) (c : RingCmd) (resp vcode iout : Nat) : BitVec 64 :=
  ringSeal (field src 9 0 + field c.op 4 9 + field c.seq 8 13 + field resp 3 21 + field vcode 8 24 + field iout 8 32)

/-- R369: an OP with an ARG and a SLEW that are valid for it. -/
def RingCmd.valid (c : RingCmd) : Bool :=
  decide (c.slew ≤ 4) && decide (1 ≤ c.op) && decide (c.op ≤ 9) && decide (c.op ≠ opWave) &&
  (if c.op = opSet ∨ c.op = opStart then decide (c.arg ≤ 160)
   else if c.op = opBias then decide (c.arg ≤ 44)
   else if c.op = opTie ∨ c.op = opUntie then decide (c.arg ≤ 3)
   else decide (c.arg = 0))

/-- R368: a slew code in mV/µs. -/
def slewMv (x : Nat) : Nat := [5, 10, 25, 50, 100].getD x 5

/-- R370: the time in ns LT that a ramp adds to a command's deadline; a START ramps from 0 V, 200 codes below 0.500 V. -/
def RingCmd.span (c : RingCmd) (present : Nat) : Nat :=
  let codes := if c.op = opSet then (c.arg - present) + (present - c.arg) else if c.op = opStart then 200 + c.arg else 0
  (codes * 2500 + slewMv c.slew - 1) / slewMv c.slew

/-! Responses of a node (R368 to R370). -/

/-- A node of a ring that carries frames, and that has its supply: VFEED is not off (R367, R372, log entry 143). -/
def State.nodeLive (s : State) (i : Nat) : Bool :=
  !Tbl.get false s.reg.broken (dieOfRegion i) && decide ((s.rail 2).state ≠ 0)

/-- R360, R368: the output reached, as a code rounded down: within ±5 mV of the reference and any pre-bias, open while a ramp lasts;
0xFF with no output. -/
def Region.vcode (x : Region) (free : Nat) : Nat :=
  if !x.enabled && !x.tie then 0xFF
  else match x.ramping with
    | some _ => free % 256
    | none => let k := x.ref + x.raised + free % 5
      if k < 2 then 0xFF else k - 2

/-- A node answers a command: the frame stays as its last response and goes on the ring. VCODE is `v` where the rule names it; the
current is a measured value. -/
def State.respond (s : State) (i : Nat) (c : RingCmd) (resp : Nat) (v : Option Nat) : State :=
  let x := s.region i
  let w := respWord i c resp (v.getD (x.vcode (Config.freeNat s.free))) (if x.enabled then Config.freeNat (s.free + 1) % 256 else 0)
  ({ s with free := s.free + 2 }.setRegion i { x with nodeResp := some w }).emit (.ring (dieOfRegion i) w)

/-! Calibration starts (R381). -/

/-- R381 step 1: the region is tied and carried. -/
def State.startRegCal (s : State) (i : Nat) (cmd : Bool) : State :=
  let s := s.modRegion i fun x => { x with cal := true, mode := .carried, tie := true }
  ({ s with reg := { s.reg with calActive := true, calRegion := i, calCmd := cmd, calRing := none, calDrop := none } }).groupRefs (clusterOfRegion i)

/-! A command at its node (R369, R370). -/

/-- R369: the region of position p of a node's cluster. -/
def mateOf (i p : Nat) : Nat := (regionsOfCluster (clusterOfRegion i)).getD p i

/-- R369: a regulator has reached its group's set-point: it works and no ramp of its cluster is under way. -/
def State.atGroup (s : State) (i : Nat) : Bool :=
  let x := s.region i
  x.enabled && !x.regfail && !x.opened && !x.cal && (regionsOfCluster (clusterOfRegion i)).all fun q => (s.region q).ramping.isNone

/-- R369: a waiting UNTIE of a node opens its tie once that regulator has reached the group set-point. -/
def State.openTie (s : State) (i : Nat) : State :=
  match (s.region i).untie with
  | none => s
  | some c =>
    let m := mateOf i c.arg
    if s.atGroup m then
      (((s.modRegion i fun x => { x with untie := none }).modRegion m fun x => { x with tie := false }).respond i c 0 none).groupRefs (clusterOfRegion i)
    else s

/-- R369: what an accepted command does at its node. -/
def State.ringAct (s : State) (i : Nat) (c : RingCmd) : State :=
  let x := s.region i
  let j := clusterOfRegion i
  if c.op = opSet then
    s.setRegion i { x with target := c.arg, slew := c.slew, ramping := some c,
                           ref := if c.arg < x.ref ∧ !s.inGroup j i then c.arg else x.ref }
  else if c.op = opBias then (s.setRegion i { x with bias := c.arg }).respond i c 0 none
  else if c.op = opTie then ((s.modRegion (mateOf i c.arg) fun y => { y with tie := true }).groupRefs j).respond i c 0 none
  else if c.op = opUntie then (s.setRegion i { x with untie := some c }).openTie i
  else if c.op = opCal then
    if s.reg.calActive || !x.mode.railed then s.respond i c 3 none
    else let t := s.startRegCal i false
         { t with reg := { t.reg with calRing := some c } }
  else if c.op = opGate then
    s.setRegion i { x with ref := 0, bellows := .off, ramping := some c, hold := false }
  else if c.op = opStart then
    s.setRegion i { x with target := c.arg, slew := c.slew, ramping := some c, enabled := true, bellows := .recharging }
  else s.respond i c 0 none

/-- R369, R370: a command whose DST is this node's index: an invalid one is refused; a duplicate is answered again, once its response
is there; any other is accepted. -/
def State.nodeTakes (s : State) (i : Nat) (c : RingCmd) : State :=
  let x := s.region i
  if !s.nodeLive i then s
  else if !c.valid then
    let t := s.respond i c 2 none
    t.modRegion i fun y => { y with nodeResp := x.nodeResp }
  else if (x.nodeLast.map RingCmd.seq) = some c.seq then
    match x.nodeResp with
    | some w => s.emit (.ring (dieOfRegion i) w)
    | none => s
  else (s.setRegion i { x with nodeLast := some c, nodeResp := none }).ringAct i c

/-- R371: a WAVE applies the stored bias in the powered regions of its wave on one die. -/
def State.applyWave (s : State) (die w : Nat) : State :=
  s.modRegions ((List.range 432).filter fun i =>
      decide (dieOfRegion i = die) && decide (waveOf (clusterOfRegion i) = w) && (s.region i).mode.railed && s.nodeLive i)
    fun x => { x with raised := min (min 5 (x.bias / 8)) (160 - x.setpt), bias := 0, stages := true }

def State.countRingTo (s : State) : State := { s with reg := { s.reg with ringTo := satAdd 0xFFF s.reg.ringTo 1 } }

/-- R367, R369: a frame as it reaches the nodes of a die's ring. -/
def State.ringArrive (s : State) (die : Nat) (w : BitVec 64) : State :=
  let c := ringCmdOf w
  let dst := bits w.toNat 8 0
  if Tbl.get false s.reg.broken die then s
  else if !ringOk w then s.countRingTo
  else if dst = 0x1FF then (if c.op = opWave ∧ c.arg < 8 then s.applyWave die c.arg else s)
  else if c.op ≠ opWave ∧ dst < 432 ∧ dieOfRegion dst = die then s.nodeTakes dst c
  else s

/-! The PTC's side (R368, R370). -/

/-- R370: a command departs: its SEQ, and the response that is now awaited by its deadline. -/
def State.awaits (s : State) (i : Nat) (c : RingCmd) (check : Bool) : State :=
  let x := s.region i
  s.setRegion i { x with seq := c.seq, sent := x.sent ++ [{ cmd := c, timeouts := 0, check, due := s.lt + c.span x.setpt + 2000 }] }

/-- R368, R464: the ACTIVE PTC puts a command frame on a die's ring; `flip` is what the ring does to it. -/
def State.ringSend (s : State) (die dst : Nat) (c : RingCmd) (flip : BitVec 64) : State :=
  if !s.ptc.hasActive then s
  else
    let w := c.word dst
    let s := if dst < 432 ∧ dieOfRegion dst = die ∧ c.op ≠ opWave then s.awaits dst c false else s
    (s.emit (.ring die w)).ringArrive die (w ^^^ flip)

/-- A command to a region's node. -/
def State.ringCommand (s : State) (i : Nat) (c : RingCmd) : State := s.ringSend (dieOfRegion i) i c 0#64

/-- The next SEQ of a node's commands. -/
def State.nextSeq (s : State) (i : Nat) : Nat := ((s.region i).seq + 1) % 256

/-- A SET or START of the region is still unanswered. -/
def Region.setWaits (x : Region) : Bool := x.sent.any fun e => decide (e.cmd.op = opSet) || decide (e.cmd.op = opStart)

/-! Failures (R375, R376, R384). -/

/-- R369: the node answers the CAL frame that started the calibration, if one did. -/
def State.answerCal (s : State) (resp : Nat) : State :=
  match s.reg.calRing with
  | none => s
  | some c => { s with reg := { s.reg with calRing := none } }.respond s.reg.calRegion c resp none

/-- R384: a cluster-mate of the regulator under calibration fails: it returns to the group within 20 µs LT. -/
def State.markDrop (s : State) (i : Nat) : State :=
  if s.reg.calActive ∧ s.reg.calRegion ≠ i ∧ clusterOfRegion s.reg.calRegion = clusterOfRegion i ∧ s.reg.calDrop = none then
    { s with reg := { s.reg with calDrop := some (s.lt + 20000) } }
  else s

/-- R380: a cluster with no regulator left that has not failed. -/
def State.allFailed (s : State) (j : Nat) : Bool :=
  (regionsOfCluster j).all fun i =>
    let x := s.region i
    !(x.mode.railed && x.enabled && !x.regfail && !x.opened)

/-- R375, R376: a regulator is failed under a condition of R375. Under condition 4 the PTC sends TIE to a cluster-mate's node. -/
def State.failRegulator (s : State) (i cond : Nat) : State :=
  let x := s.region i
  if x.regfail ∨ x.mode = .dark then s
  else
    let j := clusterOfRegion i
    let s := s.markDrop i
    let calOn := decide (s.reg.calRegion ≠ i) && s.reg.calActive
    let s := if calOn = s.reg.calActive then s else { s with reg := { s.reg with calActive := calOn } }.answerCal 3
    let s := s.setRegion i (if x.mode.railed then
      { x with regfail := true, mode := .carried, cal := false, tie := true, enabled := x.enabled && decide (cond ≠ 3) } else { x with regfail := true })
    let s := (s.retireRegion i).record 0x061 (1 + field i 9 2) [i, cond]
    let mate := (regionsOfCluster j).find? fun q => q ≠ i && s.nodeLive q
    let s := if cond = 4 ∧ x.mode.railed then match mate with
        | some q => s.ringCommand q { op := opTie, seq := s.nextSeq q, arg := ((regionsOfCluster j).findIdx? (· = i)).getD 0, slew := 0 }
        | none => s
      else s
    if x.mode.railed ∧ s.allFailed j then s.loseCluster j else s.groupRefs j

/-! Calibration ends (R381, R384). -/

/-- R384: the calibrated regulator is back in its group. -/
def State.dropCal (s : State) : State :=
  if s.reg.calActive ∧ s.reg.calDrop.isSome then
    let i := s.reg.calRegion
    let s := { s with reg := { s.reg with calActive := false, calDrop := none } }
    let s := (s.modRegion i fun x => { x with cal := false, tie := false, mode := .powered }).answerCal 3
    (s.groupRefs (clusterOfRegion i)).dropGuards
  else s

/-- R381 step 4: trims are stored and the tie opens; beyond the trim range the regulator is failed under condition 5. -/
def State.endRegCal (s : State) (ok : Bool) (gain offset : Nat) : State :=
  if !s.reg.calActive || s.reg.calDrop.isSome then s
  else
    let i := s.reg.calRegion
    if ok then
      let s := { s with reg := { s.reg with calActive := false } }
      let s := (s.modRegion i fun x => { x with cal := false, mode := .powered, tie := false }).groupRefs (clusterOfRegion i)
      ((s.record 0x061 (2 + field i 9 2) [gain, offset]).dropGuards).answerCal 0
    else s.failRegulator i 5

/-! Ramps that settle (R369, R370, R377). -/

/-- R369, R370, R377: a SET or START settles, or meets its limit at a code; a GATE falls below 0.10 V. An UNTIE that waited for the group
follows. -/
def State.settleSetpoint (s : State) (i : Nat) (limit : Option Nat) : State :=
  let x := s.region i
  match x.ramping with
  | none => s
  | some c =>
    let j := clusterOfRegion i
    let s := if c.op = opGate then
        ((s.setRegion i { x with ramping := none, setpt := 0, ref := 0, enabled := false, stages := false, raised := 0 }).groupRefs j).respond i c 0 none
      else
        let k := limit.getD c.arg
        ((s.setRegion i { x with ramping := none, setpt := k, ref := k }).groupRefs j).respond i c (if limit.isSome then 1 else 0) limit
    (regionsOfCluster j).foldl State.openTie s

/-! The flue's lanes (R373, R374, R412). -/

/-- The lane of a region: 6 × die + cluster row. -/
def laneOf (i : Nat) : Nat := 6 * dieOfRegion i + (clusterOfRegion i % 54) / 9

/-- A frame of the flue with its CRC (R373). -/
def flueSeal (body : Nat) : BitVec 80 := BitVec.ofNat 80 (body + field (crc8 72 body) 8 72)
def flueOk (w : BitVec 80) : Bool := decide (crc8 72 (w.toNat % 2 ^ 72) = w.toNat / 2 ^ 72)

/-- R374: a lane has delivered a valid frame. -/
def State.laneHeard (s : State) (lane : Nat) : State :=
  { s with reg := { s.reg with silent := Tbl.set false s.reg.silent lane false, heardAt := Tbl.set 0 s.reg.heardAt lane s.lt } }

end Sys2Proof.Machine
end

