-- ==== Sys2Proof/Machine/DrawOps.lean ====
section
/-! DEFINITION. The draw budget's and the damper's operations (R414 to R434), with re-pacing and thermal levels (R423, R424). Powers
in mW where a name says so. -/

namespace Sys2Proof.Machine

def State.modDraw (s : State) (f : Draw → Draw) : State := { s with draw := f s.draw }

/-- R430: the measured internal power this chapter uses. -/
def Draw.measured (d : Draw) (pInt : Nat) : Nat := if d.suspect then max pInt d.chkMw else pInt

def toMw (x : Rat) : Nat := (x * 1000).floor.toNat

/-- R417: A_int in mW and the code of the lowest cap. -/
def State.aInt (s : State) : Nat × Nat :=
  let bus := s.draw.rampMw + s.carts.dAvail
  let c := s.cap23
  if bus ≤ toMw c.1 then (bus, 1) else (toMw c.1, c.2)

/-- R419: the protection order of PRIO, most protected first: 0 compute, 1 memory, 2 links. -/
def prioOrder (p : Nat) : List Nat :=
  if p = 1 then [2, 0, 1] else if p = 2 then [1, 2, 0] else if p = 3 then [1, 0, 2] else if p = 4 then [0, 2, 1]
  else if p = 5 then [0, 1, 2] else [2, 1, 0]

/-- R419: a class stands at its floor, or at its full allowance. -/
def State.atFloor (s : State) (cls : Nat) : Bool :=
  if cls = 0 then decide (s.draw.level0 = 1) && decide (s.draw.level1 = 1) && s.powered.all fun i => decide ((s.region i).clock = 0)
  else if cls = 1 then decide (s.draw.phiM = 1) else decide (s.draw.phiL = 1)

def State.atFull (s : State) (cls : Nat) : Bool :=
  if cls = 0 then decide (s.draw.level0 = 16) && decide (s.draw.level1 = 16) &&
    s.powered.all fun i => decide (min s.draw.fMax (s.region i).cap ≤ (s.region i).clock)
  else if cls = 1 then decide (s.draw.phiM = 8) else decide (s.draw.phiL = 8)

def State.allFloors (s : State) : Bool := s.atFloor 0 && s.atFloor 1 && s.atFloor 2

/-- R417, R418: DRAW_STATUS.BIND: the module-level cap when the measured power exceeds it, else the class caps that act. -/
def State.bindCode (s : State) (pMw : Nat) : Nat :=
  let a := s.aInt
  if a.1 < pMw then a.2
  else if (s.feed.loop 0).capped then 4
  else if s.feed.capped then 5
  else if s.powered.any fun i => decide ((s.region i).therm < 16) || decide ((s.region i).cap < s.draw.fMax) then 6
  else if s.draw.brake then 7 else 0

/-- R415: P_ramp over one 10 µs interval, and LAG. -/
def State.ramp10 (s : State) : State :=
  let t := s.target
  match t.1 with
  | none => s.modDraw fun d => { d with source := t.2, lag := false }
  | some w =>
    let tgt := toMw w
    let d := s.draw
    let step := 1000 * d.ramp
    let x := if d.brake then tgt
      else if d.rampMw < tgt then min tgt (d.rampMw + step) else max tgt (d.rampMw - step)
    let x := min x (if d.brake then x else 1000 * d.limit)
    s.modDraw fun d => { d with rampMw := x, source := t.2, lag := decide (t.2 = 1) && decide (x ≠ tgt) }

/-- R349, R416, R475, R621: P_store for a measured p_int, and OVER and UNDER with their records. -/
def State.storePower (s : State) (pInt : Nat) : State :=
  if !s.ptc.hasActive && (s.pwr.closed || !s.longAbsent) then s
  else
  let p := s.draw.measured pInt
  let s := if s.pwr.closed then s.ramp10 else s
  if !s.pwr.closed then s.modDraw fun d =>
    { d with measMw := p, storeMw := if s.carts.holdsBus then min p 3000000 else 0, overDraw := false, under := false }
  else if s.svc = .saving then
    let want : Int := if s.draw.brake then max 0 ((p : Int) - 1000 * s.draw.floor) else 0
    let can := if s.carts.a.canDischarge || s.carts.b.canDischarge then 3000000 else 0
    s.modDraw fun d => { d with measMw := p, storeMw := min want can, overDraw := decide (can < want), under := false }
  else
    let want : Int := (p : Int) - s.draw.rampMw
    let x := max (-(s.carts.cAvail : Int)) (min want s.carts.dAvail)
    let short := decide ((s.carts.dAvail : Int) < want) && s.allFloors
    let under := decide (want < -(s.carts.cAvail : Int))
    let newOver := short && !s.draw.overDraw
    let newUnder := under && !s.draw.under
    let b := s.bindCode p
    let s := s.modDraw fun d => { d with measMw := p, storeMw := x, overDraw := short, under, bind := b,
                                         overEvents := if newOver then satAdd 0xFFFF d.overEvents 1 else d.overEvents }
    if newOver || newUnder then s.record 0x070 0 [if newOver then 1 else 0, if newUnder then 1 else 0] else s

/-- R416, R442: P_store, and its division between the legs. -/
def State.storeControl (s : State) (pInt : Nat) : State := (s.storePower pInt).legPowers

/-! The damper (R421 to R424). -/

def Draw.level (d : Draw) (die : Nat) : Nat := if die = 0 then d.level0 else d.level1
def Draw.setLevel (d : Draw) (die l : Nat) : Draw := if die = 0 then { d with level0 := l } else { d with level1 := l }

/-- R421: a cut to max(1, ⌊L × D ÷ E⌋), at most one in 200 ns. -/
def State.cut (s : State) (die est : Nat) : State :=
  let d := s.draw
  let last := Tbl.get 0 d.cutAt die
  if d.distrust ∨ (last ≠ 0 ∧ s.lt < last + 200) then s
  else
    let l := max 1 (d.level die * Tbl.get 0 d.allowMw die / est)
    let d := d.setLevel die l
    s.modDraw fun _ => { d with cutAt := Tbl.set 0 d.cutAt die s.lt, quietFrom := Tbl.set 0 d.quietFrom die 0 }

/-- R419, R475: compute may rise: no class that stands reduced is better protected, and absence has not lasted 5 ms at level 8. -/
def State.mayRise (s : State) (die : Nat) : Bool :=
  decide (s.draw.level die < (if s.longAbsent then 8 else 16)) &&
  ((prioOrder s.draw.prio).takeWhile fun c => decide (c ≠ 0)).all s.atFull

/-- R421: one 50 ns window of a die with its estimate. -/
def State.fastWindow (s : State) (die est : Nat) : State :=
  let s := s.modDraw fun d => { d with estDieMw := Tbl.set 0 d.estDieMw die est }
  let d := s.draw
  let a := Tbl.get 0 d.allowMw die
  if a < est then s.cut die est
  else if 100 * est ≤ 95 * a then
    let q := Tbl.get 0 d.quietFrom die
    if q = 0 then s.modDraw fun d => { d with quietFrom := Tbl.set 0 d.quietFrom die (s.lt + 1) }
    else if q + 10000 ≤ s.lt + 1 ∧ Tbl.get 0 d.riseAt die + 10000 ≤ s.lt ∧ s.mayRise die then
      s.modDraw fun _ => { d.setLevel die (d.level die + 1) with riseAt := Tbl.set 0 d.riseAt die s.lt }
    else s
  else s.modDraw fun d => { d with quietFrom := Tbl.set 0 d.quietFrom die 0 }

/-- R421: D_d: A_int less the other classes' measured power, divided as the dies' planned compute currents are. -/
def State.allowances (s : State) (other : Nat) : State :=
  let a := s.aInt.1 - other
  let l := s.loadNow
  let c0 := ratSum ((List.range 54).map l.cur)
  let c1 := ratSum ((List.range 54).map fun P => l.cur (54 + P))
  let d0 := if c0 + c1 = 0 then a / 2 else ((a : Rat) * c0 / (c0 + c1)).floor.toNat
  s.modDraw fun d => { d with allowMw := Tbl.set 0 (Tbl.set 0 d.allowMw 0 d0) 1 (a - d0) }

/-- R419: the class whose turn it is to be reduced: the least protected one above its floor. -/
def State.turn (s : State) : Option Nat := (prioOrder s.draw.prio).reverse.find? fun c => !s.atFloor c

/-- R419: one step of a class: memory and links by an eighth; compute by R422's cut. -/
def State.reduce (s : State) (cls value : Nat) : State :=
  if cls = 1 then s.modDraw fun d => { d with phiM := d.phiM - 1 }
  else if cls = 2 then s.modDraw fun d => { d with phiL := d.phiL - 1 }
  else s.modDraw fun d => { d with level0 := max 1 (d.level0 * s.aInt.1 / value), level1 := max 1 (d.level1 * s.aInt.1 / value) }

/-- R419: restoring: the most protected class that stands reduced; compute rises under R421 and R423. -/
def State.restore1 (s : State) : State :=
  match (prioOrder s.draw.prio).find? fun c => !s.atFull c with
  | some 1 => s.modDraw fun d => { d with phiM := d.phiM + 1 }
  | some 2 => s.modDraw fun d => { d with phiL := d.phiL + 1 }
  | _ => s

/-- R401, R418: the class caps of rails at their slow limits: compute is held below VFEED's limit, memory and links step down. -/
def State.railCaps (s : State) : State :=
  let f := s.feed
  let x := f.loop 0
  let lim := 400 * (f.working 0).length
  let s := if x.capped ∧ lim < x.mean then s.modDraw fun d =>
      { d with level0 := max 1 (d.level0 * lim / x.mean), level1 := max 1 (d.level1 * lim / x.mean) } else s
  let capped := fun cls => [1, 2, 3, 4, 5, 6].any fun r => (f.loop r).capped && decide ((railSpec (railIndex r)).cls = some cls)
  let s := if capped 1 then s.modDraw fun d => { d with phiM := max 1 (d.phiM - 1) } else s
  if capped 2 then s.modDraw fun d => { d with phiL := max 1 (d.phiL - 1) } else s

/-- R419, R422: the slow path on a measured p_int; `other` is the measured memory, link, edge and auxiliary power. -/
def State.slowPath (s : State) (pInt other : Nat) : State :=
  if !s.ptc.hasActive then s
  else
  let p := s.draw.measured pInt
  let value := if s.draw.distrust then p * (100 + s.draw.guard) / 100 else p
  let s := (s.allowances other).railCaps
  let a := s.aInt.1
  if a < value then
    match s.turn with
    | some c => s.reduce c value
    | none => s
  else if 20 * value < 19 * a ∧ s.feed.capped = false then s.restore1 else s

/-- R424: the thermal level and the clock cap of a region at its beat boundary. -/
def Region.thermal (x : Region) (fMax : Nat) : Region :=
  if 95 ≤ x.temp then
    if x.clock = 0 then { x with therm := max 1 (x.therm - 2) } else { x with cap := x.cap - 4 }
  else if x.temp ≤ 90 then
    if x.therm < 16 then { x with therm := min 16 (x.therm + 2) } else { x with cap := min fMax (x.cap + 1) }
  else x

/-- R423: the clock a region takes at a beat boundary: lowered for a mean level of 12 or less, raised by 100 MHz after a beat at
16 where R424 and the estimate permit. The first part is the new clock, the second whether it waits for the ACK. -/
def State.repace (s : State) (i : Nat) : Nat × Bool :=
  let x := s.region i
  let die := dieOfRegion i
  let d := s.draw
  let low := x.levelN ≠ 0 ∧ x.levelSum ≤ 12 * x.levelN
  let high := x.levelN ≠ 0 ∧ x.levelSum = 16 * x.levelN
  let top := min d.fMax x.cap
  if low then
    let f := 24 + x.clock
    (min top (f * x.levelSum / (16 * x.levelN) - 24), false)
  else if top < x.clock then (top, false)
  else if high ∧ x.temp < 95 ∧ 10 * Tbl.get 0 d.estDieMw die ≤ 9 * Tbl.get 0 d.allowMw die then (min top (x.clock + 4), true)
  else (x.clock, false)

/-- R111, R423: a clock change: counted. R111 lets it take at most 100 ns LT; here it takes all of them (log entry 134). -/
def State.changeClock (s : State) (i k : Nat) : State :=
  if (s.region i).clock = k then s.modRegion i fun x => { x with nextClock := none }
  else (s.modRegion i fun x => { x with clock := k, nextClock := none, changeTill := s.lt + 100 }).modDraw
    fun d => { d with repaces := satAdd 0x3FFFF d.repaces 1 }

/-- R209: the longest beat of the RUNNING contexts that a region serves. -/
def State.regionBeat (s : State) (i : Nat) : Nat :=
  (s.runningSlots.filter fun n => decide (i ∈ s.regionsOf n)).foldl (fun m n => max m (s.slot n).step.beatLen) 0

/-- R209, R423, R424, R611: what a beat boundary at rack time t does to a region that serves a RUNNING context: its thermal level and cap,
and at most one change of its clock in a beat of any of its contexts (log entry 134). During absence caps and clocks hold (R475). -/
def State.boundaryRegion (s : State) (i t : Nat) : State :=
  if !s.ptc.hasActive then s.modRegion i fun y => { y with levelSum := 0, levelN := 0 }
  else
  let s := s.modRegion i fun x => if s.cool.noFlow then { x with cap := 0, therm := min x.therm 8 } else x.thermal s.draw.fMax
  let x := s.region i
  let set := fun (s : State) (k : Nat) => s.ringCommand i { op := opSet, seq := s.nextSeq i, arg := s.draw.code k, slew := 2 }
  let r := s.repace i
  let s := if t < x.changeNext then s else match x.nextClock with
    | some k => if x.setWaits then s else if x.setpt < s.draw.code k then s.modRegion i fun y => { y with nextClock := none }
      else s.changeClock i (min k (min s.draw.fMax x.cap))
    | none =>
      if r.1 < x.clock then set (s.changeClock i r.1) r.1
      else if x.clock < r.1 ∧ r.2 = true then set (s.modRegion i fun y => { y with nextClock := some r.1 }) r.1
      else s
  let s := if (s.region i).clock = x.clock then s else s.modRegion i fun y => { y with changeNext := t + s.regionBeat i }
  s.modRegion i fun y => { y with levelSum := 0, levelN := 0 }

/-! Distrust and the sensor check (R429, R430). -/

/-- |a − b|. -/
def gap (a b : Nat) : Nat := (a - b) + (b - a)

def State.beginDistrust (s : State) (cause : Nat) : State :=
  if s.draw.distrust then s
  else (s.modDraw fun d => { d with distrust := true, distrusts := satAdd 0xFF d.distrusts 1, agreeFrom := none }).record 0x070 1 [cause]

/-- R429: a 10 µs sample of the estimate and the measurement. -/
def State.distrustCheck (s : State) (est meas : Nat) : State :=
  if !s.ptc.hasActive then s
  else
  let meas := s.draw.measured meas
  let s := s.modDraw fun d =>
    { d with estMw := est, measMw := meas, forced := d.forced.filter fun t => decide (s.lt < t + 10000000),
             disFrom := if 25 * meas < 100 * gap est meas then some (d.disFrom.getD s.lt) else none,
             agreeFrom := if 100 * gap est meas ≤ 10 * meas then some (d.agreeFrom.getD s.lt) else none }
  let d := s.draw
  let long := match d.disFrom with
    | some t => decide (t + 1000000 ≤ s.lt)
    | none => false
  let done := match d.agreeFrom with
    | some t => decide (t + 100000000 ≤ s.lt)
    | none => false
  if long then s.beginDistrust 0
  else if 4 ≤ d.forced.length then s.beginDistrust 1
  else if d.distrust && done then s.modDraw fun d => { d with distrust := false }
  else s

/-- R430: p_chk in mW: VIN × IPH × DUTY of the working phases as they reported them, through η_B, and AUX_W. -/
def State.pChk (s : State) : Nat :=
  let ks := (List.range 76).filter fun k => decide ((s.feed.phase k).mode ≠ .failed)
  let sum := ks.foldl (fun a k => let p := s.feed.phase k; a + p.vin * p.iph * p.duty) 0
  toMw ((sum : Rat) * (20 * 125 / 2 : Rat) / 1000000 / 1024 / milli s.pwr.etaB + s.pwr.auxW)

/-- R430: a 10 µs sample of p_int against p_chk. -/
def State.sensorCheck (s : State) (pInt : Nat) : State :=
  if !s.ptc.hasActive then s
  else
  let pChk := s.pChk
  let s := s.modDraw fun d =>
    { d with chkMw := pChk,
             senseFrom := if 10 * pInt < 100 * gap pInt pChk then some (d.senseFrom.getD s.lt) else none,
             okFrom := if 100 * gap pInt pChk ≤ 5 * pInt then some (d.okFrom.getD s.lt) else none }
  let d := s.draw
  let long := match d.senseFrom with
    | some t => decide (t + 1000000 ≤ s.lt)
    | none => false
  let done := match d.okFrom with
    | some t => decide (t + 100000000 ≤ s.lt)
    | none => false
  if long && !d.suspect then (s.modDraw fun d => { d with suspect := true }).record 0x070 2 [openDiv pInt 1000, openDiv pChk 1000]
  else if done && d.suspect then s.modDraw fun d => { d with suspect := false }
  else s

/-! Trajectories (R431, R432). -/

/-- Strictly ascending times. -/
def ascending : List TrajPoint → Bool
  | p :: q :: t => decide (p.rt < q.rt) && ascending (q :: t)
  | _ => true

/-- R431: why a trajectory is refused: times out of order, or the first already past. -/
def State.trajOk (s : State) (ps : List TrajPoint) : Bool :=
  ascending ps && decide (ps ≠ []) && decide (s.rt.now.toNat ≤ (ps.headD { rt := 0, w := 0 }).rt)

/-- R431, R432: a trajectory that is accepted is journalled and replaces the pending one (R479). -/
def State.takeTraj (s : State) (id : Nat) (ps : List TrajPoint) : State :=
  if s.trajOk ps then
    let t : Traj := { id, points := ps.map fun p => { p with w := max 600 (min 2900 p.w) } }
    { s with ptc := { s.ptc with trajs := t :: s.ptc.trajs } }.modDraw fun d => { d with pend := some t }
  else s.modDraw fun d => { d with refused := satAdd 0xFFFF d.refused 1 }

/-- R432: the pending trajectory comes into force at its first point's time. -/
def State.trajInForce (s : State) : State :=
  match s.draw.pend with
  | some t => if (t.points.headD { rt := 0, w := 0 }).rt ≤ s.rt.now.toNat then
      s.modDraw fun d => { d with traj := some t, pend := none } else s
  | none => s

/-! CEILING (R414, R439). -/

def State.setCeiling (s : State) (w : Nat) (rack : Bool) : State :=
  if w < 600 ∨ 2900 < w then (if rack then s else s.record 0x012 (2 + field 0x82000 24 8) [0, w])
  else (s.modDraw fun d => { d with ceiling := w }).record 0x012 (1 + field 0x82000 24 8) [if rack then 1 else 0, w]

/-! Telemetry (R437, R438). -/

def Peaks.add (p : Peaks) (a : TelAvg) : Peaks := { p := max p.p a.p, i := max p.i a.i, v := min p.v a.v, t := max p.t a.t }

/-- R574: what a 1 ms window does to the PMBus status bytes and the energy accumulator: input power above CEILING (bit 0), a region at
95 °C (warning, bit 6) or 105 °C (fault, bit 7). -/
def Tray.window (t : Tray) (a : TelAvg) (ceiling : Nat) : Tray :=
  { t with ein := t.ein + a.p, einN := t.einN + 1, stInput := t.stInput ||| (if ceiling < a.p then 0x01 else 0),
           stTemp := t.stTemp ||| (if 95 ≤ a.t then 0x40 else 0) ||| (if 105 ≤ a.t then 0x80 else 0) }

/-- R359: what a rail reads in mV at a sample with the bus at mv; measured values are open within what R348, R349, R352 and R354 say of them. -/
def State.railMv (s : State) (i mv : Nat) : Nat :=
  let x := s.rail i
  let spec := railSpec i
  let free := Config.freeNat (s.free + i)
  let node := if x.state = 3 then 47000 + free % 2001 else mv - free % 101
  if x.state = 0 then 0
  else if x.state = 2 then free % 65536
  else if i = 0 then node
  else if i = 1 then (let v := (s.rail 0).mv / 4; v - free % (v / 100 + 1))
  else if i = 3 then ((s.meanV s.powered) * 1000).floor.toNat
  else match feedRail i with
    | some r => if (s.feed.loop r).uv = 0 then spec.lo + free % (spec.hi + 1 - spec.lo) else openDiv (s.feed.loop r).uv 1000
    | none => spec.lo + free % (spec.hi + 1 - spec.lo)

/-- R359: a rail's current in 10 mA: of the phase-fed rails and VCORE the sum that the flues report. -/
def State.railCur (s : State) (i : Nat) : Nat :=
  if (s.rail i).state = 0 then 0
  else if i = 3 then openDiv (25 * s.powered.foldl (fun a q => a + (s.region q).iout) 0) 4
  else match feedRail i with
    | some r => openDiv (25 * s.feed.current r) 4
    | none => Config.freeNat (s.free + 12 + i) % ((railSpec i).peak + 1)

/-- R359: every 1 ms LT the rails are sampled, VBUS_INT first. -/
def State.sampleRails (s : State) (mv : Nat) : State :=
  let t := (List.range 12).foldl (fun a i => a.modRail i fun r => { r with mv := a.railMv i mv, cur := a.railCur i }) s
  { t with free := s.free + 24 }

/-- R438: the end of a 1 ms window, and of the 1 s window it completes. -/
def State.windowEnd (s : State) (a : TelAvg) : State :=
  { s with tray := s.tray.window a s.draw.ceiling }.modDraw fun d =>
    let q : TelAvg := { v := d.sumS.v + a.v, i := d.sumS.i + a.i, p := d.sumS.p + a.p, t := max d.sumS.t a.t }
    let full := decide (d.nS + 1 = 1000)
    { d with avgMs := a, tMax := 0, peaks := d.peaks.add a, rackPeaks := d.rackPeaks.add a, intAvg := (d.measMw :: d.intAvg).take 10,
             avgS := if full then { v := openDiv q.v 1000, i := openDiv q.i 1000, p := openDiv q.p 1000, t := q.t } else d.avgS,
             sumS := if full then TelAvg.reset else q, nS := if full then 0 else d.nS + 1 }

/-- R357, R437: one fast entry, with the forward bus draw and current of the beat in force. -/
def State.telFast (s : State) (busW : Nat) : State :=
  let e : TelFast := { rt := s.rt.now, meas := busW, tgt := openDiv s.draw.rampMw 1000, store := openDivInt s.draw.storeMw 1000,
                       fwd := openDiv s.forwardNow.num.toNat s.forwardNow.den }
  let bus : Int := (toMw s.forwardNow : Int) - s.draw.storeMw
  s.modDraw fun d => { d with fwdBusMw := bus, fwdBusMa := bus * 1000 / (max 1 s.pwr.busMv : Nat),
                              tel := Tbl.set TelFast.reset d.tel (d.telCount % 256) e, telLast := d.telCount % 256,
                              telCount := d.telCount + 1 }

/-- TEL_PEAK as a word (R439). -/
def Peaks.word (p : Peaks) : Nat := field p.p 16 0 + field p.i 16 16 + field p.v 16 32 + field p.t 8 48

end Sys2Proof.Machine
end

