-- ==== Sys2Proof/Machine/PwrOps.lean ====
section
/-! DEFINITION. Denied accesses, records whose TYPE no table gives, the routes to OFF and INIT, and rail faults (R23, R345, R355,
R540, R563). -/

namespace Sys2Proof.Machine

/-- R345, R540: a denied access: window 0 CW, 1 DW, 2 MW; event 0 R345, 1 R507. -/
def State.deny (s : State) (fn win event off : Nat) (write : Bool) : State :=
  let h := s.host
  let h := { h with denyCw := if win = 0 then satAdd 0xFFFF h.denyCw 1 else h.denyCw,
                    denyDw := if win = 1 then satAdd 0xFFFF h.denyDw 1 else h.denyDw,
                    denyMw := if win = 2 then satAdd 0xFFFF h.denyMw 1 else h.denyMw,
                    denyLast := BitVec.ofNat 64 (field fn 6 0 + field win 2 6 + flag1 write 8 + field off 48 9) }
  { s with host := h }.record 0x013 (field fn 6 0 + field win 2 6 + field event 1 8 + field off 48 9) []

/-- R537: an access that breaks the rules of the control window. -/
def State.badAcc (s : State) : State := { s with host := { s.host with badAcc := s.host.badAcc + 1#32 } }

/-- The host port is up and the function decodes its windows (R19, R534, R563, R598). -/
def State.hostUp (s : State) (fn : Nat) : Bool :=
  decide (s.svc ≠ .off) && !s.tray.pwrReq && !s.host.perst && !Tbl.get false s.host.d3hot fn

/-- What a function does through its windows: nothing arrives while they are unreachable. -/
def State.byHost (s : State) (fn : Nat) (act : State → State) : State := if s.hostUp fn then act s else s

/-- What arrives over the management signals and the test access port, which run from VAUX (R577). -/
def State.onTray (s : State) (act : State → State) : State := if s.svc = .off then s else act s

/-- A write that only the physical function may make (R539); otherwise it is denied. -/
def State.gated (s : State) (fn off : Nat) (act : State → State) : State :=
  s.byHost fn fun s => if fn = 0 then act s else s.deny fn 0 0 off true

/-! OFF and INIT (R23, R494, R577). -/

/-- R23, R577: the bus lies within 44–58 V at the connector. -/
def busOk (mv : Nat) : Bool := decide (44000 ≤ mv) && decide (mv ≤ 58000)

/-- RST_LAST (R521). -/
def Rst.lastWord (r : Rst) : Nat :=
  field r.lastLevel 3 0 + flag1 r.lastEsc 3 + flag1 r.lastBenched 4 + field r.lastCause 8 8 + field r.lastTarget 11 16 +
  field r.drained 16 32 + field r.lastMs 16 48

/-- What a bay is after a loss of power: the cartridge as it stands, the leg isolated. -/
def Bay.unpowered (x : Bay) : Bay :=
  { Bay.reset with cells := x.cells, pack := x.pack, temps := x.temps, cap := x.cap, esr := x.esr, serial := x.serial, typeOk := x.typeOk }

/-- R88, R94: the target masks as they stand after a loss of power, the reset value of the active masks. -/
def State.targets (s : State) : Tbl (BitVec 36) :=
  (List.range 48).foldl (fun t r => Tbl.set 0#36 t r (Tbl.get 0#36 s.grid.fuse r ||| (s.keep (keepRetire r)).extractLsb' 0 36)) []

/-- What outlives a loss of power: keep registers, the recorder, the ember store, the firmware slots, the arbiter's log, the
cartridges' charge, and what the tray connector shows (R494, R532, R582). -/
def State.persist (s : State) : State :=
  let r := s.recorder
  { State.reset with
    pending := s.pending, free := s.free, out := s.out, lt := s.lt,
    grid := { Grid.reset with fuse := s.grid.fuse, active := s.targets },
    carts := { Carts.reset with a := s.carts.a.unpowered, b := s.carts.b.unpowered, deepSerials := s.carts.deepSerials },
    ptc := { Ptc.reset with fwA := { s.ptc.fwA with failCause := 0, resyncFails := 0 },
                            fwB := { s.ptc.fwB with failCause := 0, resyncFails := 0 },
                            img0 := s.ptc.img0, img1 := s.ptc.img1, arbLog := s.ptc.arbLog }
    rst := { Rst.reset with dumps := s.rst.dumps, dumpSeq := s.rst.dumpSeq, saveValid := s.rst.saveValid,
                            saveComplete := s.rst.saveComplete, saveParts := s.rst.saveParts,
                            saveSize := s.rst.saveSize, benchNext := s.rst.benchNext,
                            prevLast := if s.tray.pwrReq then BitVec.ofNat 64 s.rst.lastWord else 0#64 },
    recorder := { Recorder.reset with ring := r.ring, head := r.head, nextSeq := r.nextSeq, tailSeq := r.tailSeq, tail := r.tail,
                                      wrapped := r.wrapped, opMs := r.opMs, pcyc := r.pcyc },
    host := { HostIf.reset with keep := s.host.keep, keepCount := s.host.keepCount, serial := s.host.serial, perst := s.host.perst },
    tray := { Tray.reset with slotId := s.tray.slotId, sensors := s.tray.sensors },
    mem := { MemSys.reset with fuse := s.mem.fuse },
    up := BringUp.reset,
    cool := { Cool.reset with dp := s.cool.dp, stackTrip := s.cool.stackTrip } }

/-- R23: the module enters OFF. -/
def State.goOff (s : State) : State :=
  let s := (s.setService .off s.degrade).persist
  { s with svc := .off, up := { s.up with phase := 0 }, pwr := { s.pwr with closed := false } }

/-- R621: with both cartridges out of service and the input stage open a save ends, and the module goes to OFF. -/
def State.saveEnds (s : State) : State :=
  if s.svc = .saving ∧ s.pwr.closed = false ∧ s.carts.a.state.serves = false ∧ s.carts.b.state.serves = false then s.goOff else s

/-- R26, R519: the count stands at its limit: LATCH is set, or enough entries are recent. -/
def State.benchAtLimit (s : State) : Bool :=
  (s.keep keepBench).getLsbD 16 || decide (s.benchLimit ≤ s.benchCount)


/-- R350, R577 steps 1 to 3, R23: INIT starts: the stage has closed, VBUS_INT and VAUX are there, PCYC advances on the way from OFF (R523), POWER_ON is written,
the checkpoint buffers and the journal are empty. -/
def State.startInit (s : State) : State :=
  let q := s.persist
  let r := q.recorder
  let pc := if s.svc = .off then r.pcyc + 1#24 else r.pcyc
  let q := { q with svc := s.svc, degrade := s.degrade, recorder := { r with pcyc := pc, tickAt := s.lt, second := r.opMs / 1000 }, pwr := { q.pwr with closed := true },
                    feed := { q.feed with slotPh := q.tray.slotId }, up := { q.up with initAt := s.lt } }
  let t := ((q.railsState [0, 11] 1).record 0x001 pc.toNat [q.rst.prevLast.toNat]).setService .init 0#5
  { t with host := { t.host with changes := 0#32 } }

/-! Rail faults (R355, R402, R498). -/

/-- R355, R402, R579: a rail fault; in INIT it is a failure of power-on. In the L3 of a tier-2 rail's fault tier 2 is filled too. -/
def State.railFault (s : State) (i : Nat) : State :=
  let s := (s.modRail i fun x => { x with state := 2, faults := satAdd 0xFF x.faults 1 }).record 0x060 (2 + field i 4 2) [i]
  if s.svc = .init then
    if Tbl.get false s.up.retried i then s.powerCycle 0x0A
    else { s with up := { s.up with retried := Tbl.set false s.up.retried i true } }
  else
    let t := s.ownReset 3 0 0x0A
    if (i = 7 ∨ i = 8) ∧ t.rst.runs.any (fun r => decide (r.level = 3)) then
      { t with mem := { t.mem with t2Filled := false, t2Kept := false } }
    else t

end Sys2Proof.Machine
end

