-- ==== Sys2Proof/Machine/FeedOps.lean ====
section
/-! DEFINITION. The feed stage's operations (R388 to R412): the control law, phase counts, FORCED, failures, coefficients. Currents
in A and voltages in mV as exact rationals. -/

namespace Sys2Proof.Machine

def State.modFeed (s : State) (f : Feed → Feed) : State := { s with feed := f s.feed }
def State.modPhase (s : State) (k : Nat) (f : Phase → Phase) : State := s.modFeed fun x => x.setPhase k (f (x.phase k))

/-! Feed-forward (R389). -/

/-- i_plan for a planned load. -/
def State.vfeedAmps (s : State) (l : PlanLoad) : Rat := (s.pComp l s.idleRegions + s.pEdge l) / milli s.pwr.etaR / (9 / 5)

/-- i_plan(t), t in ns RT. -/
def State.iPlan (s : State) (t : Nat) : Rat := s.vfeedAmps (s.loadAt t)

/-- i_flue: IOUT is in 62.5 mA, VOUT in mV. -/
def State.iFlue (s : State) : Rat :=
  let p : Nat := s.powered.foldl (fun a i => a + (s.region i).iout * (s.region i).vout) 0
  (((p : Rat) / 16000) + s.pEdge s.loadNow) / milli s.pwr.etaR / (9 / 5)

/-! Phase counts (R395 to R397). -/

/-- R395: the rack times, from now on, at which a planned record of slot n takes effect within its look-ahead. -/
def State.lookTimes (s : State) (n : Nat) : List Nat :=
  let x := s.slot n
  let now := s.rt.now.toNat
  let l := max 1 x.step.beatLen
  let k := if l < 4000 then (8000 + l - 1) / l else 2
  let own := (List.range (k + 1)).map fun i => max now (x.step.boundary (x.step.beat + i))
  match x.step.next with
  | some (rel, q) =>
    let at_ := rel + s.rt.offset.toNat
    own ++ ((List.range (k + 1)).map fun i => at_ + i * beatLenAt x.prog q).filter fun t => decide (now ≤ t) && decide (t ≤ now + k * l)
  | none => own

/-- R395: the largest i_plan of the beat now starting and the beats of the look-ahead. -/
def State.planF (s : State) : Rat :=
  let now := s.iPlan s.rt.now.toNat
  ((s.runningSlots.flatMap s.lookTimes).map s.iPlan).foldl (fun m x => if m < x then x else m) now

/-- R395: F: that, or 1.1 × the measured current. -/
def State.feedF (s : State) : Rat :=
  let meas : Rat := 11 * (s.feed.current 0 : Rat) / 160
  if s.planF < meas then meas else s.planF

/-- R396, R397: a rise in F lies within the look-ahead. -/
def State.feedRises (s : State) : Bool := decide (s.iPlan s.rt.now.toNat < s.planF)

/-- R395: N. -/
def State.feedN (s : State) : Nat :=
  let f := s.feed
  let n := (4 * s.feedF / (f.iShed : Rat)).ceil.toNat + f.headroom
  min (f.working 0).length (max f.nMin n)

/-- R396: VFEED phases of a list are added: they start in ENTERING. -/
def Feed.add (f : Feed) (ks : List Nat) : Feed :=
  let g := ks.foldl (fun f k => f.setPhase k { f.phase k with mode := .entering, entered := 0, trim := 0, target := 0 }) f
  { g with added := ks.reverse ++ g.added.filter (fun k => !ks.contains k), respace := true }

/-- R395, R396, R397: at a beat boundary or a change of the sum of plans: N is computed, missing phases are added, and phases in
DEM return when F rises. -/
def State.feedRequire (s : State) : State :=
  let n := s.feedN
  let f := { s.feed with nReq := n, planned := s.runningSlots,
                         lowFrom := if n < s.feed.nAct 0 then some (s.feed.lowFrom.getD s.lt) else none }
  let rises := s.feedRises
  let f := if rises then (f.active 0).foldl (fun f k => if (f.phase k).mode = .dem then f.setPhase k { f.phase k with mode := .ccm } else f) f
    else f
  let idle := (railPhases 0).filter fun k => (f.phase k).mode = .shed
  { s with feed := f.add (idle.take (n - f.nAct 0)) }

/-- R396: one phase is shed, the newest first, at most one in a switching cycle, once N has stayed lower for SHED_HOLD. -/
def State.shedOne (s : State) : State :=
  let f := s.feed
  let held := match f.lowFrom with
    | some t => decide (t + 1000 * f.shedHold ≤ s.lt)
    | none => false
  if f.forced ∨ f.nAct 0 ≤ f.nReq ∨ s.feedRises ∨ held = false ∨ s.lt < f.shedAt + 2000 then s
  else
    match (f.added ++ (f.active 0).reverse).find? fun k => (f.phase k).mode.acts && decide ((f.phase k).mode ≠ .follow) with
    | none => s
    | some k =>
      let g := f.setPhase k { f.phase k with mode := .shed, target := 0, trim := 0 }
      { s with feed := { g with added := g.added.erase k, respace := true, shedAt := s.lt } }

/-! FORCED (R398). -/

/-- Every working phase in SHED or DEM is added or returned to CCM. -/
def Feed.force (f : Feed) : Feed :=
  let f := (f.active 0).foldl (fun f k => if (f.phase k).mode = .dem then f.setPhase k { f.phase k with mode := .ccm } else f) f
  f.add ((railPhases 0).filter fun k => (f.phase k).mode = .shed)

/-- R398, R429: an entry to FORCED. -/
def State.forcedEntry (s : State) (iDem : Rat) : State :=
  if s.feed.forced then { s with feed := { s.feed.force with forcedAt := s.lt } }
  else
    let n := s.feed.nAct 0
    let s := { s with feed := { s.feed.force with forced := true, forcedAt := s.lt, unplanned := satAdd 0xFFF s.feed.unplanned 1 },
                      draw := { s.draw with forced := s.lt :: s.draw.forced } }
    s.record 0x062 1 [n, iDem.floor.toNat]

/-! Slow limits (R401). -/

/-- One more sample of a rail's current, and the ends of its windows. -/
def Feed.limits (f : Feed) (r : Nat) : Feed :=
  let w := (f.working r).length
  let x := f.loop r
  let c := f.current r
  let n10 := x.n10 + 1
  let nMs := x.nMs + 1
  let s10 := x.sum10 + c
  let sMs := x.sumMs + c
  let end10 := decide (n10 = 20)
  let endMs := decide (nMs = 2000)
  let over10 := end10 && decide (35 * 16 * w * 20 ≤ s10)
  let overMs := endMs && decide (25 * 16 * w * 2000 ≤ sMs)
  let low := x.low && !(end10 && decide (100 * s10 > 95 * (25 * 16 * w * 20)))
  f.setLoop r { x with
    sum10 := if end10 then 0 else s10, n10 := if end10 then 0 else n10, sumMs := if endMs then 0 else sMs,
    nMs := if endMs then 0 else nMs, low := endMs || low, mean := if endMs then sMs / 2000 else x.mean,
    capped := over10 || overMs || (x.capped && !(endMs && low)) }

/-! The control law (R388). -/

def clampRat (lo hi x : Rat) : Rat := if x < lo then lo else if hi < x then hi else x

/-- v_set in mV (R354). -/
def vSet (r : Nat) : Rat := (railSpec (railIndex r)).nom

/-- What targets returning, and a sample passed, do to a phase's mode: HOLD ends (R407), ENTERING reaches CCM after one switching
cycle of four samples (R387, log entry 21). -/
def Phase.sampled (p : Phase) : Phase :=
  match p.mode with
  | .hold => { p with mode := .ccm }
  | .entering => if 3 ≤ p.entered then { p with mode := .ccm } else { p with entered := p.entered + 1 }
  | _ => p

/-- i_meas: a phase in FOLLOW counts as i_dem ÷ n_act (R405). -/
def Feed.reported (f : Feed) (r : Nat) (iDem : Rat) : Rat :=
  (railPhases r).foldl (fun a k =>
    let p := f.phase k
    a + (if p.mode = .follow then iDem / ((max 1 (f.nAct r) : Nat) : Rat) else (p.iph : Rat) / 16)) 0

/-- R388: one sample of a rail with its voltage in µV. -/
def State.loopSample (s : State) (r uv : Nat) : State :=
  if s.ptc.absent ∨ !s.ptc.hasActive then s
  else
    let f := (railPhases r).foldl (fun f k => f.setPhase k (f.phase k).sampled) s.feed
    let c := f.coef r
    let x := f.loop r
    let n := f.nAct r
    let vm : Rat := (uv : Rat) / 1000
    let iMeas := f.reported r x.iDem
    let vref := vSet r - (c.rll : Rat) * iMeas / 1000
    let e := vref - vm
    let lim : Rat := c.accLim
    let acc := clampRat (-lim) lim (x.acc + (c.ki : Rat) / 16384 * e)
    let fb := (c.kp : Rat) / 1024 * e + acc + (c.kd : Rat) / 256 * (e - x.ePrev)
    let ff : Rat := if r = 0 then (c.kffPlan : Rat) / 256 * s.iPlan (s.rt.now.toNat + 125 * c.ffLead) + (c.kffFlue : Rat) / 256 * s.iFlue
      else 0
    let iDem := clampRat 0 ((n : Rat) * 35) (ff + (n : Rat) * fb)
    let f := f.setLoop r { x with acc, ePrev := e, iDem, uv, sampledAt := s.lt }
    let f := (f.active r).foldl (fun f k =>
      let p := f.phase k
      let t := if p.mode = .follow then p.target else clampRat 0 (if p.hot then 25 else 35) (iDem / (n : Rat) + p.trim)
      let m := if p.mode = .dem ∧ 5 ≤ t then .ccm else p.mode
      f.setPhase k { p with target := t, base := t, mode := m, low := if t < 3 then p.low + 1 else 0 }) f
    let s := { s with feed := f.limits r }
    if r = 0 ∧ (vm + 25 < vref ∨ (n : Rat) * 30 < iDem) then s.forcedEntry iDem else s

/-- R390: the trim of a rail's CCM phases. -/
def Feed.trimUpdate (f : Feed) (r : Nat) : Feed :=
  let ks := (railPhases r).filter fun k => (f.phase k).mode = .ccm
  let mean : Rat := if ks.isEmpty then 0 else ((ks.foldl (fun a k => a + (f.phase k).iph) 0 : Nat) : Rat) / 16 / (ks.length : Rat)
  ks.foldl (fun f k =>
    let p := f.phase k
    f.setPhase k { p with trim := clampRat (-3) 3 (p.trim + (mean - (p.iph : Rat) / 16) / 16) }) f

/-! Placement (R391 to R394). -/

/-- R392: ns from the VRSYNC edge to the turn-on in firing slot j of n of a rail. -/
def Feed.turnOn (f : Feed) (r n j : Nat) : Rat :=
  (f.slotPh : Rat) * (2000 / 448) + (if r = 0 then 0 else 1000 / 56) + (j : Rat) * 2000 / ((max 1 n : Nat) : Rat)

/-- R392: the active phases of a rail turn on at their slots. -/
def Feed.timed (f : Feed) (r : Nat) : Feed :=
  (f.active r).foldl (fun g k => g.setPhase k { g.phase k with turnOn := f.turnOn r (f.nAct r) (g.phase k).slot }) f

/-- R391: the active phases of a rail move on by one slot. -/
def Feed.rotate (f : Feed) (r : Nat) : Feed :=
  let n := f.nAct r
  ((f.active r).foldl (fun f k => f.setPhase k { f.phase k with slot := ((f.phase k).slot + 1) % max 1 n }) f).timed r

/-- R392, R393: the slots of every rail are spaced anew. -/
def Feed.place (f : Feed) : Feed :=
  (List.range 7).foldl (fun f r =>
    (((f.active r).zipIdx).foldl (fun f kj => f.setPhase kj.1 { f.phase kj.1 with slot := kj.2 }) f).timed r) { f with respace := false }

/-! Failures (R400, R404 to R406). -/

/-- R400, R406: a phase fails; a privileged rail left with no working phase has a rail fault. -/
def State.phaseFail (s : State) (k cause : Nat) : State :=
  let p := s.feed.phase k
  if p.mode = .failed then s
  else
    let f := s.feed.setPhase k { p with mode := .failed, cause, target := 0, trim := 0 }
    let f := { f with added := f.added.erase k, respace := true }
    let s := { s with feed := f }
    let r := railOfPhase k
    if r ≠ 0 ∧ (f.working r).isEmpty then s.railFault (railIndex r) else s

/-- R404 step 2: for VFEED with W > n_act one shed phase is added. -/
def State.replacePhase (s : State) (k : Nat) : State :=
  if railOfPhase k ≠ 0 then s
  else { s with feed := s.feed.add (((railPhases 0).filter fun j => (s.feed.phase j).mode = .shed).take 1) }

/-- Every phase stops with both switches open (R402, R403). -/
def Feed.stopAll (f : Feed) : Feed :=
  (List.range 76).foldl (fun f k =>
    let p := f.phase k
    if p.mode = .failed then f else f.setPhase k { p with mode := .shed, target := 0, trim := 0 }) { f with added := [] }

/-! Coefficients (R408 to R411). -/

/-- R408: a code inside its range. -/
def coefInRange (r i v : Nat) : Bool :=
  if i = 0 then decide (16 ≤ v) && decide (v ≤ 1024)
  else if i = 1 ∨ i = 2 then decide (v ≤ 1024)
  else if i = 3 ∨ i = 4 then decide (r = 0) && decide (v ≤ 256)
  else if i = 5 then decide (v ≤ 100)
  else if i = 6 then decide (v ≤ 35)
  else decide (r = 0) && decide (v ≤ 255)

def Coef.put (c : Coef) (i v : Nat) : Coef :=
  if i = 0 then { c with kp := v } else if i = 1 then { c with ki := v } else if i = 2 then { c with kd := v }
  else if i = 3 then { c with kffPlan := v } else if i = 4 then { c with kffFlue := v } else if i = 5 then { c with rll := v }
  else if i = 6 then { c with accLim := v } else { c with ffLead := v }

/-- R408: the constraint a set breaks, none when it is stable. -/
def Coef.broken (c : Coef) : Option Nat :=
  if c.kp < 16 ∨ 1024 < c.kp then some 0
  else if c.kp < c.ki then some 1
  else if c.kp < c.kd then some 2
  else if 256 < c.kffPlan + c.kffFlue then some 3
  else none

/-- R409: a write of coefficient i of rail r. -/
def State.coefWrite (s : State) (r i v : Nat) : State :=
  let note := fun (s : State) (res con : Nat) =>
    s.modFeed fun f => { f with result := res, resRail := r, resCoef := i, constraint := con }
  if s.ptc.switching then note s 4 0
  else if 7 ≤ r ∨ !coefInRange r i v then note s 3 0
  else
    let c := (s.feed.coef r).put i v
    match c.broken with
    | some k => (note s 2 k).record 0x062 (4 + field r 7 3) [k, v]
    | none => note (s.modFeed fun f => { f.setCoef r c with reverted := f.reverted &&& ~~~(BitVec.ofNat 7 (2 ^ r)) }) 1 0

/-- R411: the rail's reset set comes back. -/
def State.coefRevert (s : State) (r : Nat) : State :=
  (s.modFeed fun f => { f.setCoef r (Coef.ofRail r) with reverted := f.reverted ||| BitVec.ofNat 7 (2 ^ r) }).record 0x062
    (5 + field r 7 3) [r]

end Sys2Proof.Machine
end

