-- ==== Sys2Proof/Machine/StepOps.lean ====
section
/-! DEFINITION. Rack time (R200 to R206, R558) and the steps of a context: barriers, releases, beats and kindling (R207 to R229). -/

namespace Sys2Proof.Machine

def State.modRt (s : State) (f : RackTime → RackTime) : State := { s with rt := f s.rt }
def State.modStep (s : State) (n : Nat) (f : StepState → StepState) : State := s.modSlot n fun x => { x with step := f x.step }

/-! Rack time. -/

/-- R205: a change of state, with its record. -/
def State.setRt (s : State) (v : RtState) : State :=
  if s.rt.state = v then s
  else ({ s with rt := { s.rt with state := v } }).record 0x011 (v.code + field s.rt.state.code 3 3) [s.rt.err.toNat]

/-- HOLD_MS of the running or last holdover (R236). -/
def State.holdMs (s : State) : Nat :=
  match s.rt.state with
  | .holdover | .lost => min 0xFFFF ((s.lt - s.rt.holdFrom) / 1000000)
  | _ => s.rt.holdMs

/-- R202: LOCKED or SLEWING is left for HOLDOVER. -/
def State.enterHoldover (s : State) : State :=
  match s.rt.state with
  | .locked | .slewing =>
    (s.setRt .holdover).modRt fun r => { r with holdFrom := s.lt, holdMs := 0, losses := r.losses + 1#32, good := 0, bad := 0, expect := none }
  | _ => s

/-- e as RT_ERR holds it (R236). -/
def errWord (e : Int) : BitVec 32 := BitVec.ofInt 32 (max (-(2 ^ 31 - 1)) (min (2 ^ 31 - 1) e))

/-- RT_DELAY in whole ns, to the counter's resolution (log entry 14). -/
def delayNs (d : Nat) : Nat := openDiv d 100

/-- R204: the comparison on return from HOLDOVER or LOST, or after a change of RT_DELAY. -/
def State.compareRt (s : State) (value : BitVec 64) : State :=
  let e : Int := (value.toNat : Int) - s.rt.now.toNat
  let s := s.modRt fun r => { r with err := errWord e, slew := e, holdMs := s.holdMs, delay := s.tray.rtDelay }
  if e.natAbs ≤ 2 then s.setRt .locked
  else if e.natAbs ≤ 1000000 then s.setRt .slewing
  else
    let s := s.runningSlots.foldl (fun a n => a.abortCtx n 0x05 0xFF) s
    (s.modRt fun r => { r with now := value, jump := true, slew := 0 }).setRt .locked

/-- R558: a code of a chain outside LOCKED and SLEWING. -/
def State.chainCode (s : State) (ok : Bool) (rt : BitVec 64) : State :=
  let r := s.rt
  let follows := match r.expect with
    | some t => decide (rt = t)
    | none => true
  let good := if !ok then 0 else if follows then r.good + 1 else 1
  let s := s.modRt fun r => { r with good, expect := if ok then some (rt + 1000#64) else none, timeOk := decide (16 ≤ good) }
  if good < 16 then s
  else
    let value := rt + BitVec.ofNat 64 (delayNs s.tray.rtDelay)
    match r.state with
    | .acquiring => (s.modRt fun r => { r with now := value, delay := s.tray.rtDelay, err := 0#32, bad := 0 }).setRt .locked
    | .holdover | .lost => (s.compareRt value).modRt fun r => { r with bad := 0 }
    | _ => s

/-- |e| for the counter value that a code names. -/
def RackTime.off (r : RackTime) (value : BitVec 64) : Nat := ((value.toNat : Int) - r.now.toNat).natAbs

/-- R557, R558: RT of a TIME frame, and whether the frame is well formed. -/
def timeRt (f : BitVec 100) : BitVec 64 := f.extractLsb' 8 64
def timeWell (f : BitVec 100) : Bool :=
  let n := f.toNat
  decide (bits n 7 0 = 0xD5) && decide (crc8 72 (bits n 79 8) = bits n 87 80) && bit n 72 && decide ((timeRt f).toNat % 1000 = 0)

/-- R202, R204, R558: a TIME frame, `edges` TICK edges after the one before it. The count is held too: in LOCKED a
code whose value lies more than 2 ns from the counter, at the RT_DELAY the counter was loaded with, disagrees with it; one that agrees
is followed (R200, R201), and a changed RT_DELAY is compared as R559 says. -/
def State.timeCode (s : State) (f : BitVec 100) (edges : Nat) : State :=
  let rt := timeRt f
  let ok := timeWell f && decide (edges = 100)
  let r := s.rt
  let value := rt + BitVec.ofNat 64 (delayNs s.tray.rtDelay)
  let old := rt + BitVec.ofNat 64 (delayNs r.delay)
  let valid := ok && (match r.expect with
    | some t => decide (rt = t)
    | none => true) && (decide (r.state ≠ .locked) || decide (r.off old ≤ 2))
  let miss := { s with rt := { r with bad := r.bad + 1, timeOk := false, expect := r.expect.map (· + 1000#64) } }
  let hit := { s with rt := { r with bad := 0, timeOk := true, expect := some (rt + 1000#64) } }
  match r.state with
  | .none => s
  | .locked =>
    if !valid then (if 3 ≤ r.bad + 1 then miss.enterHoldover else miss)
    else
      (hit.modRt fun r => { r with now := old }).compareRt value
  | .slewing =>
    if !valid then (if 3 ≤ r.bad + 1 then miss.enterHoldover else miss) else hit.compareRt value
  | .acquiring | .holdover | .lost => s.chainCode ok rt

/-- R203: the counter allows releases. -/
def RtState.releases : RtState → Bool
  | .locked | .holdover | .slewing => true
  | _ => false

/-! Barriers (R220 to R225, R271). -/

/-- R220, R246: the barrier-arrival frame to a member. -/
def State.barrierFrame (s : State) (n chip : Nat) (a : Arrival) : Frame :=
  let x := s.slot n
  { type := 0x04#8, vc := 0#2, dchip := BitVec.ofNat 8 chip, schip := s.fab.chipId,
    w1 := BitVec.ofNat 64 (x.job.toNat + field x.gen.toNat 8 16 + field a.pace 13 24), w2 := BitVec.ofNat 64 x.step.index, w3 := a.stamp, payload := [] }

/-- R221: the next release and pace from the arrivals held. -/
def nextRelease (p : StepProg) (st : StepState) : Nat × Nat :=
  let a := st.arrivals.foldl (fun m x => max m x.stamp.toNat) 0
  let q := st.arrivals.foldl (fun m x => max m x.pace) 0
  let rel := a + p.gapNs
  (if p.minPeriod = 0 then rel else max rel (st.rel + p.minPeriod), q)

/-- R178, R225, R270, R328: a context that has completed its steps returns to LOADED with DONE set, unless it parks at this barrier
(R336): its grants are not sent again, and its open reduction instances are discarded. -/
def State.completeSteps (s : State) (n : Nat) : State :=
  let s := (s.modCores (s.coresOf n) fun c => { c with grants := [] }).dropInsts n
  (s.modSlot n fun x => { x with state := .loaded, done := true }).raiseSlot 1 n

/-! Pre-bias (R227, R229, R371). -/

/-- The release that a context waits for, where its instant is known. -/
def State.nextRel (s : State) (n : Nat) : Option Nat :=
  let x := s.slot n
  match x.state with
  | .loaded | .suspect => x.step.pendingRel
  | .running => if x.parkPend = some x.step.index then none else x.step.next.map Prod.fst
  | _ => none

/-- R216: the planned current of region i under a record of slot n in 1/64 A: the shares of the context's cores in it. -/
def State.regionShare (s : State) (n i : Nat) (cur : Tbl Nat) : Nat :=
  let ks := (s.logicals n).filterMap fun rc => (s.phys rc.1 rc.2).map fun k => (nominalCluster rc.1 rc.2, regionOfCore k)
  (ks.filter fun e => e.2 = i).foldl (fun a e => a + Tbl.get 0 cur e.1 * 16 / ks.countP fun q => q.1 = e.1) 0

/-- R371: a region's share, in 1/64 A, of the rise from the barrier record to the first record of the next step; before a first release the
context draws nothing (log entry 142). -/
def State.regionRise (s : State) (n i : Nat) : Int :=
  let x := s.slot n
  let share := fun r : Option PlanRec => match r with
    | some r => (s.regionShare n i r.cur : Int)
    | none => 0
  share x.prog.plan.head? - (if x.state = .running then share x.prog.plan.getLast? else 0)

/-- R229, R371: b of a region for the contexts that release at one instant, in 0.25 A. -/
def State.biasOf (s : State) (ns : List Nat) (i : Nat) : Nat :=
  min 44 (openDiv (ns.foldl (fun a n => a + s.regionRise n i) 0).toNat 16)

/-- R371: once the instant of a release is known, the PTC sends BIAS_LOAD to every powered region. -/
def State.preBias (s : State) (n : Nat) : State :=
  match s.nextRel n with
  | none => s
  | some rel =>
    if !s.ptc.hasActive then s
    else
      let ns := s.liveSlots.filter fun m => decide (s.nextRel m = some rel)
      s.powered.foldl (fun a i => a.ringCommand i { op := opBias, seq := a.nextSeq i, arg := s.biasOf ns i, slew := 0 }) s

/-- The local instants at which wave w starts, of the releases that are known. -/
def State.waveStarts (s : State) (w : Nat) : List Nat :=
  s.liveSlots.flatMap fun n =>
    let x := s.slot n
    let next := match s.nextRel n with
      | some rel => [rel + s.rt.offset.toNat + waveOffset x.prog w]
      | none => []
    if x.state = .running ∧ x.step.released then (x.step.boundary 0 + waveOffset x.prog w) :: next else next

/-- R227, R371, R464: from 1,320 ns RT before a wave starts, the ACTIVE PTC sends its WAVE frame on both rings. -/
def State.sendWave (s : State) (w : Nat) : State :=
  let now := s.rt.now.toNat
  if (s.waveStarts w).any fun t => decide (t ≤ now + 1320) && decide (now < t) then
    let c : RingCmd := { op := opWave, seq := 0, arg := w, slew := 0 }
    (s.ringSend 0 0x1FF c 0#64).ringSend 1 0x1FF c 0#64
  else s

/-- R371: a raised output returns to its set-point 2 µs after its wave has started. -/
def State.endBias (s : State) (w : Nat) : State :=
  let now := s.rt.now.toNat
  if (s.waveStarts w).any fun t => decide (t ≤ now + 1000) && decide (now < t + 2000) then s
  else s.modRegions ((List.range 432).filter fun i => waveOf (clusterOfRegion i) = w) fun x => { x with raised := 0 }

/-- R221, R225: all arrivals are held. -/
def State.agree (s : State) (n : Nat) : State :=
  let x := s.slot n
  let st := x.step
  if x.state ≠ .running ∨ st.atBarrier = false ∨ st.arrivals.length < x.members.length ∨ st.next.isSome then s
  else if x.prog.stepCount ≠ 0 ∧ x.prog.stepCount ≤ st.index + 1 ∧ x.parkPend ≠ some st.index then s.completeSteps n
  else ((s.modStep n fun st => { st with next := some (nextRelease x.prog st) }).preBias n).feedRequire

/-- R220: the context arrives at its barrier. -/
def State.barrier (s : State) (n : Nat) : State :=
  let st := (s.slot n).step
  let p := s.pace n
  let a : Arrival := { member := s.meIdx n, stamp := s.rt.now - BitVec.ofNat 64 st.offset, pace := p }
  let s := (s.modStep n fun st => { st with atBarrier := true, arrivals := st.arrivals ++ [a] }).modDraw fun d => { d with pace := p }
  ((s.otherChips n).foldl (fun b c => b.route n (c % 18) (b.barrierFrame n c a)) s).agree n

/-- R134, R220: a core arrives; the last one is the context's arrival. -/
def State.coreArrival (s : State) (k : Nat) : State :=
  let c := s.core k
  match c.res with
  | none => s
  | some r =>
    if (s.slot r.slot).state ≠ .running ∨ c.ended = false ∨ c.arrived = true ∨ c.quiet = false then s
    else
      let s := s.setCore k { c with arrived := true }
      if (s.coresOf r.slot).all fun q => (s.core q).arrived then s.barrier r.slot else s

/-- R223, R258: a barrier-arrival frame. -/
def State.barrierIn (s : State) (f : Frame) : State :=
  let w := f.w1.toNat
  let stale := s.modFab fun g => { g with barStale := satAdd 0xFFFF g.barStale 1 }
  match s.jobSlot (bits w 15 0) with
  | none => stale
  | some n =>
    let x := s.slot n
    match x.memberIdx f.schip.toNat with
    | none => stale
    | some m =>
      if !s.genMatches n f.schip (BitVec.ofNat 8 (bits w 23 16)) then stale
      else
        let i := f.w2.toNat
        let a : Arrival := { member := m, stamp := f.w3, pace := bits w 36 24 }
        let add := fun l : List Arrival => if l.any fun b => b.member = m then l else l ++ [a]
        if i < x.step.index then s.modFab fun g => { g with barDup := satAdd 0xFFFF g.barDup 1 }
        else if i = x.step.index then ((s.modStep n fun st => { st with arrivals := add st.arrivals }).progress n).agree n
        else if i = x.step.index + 1 then (s.modStep n fun st => { st with early := add st.early }).progress n
        else ((s.modFab fun g => { g with barLater := satAdd 0xFFFF g.barLater 1 }).record 0x022 (1 + field n 10 1) []).abortCtx n 0x06 0xFF

/-! Snapshots (R184, R334, R336, R509). -/

/-- R178, R184: what a snapshot keeps of a core: not the grants that still wait for an acknowledgement, nor MSG_DROP, which stays with
the physical core (R198). -/
def Core.saved (c : Core) : Core := { c with grants := [], drop := Core.reset.drop }

/-- The state of a context's cores by logical position. -/
def State.snapshot (s : State) (n : Nat) : List ParkedCore :=
  (s.coresOf n).filterMap fun k => let c := s.core k; c.res.map fun r => { lrow := r.lrow, lcol := r.lcol, core := c.saved }

/-- The length of a context's park area (R334). -/
def State.parkLen (s : State) (n : Nat) : Nat :=
  let p := s.part (s.partOf n)
  (p.nrows + 1) * (p.ncols + 1) * 0x100000

/-- A credit of the reduction units toward a core of slot n's partition. -/
def State.redMine (s : State) (n : Nat) (e : CreditEntry) : Bool :=
  let p := s.part (s.partOf n)
  decide (e.chip = s.fab.chipId) && decide (p.row0 ≤ e.row.toNat) && decide (e.row.toNat ≤ p.row0 + p.nrows) &&
  decide (p.col0 ≤ e.col.toNat) && decide (e.col.toNat ≤ p.col0 + p.ncols)

/-- A snapshot is written into the park area, whose bytes are the module's own (R334). -/
def State.takeSnap (s : State) (n : Nat) : State :=
  let cs := s.snapshot n
  let rs := s.fab.redCredits.filter (s.redMine n)
  (s.modSlot n fun x => { x with snap := cs, snapGood := true, snapRed := rs }).undefine (s.slot n).park.toNat (s.parkLen n)

/-! Releases (R219 to R222). -/

/-- R130, R133, R134, R221: a core at a release, its region having counted q quarter cycles. -/
def Core.release (c : Core) (q : Nat) : Core :=
  { c with pc := c.entry, relCyc := q, fetchWait := 0, bundle := [], holding := false, stopped := false, waiting := false, armed := false, ended := false, arrived := false,
           tried := none, arms := 0, waves := 0, armFrom := none, late := 0#32, sendWait := SendWait.none, recvWait := none }

/-- R208, R221, R222, R237: the step registers at a release at rel with pace q; a late release finds its first boundaries passed. -/
def StepState.release (st : StepState) (p : StepProg) (rel q offset : Nat) (late : Bool) (beat : Nat) : StepState :=
  { st with index := if st.released then st.index + 1 else st.index, rel, beatLen := beatLenAt p q, pace := q, atBarrier := false,
            lateRel := if late then satAdd 0xFFFF st.lateRel 1 else st.lateRel, beat, released := true, steps := st.steps + 1,
            arrivals := if st.released then st.early else st.arrivals, early := if st.released then [] else st.early, next := none,
            pendingRel := none, nextPace := 256, offset, grantsDue := false }

/-- R509: the snapshot of a single-member context with SNAP set. -/
def State.snapAtRelease (s : State) (n : Nat) : State :=
  let x := s.slot n
  let on := x.pw.snapOn && decide (x.members.length = 1)
  let s := if on then s.takeSnap n else s
  s.modSlot n fun x => { x with pw := { x.pw with snapValid := on, replays := 0 } }

/-- R90: a row's repair application has not ended. -/
def State.rowApplying (s : State) (r : Nat) : Bool := s.grid.applying.contains r

/-- R90, R110, R130: the cores and regions of slot n at a release. A core in a row under repair application waits for its end. The cycle
count of a region that serves two contexts starts again at the release of either (log entry 131). -/
def State.releaseCores (s : State) (n : Nat) : State :=
  let ks := (s.coresOf n).filter fun k => !s.rowApplying (k / 36)
  let s := ks.foldl (fun a k => a.modCore k fun c => c.release (a.region (regionOfCore k)).quarters) s
  (s.regionsOf n).foldl (fun a i => a.modRegion i fun r => { r with cyc := 0, levelNow := a.level i }) s

/-- The ns RT that the counter advances by in 10 ns LT (R204). -/
def RackTime.stride (r : RackTime) : Nat :=
  match r.state with
  | .none | .acquiring => 0
  | .locked | .holdover | .lost => 10
  | .slewing => if 2 < r.slew then 15 else if r.slew < -2 then 5 else 10

/-- The release itself. The counter moves in steps of 10 ns LT, so a release in the step that reaches its local instant is not late (log
entry 132). -/
def State.releaseNow (s : State) (n rel q : Nat) : State :=
  let s := s.snapAtRelease n
  let x := s.slot n
  let off := s.rt.offset.toNat
  let past := s.rt.now.toNat - (rel + off)
  let late := decide (max 10 s.rt.stride ≤ past)
  let due := x.step.grantsDue
  let s := s.setSlot n { x with state := .running, done := false,
                                step := x.step.release x.prog rel q off late (past / max 1 (beatLenAt x.prog q)) }
  let s := s.releaseCores n
  let s := if due then s.sendGrants n else s
  ((s.progress n).newModel.feedRequire).settle

/-- R510 step 4: the step is released again: the same index, the snapshot's state, the pace it had. -/
def State.replayNow (s : State) (n rel : Nat) : State :=
  let x := s.slot n
  let st := x.step
  let past := s.rt.now.toNat - (rel + st.offset)
  let st := { st with rel, atBarrier := false, beat := past / max 1 st.beatLen, released := true, arrivals := [], early := [], next := none, pendingRel := none }
  let s := s.setSlot n { x with state := .running, step := st, pw := { x.pw with replays := x.pw.replays + 1 } }
  let s := s.releaseCores n
  ((s.progress n).newModel.feedRequire).settle

/-- R221, R336: the local instant of a release at rel, under the offset now in force (R228), has come. -/
def State.dueAt (s : State) (rel : Nat) : Bool := decide (rel + s.rt.offset.toNat ≤ s.rt.now.toNat)

/-- R22, R203, R221, R296, R336, R510: the local release instant of a context. -/
def State.release (s : State) (n : Nat) : State :=
  let x := s.slot n
  let rotating := s.mem.rotation.any fun r => r.1 = n
  if !s.rt.state.releases || rotating || !s.serviceUp then s
  else match x.state, x.step.pendingRel, x.step.next with
    | .loaded, some rel, _ => if s.dueAt rel then s.releaseNow n rel x.step.nextPace else s
    | .suspect, some rel, _ => if s.dueAt rel then s.replayNow n rel else s
    | .running, _, some r => if x.parkPend = some x.step.index || !s.dueAt r.1 then s else s.releaseNow n r.1 r.2
    | _, _, _ => s

/-- R219: a START or RESTORE too late for its instant: MISSED, a record, and the abort with cause 0x04. -/
def State.missRelease (s : State) (n : Nat) : State :=
  ((s.modStep n fun st => { st with missed := true }).record 0x022 (field n 10 1) []).abortCtx n 0x04 0xFF

/-- R219: the start reaches the module in time. -/
def State.inTime (s : State) (rel : Nat) : Bool := decide (s.rt.now.toNat + 5000 ≤ rel)

/-! Beats and kindling. -/

/-- R207, R209, R217: a beat boundary of a released step, once the counter has reached it. -/
def State.beatBoundary (s : State) (n : Nat) : State :=
  let x := s.slot n
  let at_ := x.step.boundary (x.step.beat + 1)
  if x.state ≠ .running ∨ x.step.released = false ∨ s.rt.now.toNat < at_ then s
  else
    let s := (s.modStep n fun st => { st with beat := st.beat + 1 }).newModel.feedRequire
    (s.regionsOf n).foldl (fun a i => a.boundaryRegion i at_) s

/-- R130, R226, R229: a wave of a context starts, once the counter has reached its instant: it passes for the cores of its clusters, but
not for those of a row whose repair application has not ended (R90). -/
def State.kindleWave (s : State) (n w : Nat) : State :=
  let x := s.slot n
  if x.state ≠ .running ∨ x.step.released = false ∨ s.rt.now.toNat < x.step.boundary 0 + waveOffset x.prog w then s
  else s.modCores ((s.coresOf n).filter fun k => decide (waveOf (clusterOfCore k) = w) && !s.rowApplying (k / 36))
    fun c => { c with waves := 1 }

/-- R90, R229: a core whose row's repair application has ended: one whose context was released meanwhile is released now, and its wave has
passed where the counter has reached its instant. -/
def State.lateCore (s : State) (k : Nat) : State :=
  match (s.core k).res with
  | none => s
  | some r =>
    let x := s.slot r.slot
    if x.state ≠ .running ∨ x.step.released = false ∨ x.step.atBarrier ∨ (s.core k).stopped = false then s
    else
      let started := decide (x.step.boundary 0 + waveOffset x.prog (waveOf (clusterOfCore k)) ≤ s.rt.now.toNat)
      s.modCore k fun c => { c.release (s.region (regionOfCore k)).quarters with waves := if started then 1 else 0 }

/-! RT_NOW (R236). -/

/-- A read of RT_NOW by a function: 8 bytes, the low 4 bytes, or the high 4 bytes. -/
def State.readRtNow (s : State) (fn part : Nat) : State :=
  s.byHost fn fun s =>
  let v := s.rtReading
  let hi : BitVec 32 := v.extractLsb' 32 32
  let latch := fun (x : Option (BitVec 32)) (s : State) => { s with host := { s.host with rtLatch := Tbl.set none s.host.rtLatch fn x } }
  let s1 := { s with free := s.free + 1 }
  if part = 0 then s1.emit (.hostRead fn (toLE 8 v.toNat) false)
  else if part = 1 then (latch (some hi) s1).emit (.hostRead fn (toLE 4 (v.toNat % 2 ^ 32)) false)
  else match Tbl.get none s.host.rtLatch fn with
    | some h => (latch none s1).emit (.hostRead fn (toLE 4 h.toNat) false)
    | none => s1.emit (.hostRead fn (toLE 4 hi.toNat) false)

end Sys2Proof.Machine
end

