-- ==== Sys2Proof/Machine/FabOps.lean ====
section
/-! DEFINITION. Fabric ports (R238 to R262): frames received, acknowledgement and replay, link credits, link start, lanes and ports
going down; and aborts received (R273). -/

namespace Sys2Proof.Machine

/-! Sending (R248, R250). -/

def State.pumpPort (s : State) (k : Nat) : State := s.pump k (s.port k).queue.length

/-- R248: an acknowledgement frees every frame up to and including it; it is progress. -/
def Port.acked (p : Port) (q : BitVec 12) : Port :=
  match p.replay.findIdx? fun x => x.1 = q with
  | some i => { p with replay := p.replay.drop (i + 1), stale := 0 }
  | none => p

/-- R248: an IDLE word, and then frames leave again, oldest first. -/
def State.resend (s : State) (k : Nat) (fs : List (BitVec 12 × Frame)) : State :=
  fs.foldl (fun a x => a.sendFrame k (some x.1) none x.2) (s.sendWords k [idleWord])

/-! Ports going down (R260, R261). -/

/-- KEY of a PORT record (R525). -/
def portKey (event k : Nat) (lanes : BitVec 4) : Nat := event + field k 5 2 + field lanes.toNat 4 7

/-- R260, R261: a port goes down. -/
def State.portDown (s : State) (k : Nat) : State :=
  let p := s.port k
  match p.state with
  | .down | .disabled => s
  | _ =>
    let up := decide (p.state = .up)
    let s := s.setPort k { p.quiet (if p.disable then .disabled else .down) with downs := if up then satAdd 0xFFFF p.downs 1 else p.downs }
    let s := s.record 0x040 (portKey 1 k p.lanes) [p.lanes.toNat]
    let hit := s.ctxs fun x =>
      (decide (x.state = .loaded) || decide (x.state = .running) || decide (x.state = .parked)) && decide (1 < x.members.length) &&
      (x.member s.fab.chipId.toNat).any fun m => m.ports.getLsbD k
    (hit.foldl (fun a n => a.abortCtx n 0x07 0xFF) s).settle

/-- R248, R249: a replay from a sequence number on; the eighth without progress takes the port down. -/
def State.replay (s : State) (k : Nat) (fs : List (BitVec 12 × Frame)) : State :=
  let p := s.port k
  let s := (s.setPort k { p with replays := satAdd 0xFFFF p.replays 1, stale := p.stale + 1 }).resend k fs
  if 8 ≤ p.stale + 1 then s.portDown k else s

/-- R248; frames are held during a retrain (R259). -/
def State.linkNack (s : State) (k : Nat) (q : BitVec 12) : State :=
  let p := s.port k
  if p.state = .up ∧ p.retrain = false then s.replay k (p.replay.dropWhile fun x => x.1 ≠ q) else s

/-- R248: 4 µs without progress. -/
def State.replayTimeout (s : State) (k : Nat) : State :=
  let p := s.port k
  if p.state = .up ∧ p.retrain = false ∧ p.replay ≠ [] then s.replay k p.replay else s

/-! Link start (R251). -/

/-- R22: the service states in which ports train. -/
def State.portsTrain (s : State) : Bool :=
  match s.svc with
  | .init | .filling | .ready | .serving | .degraded => true
  | .off | .saving | .benched => false

/-- R22, R241, R251: the exchange is complete, and the chip number is assigned. -/
def State.comeUp (s : State) (k : Nat) : State :=
  let p := s.port k
  if s.portsTrain = true ∧ p.state = .training ∧ p.aligned = true ∧ p.rcvdGot = true ∧ p.rcvdSent = true ∧ s.fab.chipValid = true then
    let s := s.setPort k { p with state := .up }
    let s := if p.downs = 0 then s else s.record 0x040 (portKey 2 k p.lanes) [p.lanes.toNat]
    s.settle
  else s

/-- R250, R251: LINK_INIT as the module sends it. -/
def initWord (rcvd : Bool) : BitVec 64 := BitVec.ofNat 64 (256 + field 3072 16 16 + field 2048 16 32 + flag1 rcvd 48 + field 1 8 56)

def State.linkInitSend (s : State) (k : Nat) : State :=
  let p := s.port k
  if p.state = .training ∧ p.aligned = true then
    ((s.setPort k { p with rcvdSent := p.rcvdSent || p.initGot }).linkFrame k none 0x13#8 (initWord p.initGot)).comeUp k
  else s

/-- R251: LINK_INIT received. -/
def State.linkInit (s : State) (k : Nat) (v0 v1 v2 : Nat) (rcvd : Bool) (version : Nat) : State :=
  let p := s.port k
  if version ≠ 1 ∨ v0 = 0 ∨ v1 = 0 ∨ v2 = 0 then s.setPort k { p with badFrame := satAdd 0xFFFF p.badFrame 1 }
  else match p.state with
    | .up => s.portDown k
    | .training =>
      if !p.aligned then s
      else if p.initGot then (s.setPort k { p with rcvdGot := p.rcvdGot || rcvd }).comeUp k
      else (s.setPort k { p with initGot := true, rcvdGot := rcvd, credits := { c0 := v0, c1 := v1, c2 := v2 }, nextLseq := 0#12, expLseq := 0#12,
                                 replay := [], stale := 0 }).comeUp k
    | _ => s

/-- R239, R251: training completes on a set of lanes that are not retired; fewer than three take the port down (R260). -/
def State.lanesAligned (s : State) (k : Nat) (lanes : BitVec 4) : State :=
  let p := s.port k
  if p.state ≠ .training ∨ s.portsTrain = false then s
  else
    let live := lanes &&& ~~~p.failed
    let s := s.setPort k { p with lanes := live, failed := p.failed ||| ~~~live, aligned := true }
    if ((List.range 4).countP fun i => live.getLsbD i) < 3 then s.portDown k else s

/-- R259, R260: a lane is retired; the second takes the port down. -/
def State.laneRetire (s : State) (k lane : Nat) : State :=
  let p := s.port k
  let b : BitVec 4 := BitVec.ofNat 4 (2 ^ lane)
  match p.state with
  | .down | .disabled => s
  | _ =>
    if p.failed.getLsbD lane then s
    else
      let s := (s.setPort k { p with failed := p.failed ||| b, lanes := p.lanes &&& ~~~b, retrain := p.retrain || decide (p.state = .up) }).record 0x040
        (portKey 0 k (p.lanes &&& ~~~b)) [(p.failed ||| b).toNat]
      if p.failed ≠ 0#4 then s.portDown k else s

/-- R248, R252, R259: a retrain ends: the link-control frames that waited leave, and the link resumes with replay. -/
def State.retrainDone (s : State) (k : Nat) : State :=
  let p := s.port k
  if p.state = .up ∧ p.retrain = true then
    let s := s.setPort k { p with retrain := false, lanes := ~~~p.failed, late := [] }
    let s := p.late.foldl (fun a x => a.sendFrame k none x.1 x.2) s
    (if p.replay.isEmpty then s else s.replay k p.replay).pumpPort k
  else s

/-- R22, R262: a port that is down, and not disabled, attempts training. -/
def State.retrainAttempt (s : State) (k : Nat) : State :=
  let p := s.port k
  if s.portsTrain = true ∧ p.state = .down ∧ p.disable = false then (s.setPort k { p.quiet .training with downs := p.downs }).settle else s

/-! PORT_CTRL (R260, R262, R276). -/

/-- R496: the fabric and the memory controllers are under reset. -/
def State.l3Runs (s : State) : Bool := s.rst.runs.any fun r => decide (3 ≤ r.level)

def portCtrlOff (k : Nat) : Nat := 0x61008 + 0x40 * k

/-- A write of PORT_CTRL by a function: GATED (R262), ignored under reset (R496). -/
def State.portCtrl (s : State) (fn k : Nat) (act : State → State) : State :=
  s.gated fn (portCtrlOff k) fun s => if s.l3Runs then s else act s

def State.portDisable (s : State) (k : Nat) (v : Bool) : State :=
  let s := s.modPort k fun p => { p with disable := v }
  let p := s.port k
  if v then (if p.state = .down then s.setPort k { p with state := .disabled } else s.portDown k).settle
  else if p.state = .disabled then (s.setPort k { p with state := if s.portsTrain then .training else .down }).settle
  else s

/-- R276: a port that is UP retrains on its active lanes; written at any other time RETRAIN does nothing (log entry 136). -/
def State.portRetrain (s : State) (k : Nat) : State := s.modPort k fun p => if p.state = .up then { p with retrain := true } else p

/-- R262: retired lanes return and the port retrains on four; frames of one that is UP are held. One that trains starts its training
again. -/
def State.restoreLanes (s : State) (k : Nat) : State :=
  let p := s.port k
  let s := s.record 0x040 (portKey 2 k 0xF#4) [p.failed.toNat]
  match p.state with
  | .up => s.setPort k { p with failed := 0#4, retrain := true }
  | .down => if s.portsTrain then (s.setPort k { p.quiet .training with failed := 0#4, downs := p.downs }).settle else s.setPort k { p with failed := 0#4 }
  | .training => s.setPort k { p.quiet .training with failed := 0#4, downs := p.downs }
  | .disabled => s.setPort k { p with failed := 0#4 }

/-! Aborts received (R258, R273). -/

def State.abortIn (s : State) (f : Frame) : State :=
  let w := f.w1.toNat
  let seen : AbortSeen := { job := bits w 15 0, gen := bits w 23 16, chip := f.schip, rt := f.w2 }
  let stale := s.modFab fun g => { g with stale := satAdd 0xFFFF g.stale 1 }
  match s.jobSlot seen.job with
  | none => stale
  | some n =>
    let x := s.slot n
    if !(x.member f.schip.toNat).any fun m => decide (m.gen = seen.gen) then stale
    else match x.state with
      | .torn => stale
      | .loaded | .running | .parked =>
        ((s.endCtx n .aborted (bits w 31 24) false).modFab fun g =>
          { g with received := satAdd 0xFFFF g.received 1, acted := seen :: g.acted }).settle
      | _ => if seen ∈ s.fab.acted then s.modFab fun g => { g with dup := satAdd 0xFFFF g.dup 1 } else stale

/-! Frames received (R247). -/

/-- R250: link credits go back to the partner, for a frame of a virtual channel that exists. -/
def State.giveBack (s : State) (k : Nat) (f : Frame) : State :=
  if f.vc = 3#2 then s else
  s.linkFrame k none 0x12#8 (BitVec.ofNat 64 ((f.len + 1) <<< (16 * f.vc.toNat)))

/-- R244 to R246: TYPE, VC and LEN agree. -/
def frameFormOk (r : RxFrame) : Bool :=
  let f := r.frame
  let n := r.len
  let kind := bits f.w1.toNat 2 0
  r.zerosOk && decide (n ≤ 64) && decide (f.payload.length = 64 * n) &&
  (if f.type = 0x01#8 then
     (decide (kind = 0) && decide (f.vc = 1#2) && decide (n = bits f.w1.toNat 63 58 + 1)) ||
     (decide (2 ≤ kind) && decide (kind ≤ 4) && decide (f.vc = 0#2) && decide (n = 0))
   else if f.type = 0x02#8 ∨ f.type = 0x03#8 then decide (f.vc = 2#2) && decide (1 ≤ n)
   else if f.type = 0x04#8 ∨ f.type = 0x05#8 ∨ (0x10#8 ≤ f.type ∧ f.type ≤ 0x13#8) then decide (f.vc = 0#2) && decide (n = 0)
   else false)

/-- A link-control frame (R244, R246). -/
def State.control (s : State) (k : Nat) (f : Frame) : State :=
  let w := f.w1.toNat
  if f.type = 0x11#8 then s.linkNack k (f.w1.extractLsb' 0 12)
  else if f.type = 0x12#8 then
    (s.modPort k fun p => { p with credits := { c0 := p.credits.c0 + bits w 15 0, c1 := p.credits.c1 + bits w 31 16, c2 := p.credits.c2 + bits w 47 32 } }).pumpPort k
  else if f.type = 0x13#8 then s.linkInit k (bits w 15 0) (bits w 31 16) (bits w 47 32) (bit w 48) (bits w 63 56)
  else s

/-- R270: the credits of a frame on VC2 that was taken. -/
def State.giveBack2 (s : State) (k : Nat) (f : Frame) : State :=
  if maxInsts ≤ s.fab.insts.length then s.modFab fun g => { g with owed := g.owed ++ [(k, f)] } else s.giveBack k f

/-- R270: reduction frames that wait are taken once instances close. -/
def State.takeHeld (s : State) : List (Nat × Frame) → State
  | [] => s.modFab fun g => { g with held := [] }
  | x :: t =>
    match s.rcontrib x.2 with
    | some a => (a.giveBack2 x.1 x.2).takeHeld t
    | none => s.modFab fun g => { g with held := x :: t }

/-- R250, R270: VC2 link credits withheld while every instance is open go back. -/
def State.payOwed (s : State) : State :=
  let os := s.fab.owed
  os.foldl (fun a x => a.giveBack x.1 x.2) (s.modFab fun g => { g with owed := [] })

/-- R270: once an instance has closed, what waited for it goes on: completions, withheld credits, frames and contributions. -/
def State.retryHeld (s : State) : State :=
  let s := s.completeInsts
  if maxInsts ≤ s.fab.insts.length then s
  else
    let s := s.payOwed
    (s.takeHeld s.fab.held).retryContribs

/-- R247: delivery of a frame that passed every check; its link credits return once it is taken (R250, R270). -/
def State.deliver (s : State) (k : Nat) (f : Frame) : State :=
  if f.type = 0x02#8 then
    if s.fab.held.isEmpty then
      match s.rcontrib f with
      | some a => a.giveBack2 k f
      | none => s.modFab fun g => { g with held := [(k, f)] }
    else s.modFab fun g => { g with held := g.held ++ [(k, f)] }
  else if f.type = 0x03#8 then (s.rresult f).giveBack2 k f
  else
    let s := s.giveBack k f
    if f.type = 0x01#8 then s.arrive (frameMsg f)
    else if f.type = 0x04#8 then s.barrierIn f
    else s.abortIn f

/-- R248: the acknowledgement of everything received in order so far. -/
def State.sendAck (s : State) (k : Nat) : State := s.linkFrame k (some ((s.port k).expLseq - 1#12)) 0x10#8 0#64

/-- R247: a malformed frame that is sequenced is acknowledged by its own LSEQ, which is then behind (log entry 135), and its link credits
go back (R250). -/
def State.ackMalformed (s : State) (k : Nat) (r : RxFrame) : State :=
  let s := s.modPort k fun p => if (r.lseq - p.expLseq).toNat < 2048 then { p with expLseq := r.lseq + 1#12 } else p
  (s.linkFrame k (some r.lseq) 0x10#8 0#64).giveBack k r.frame

/-- R247: the checks of a received frame in order, and its delivery. Under drain-discard it is acknowledged and discarded (R501). -/
def State.frameIn (s : State) (k : Nat) (idle : Bool) (r : RxFrame) : State :=
  let p := s.port k
  let f := r.frame
  if (p.state ≠ .up ∧ ¬ (p.state = .training ∧ p.aligned = true)) ∨ p.retrain = true then s
  else if p.discard && !idle then s
  else if !r.crcOk then
    (s.setPort k { p with crc := satAdd 0xFFFF p.crc 1, discard := true }).linkFrame k none 0x11#8 (p.expLseq.zeroExtend 64)
  else
    let p := if r.ackv then p.acked r.ackseq else p
    let s := (s.setPort k { p with discard := false }).pumpPort k
    let p := s.port k
    if !frameFormOk r then
      let s := s.setPort k { p with badFrame := satAdd 0xFFFF p.badFrame 1 }
      if linkControl f.type ∨ p.state ≠ .up then s else s.ackMalformed k r
    else if linkControl f.type then s.control k f
    else if p.state ≠ .up then s
    else if r.lseq ≠ p.expLseq then
      if 2048 ≤ (r.lseq - p.expLseq).toNat then s.sendAck k
      else s.linkFrame k none 0x11#8 (p.expLseq.zeroExtend 64)
    else
      let s := (s.setPort k { p with expLseq := p.expLseq + 1#12 }).sendAck k
      if s.rst.drain.isSome then
        ({ s with rst := { s.rst with drained := satAdd 0xFFFF s.rst.drained 1 } }).giveBack k f
      else if f.dchip ≠ s.fab.chipId then (s.modPort k fun p => { p with misroute := satAdd 0xFFFF p.misroute 1 }).giveBack k f
      else s.deliver k f

/-- R239, R276: the codewords that carried a frame: how many were corrected, and how many could not be. -/
def Port.codewords (p : Port) (corr uncorr : Nat) : Port :=
  { p with corr := p.corr + BitVec.ofNat 32 corr, uncorr := satAdd 0xFFFF p.uncorr uncorr }

end Sys2Proof.Machine
end

