-- ==== Sys2Proof/Machine/CtxLoad.lean ====
section
/-! DEFINITION. The step program image, the membership table and the memory layout as a LOAD reads them, and the checks of R331
(R173 to R176, R210 to R215, R255, R256, R264, R265, R284, R330 to R334). -/

namespace Sys2Proof.Machine

/-! Device-memory windows of virtual functions (R545). -/

def State.vfWord (s : State) (f j w : Nat) : Nat := (Tbl.get 0#64 s.host.vfWin (8 * (f - 1) + 2 * j + w)).toNat

/-- Whether n bytes from a lie wholly in tier 1, or wholly in tier-2 data. -/
def State.inTier (s : State) (a n : Nat) : Bool := decide (a + n ≤ t1End) || (decide (t2Base ≤ a) && decide (a + n ≤ s.t2top))

/-- Window j of function f where it is in effect: its base and length. -/
def State.vfWindow (s : State) (f j : Nat) : Option (Nat × Nat) :=
  let a := bits (s.vfWord f j 0) 47 0
  let n := bits (s.vfWord f j 1) 47 0
  if bit (s.vfWord f j 0) 48 ∧ n ≠ 0 ∧ a % 0x10000 = 0 ∧ n % 0x10000 = 0 ∧ s.inTier a n then some (a, n) else none

/-- The end of the function's window that holds an address. -/
def State.vfEnd (s : State) (f a : Nat) : Option Nat :=
  ((List.range 4).filterMap fun j => s.vfWindow f j).findSome? fun w => if w.1 ≤ a ∧ a < w.1 + w.2 then some (w.1 + w.2) else none

/-- R343, R545: a function reaches n bytes of device memory from a. -/
def State.reaches (s : State) (f a n : Nat) : Bool :=
  decide (f = 0) || (List.range 4).any fun j => match s.vfWindow f j with
    | some w => decide (w.1 ≤ a) && decide (a + n ≤ w.1 + w.2)
    | none => false

/-! Reading tables. -/

/-- The n-byte number at a device address; as State.touch left it (log entry 28). -/
def State.rd (s : State) (a n : Nat) : Nat := leNat (s.mem.raw a n)

def State.zeros (s : State) (a n : Nat) : Bool := (s.mem.raw a n).all fun b => decide (b = 0#8)

/-- R213: the end of the image at a, for the owner's function. -/
def State.imageEnd (s : State) (f a : Nat) : Nat :=
  let e := if a < t1End then t1End else if t2Base ≤ a then s.t2top else 0
  if f = 0 then e else min e ((s.vfEnd f a).getD e)

/-- R211: an entry of the core table. -/
structure ImgCore where
  entry : Nat
  mbox : Nat
  src : Nat
  srcN : Nat
  image : Nat
  imageLen : Nat
deriving DecidableEq, Repr

def State.imgCore (s : State) (a : Nat) : ImgCore :=
  { entry := s.rd a 4, mbox := s.rd (a + 8) 8, src := s.rd (a + 0x10) 8, srcN := s.rd (a + 0x18) 2, image := s.rd (a + 0x20) 8,
    imageLen := s.rd (a + 0x28) 4 }

/-- The header at a with its offsets, and the shape of the partition. -/
structure ImgHead where
  at_ : Nat
  lim : Nat
  rows : Nat
  cols : Nat
  coreTab : Nat
  plan : Nat
  planRecs : Nat
  redCount : Nat
  redTab : Nat
deriving DecidableEq, Repr

def State.imgHead (s : State) (f a : Nat) : ImgHead :=
  { at_ := a, lim := s.imageEnd f a - a, rows := s.rd (a + 4) 2, cols := s.rd (a + 6) 2, coreTab := s.rd (a + 0x30) 8,
    plan := s.rd (a + 0x38) 8, planRecs := s.rd (a + 0x40) 4, redCount := s.rd (a + 0x44) 4, redTab := s.rd (a + 0x48) 8 }

/-- A table of n bytes at an offset does not reach past the image's end. -/
def ImgHead.fits (h : ImgHead) (off n : Nat) : Bool := decide (n = 0) || decide (off + n ≤ h.lim)

/-- R210, R213: the header's own faults. -/
def State.headOk (s : State) (h : ImgHead) : Bool :=
  let a := h.at_
  let beat := s.rd (a + 8) 4
  let kind := s.rd (a + 0x0C) 4
  let gap := s.rd (a + 0x18) 4
  decide (256 ≤ h.lim) && decide (s.rd a 4 = 0x00010000) && s.zeros (a + 0x1C) 4 && s.zeros (a + 0x50) 0xB0 &&
  (decide (beat = 0) || (decide (1000 ≤ beat) && decide (beat ≤ 1000000))) &&
  (decide (kind = 0) || (decide (500 ≤ kind) && decide (kind ≤ 8000))) &&
  decide (20000 ≤ gap) && decide (gap ≤ 1000000) &&
  decide (1 ≤ h.planRecs) && decide (h.planRecs ≤ 65536) && decide (h.redCount ≤ 256) &&
  h.fits h.plan (128 * h.planRecs) && h.fits h.redTab (32 * h.redCount)

def State.imgCores (s : State) (h : ImgHead) : List ImgCore :=
  (List.range (h.rows * h.cols)).map fun i => s.imgCore (h.at_ + h.coreTab + 64 * i)

/-- R211, R213: the core table's faults. -/
def State.coreTabOk (s : State) (h : ImgHead) : Bool :=
  h.fits h.coreTab (64 * h.rows * h.cols) &&
  (List.range (h.rows * h.cols)).all fun i =>
    let a := h.at_ + h.coreTab + 64 * i
    let c := s.imgCore a
    s.zeros (a + 4) 4 && s.zeros (a + 0x1A) 6 && s.zeros (a + 0x2C) 20 && decide (c.entry % 16 = 0) && decide (c.entry < 0x80000) &&
    decide (c.srcN ≤ 256) && decide (c.imageLen % 64 = 0) && decide (c.imageLen ≤ 524288) && h.fits c.mbox 128 &&
    h.fits c.src (8 * c.srcN) && h.fits c.image c.imageLen

/-! Mailboxes and source tables (R173 to R176). -/

/-- R173: a mailbox descriptor. Of one with EN 0 nothing is kept, MODE included: MBOX_STATE.MODE of an unconfigured mailbox reads 0 (R198; log
entry 139). -/
def mboxOfWord (w : Nat) : Option MboxDesc :=
  if bit w 0 then some { rota := bit w 1, nsrc := bits w 13 8, first := bits w 23 16, base := bits w 50 32 } else none

def srcOfWord (w : Nat) : SrcEntry :=
  { chip := BitVec.ofNat 8 (bits w 7 0), row := BitVec.ofNat 6 (bits w 13 8), col := BitVec.ofNat 5 (bits w 18 14), share := bits w 43 32 }

def State.mboxWord (s : State) (h : ImgHead) (c : ImgCore) (m : Nat) : Nat := s.rd (h.at_ + c.mbox + 8 * m) 8

/-- R212: the source-table word at an index. -/
def State.srcWord (s : State) (h : ImgHead) (c : ImgCore) (i : Nat) : Nat := if i < c.srcN then s.rd (h.at_ + c.src + 8 * i) 8 else 0

/-- The source words of a mailbox. -/
def State.mboxSources (s : State) (h : ImgHead) (c : ImgCore) (d : MboxDesc) : List Nat :=
  (List.range (d.nsrc + 1)).map fun k => s.srcWord h c (d.first + k)

/-- R175: the length of a mailbox's extent. -/
def State.mboxLen (s : State) (h : ImgHead) (c : ImgCore) (d : MboxDesc) : Nat :=
  (s.mboxSources h c d).foldl (fun n w => n + 64 * ((srcOfWord w).share + 1)) 0

def noDup : List Nat → Bool
  | [] => true
  | x :: t => !t.contains x && noDup t

/-- R176: one source entry. -/
def State.srcOk (s : State) (p : Part) (chips : List Nat) (w : Nat) : Bool :=
  let e := srcOfWord w
  let r := e.row.toNat
  let x := e.col.toNat
  decide (bits w 31 19 = 0) && decide (bits w 63 44 = 0) && (decide (r < 48) || decide (r = 63)) && (decide (r ≠ 63) || decide (x = 0)) &&
  chips.contains e.chip.toNat &&
  (decide (e.chip ≠ s.fab.chipId) || decide (r = 63) ||
    (decide (p.row0 ≤ r) && decide (r ≤ p.row0 + p.nrows) && decide (p.col0 ≤ x) && decide (x ≤ p.col0 + p.ncols)))

/-- R176: the mailboxes of one core. -/
def State.mboxesOk (s : State) (h : ImgHead) (p : Part) (chips : List Nat) (c : ImgCore) : Bool :=
  let ws := (List.range 16).map fun m => s.mboxWord h c m
  let on := ws.filterMap fun w => (mboxOfWord w).map fun d => (w, d)
  (on.all fun wd =>
    let w := wd.1
    let d := wd.2
    let es := s.mboxSources h c d
    decide (bits w 7 2 = 0) && decide (bits w 15 14 = 0) && decide (bits w 31 24 = 0) && decide (bits w 63 51 = 0) &&
    decide (d.base % 64 = 0) && decide (d.first + d.nsrc ≤ 255) && decide (d.base + s.mboxLen h c d ≤ 0x80000) &&
    es.all (s.srcOk p chips) && noDup (es.map fun e => bits e 18 0)) &&
  ((List.range on.length).all fun i => (List.range i).all fun j =>
    match on[i]?, on[j]? with
    | some a, some b => !meets a.2.base (s.mboxLen h c a.2) b.2.base (s.mboxLen h c b.2)
    | _, _ => true)

/-! Reduction descriptors (R264, R265). -/

/-- A signed 16-bit number. -/
def signed16 (n : Nat) : Int := if n < 32768 then (n : Int) else (n : Int) - 65536

def State.redAt (s : State) (a : Nat) : RedDesc :=
  { form := s.rd a 1, mbox := s.rd (a + 1) 1, window := signed16 (s.rd (a + 2) 2), count := s.rd (a + 4) 2, localN := s.rd (a + 6) 2,
    rrow := s.rd (a + 8) 1, rcol := s.rd (a + 9) 1, nbuf := s.rd (a + 10) 1, dest := s.rd (a + 12) 4 }

def State.imgReds (s : State) (h : ImgHead) : List RedDesc :=
  (List.range h.redCount).map fun i => s.redAt (h.at_ + h.redTab + 32 * i)

/-- R176: the completion mailbox lists the reduction unit of the receiver's own chip. -/
def State.redMboxOk (s : State) (h : ImgHead) (d : RedDesc) : Bool :=
  if d.rrow < h.rows ∧ d.rcol < h.cols ∧ d.mbox < 16 then
    let c := s.imgCore (h.at_ + h.coreTab + 64 * (d.rrow * h.cols + d.rcol))
    match mboxOfWord (s.mboxWord h c d.mbox) with
    | some b => (s.mboxSources h c b).any fun w => decide ((srcOfWord w).chip = s.fab.chipId) && decide ((srcOfWord w).row = 63#6)
    | none => false
  else true

def State.redOk (s : State) (h : ImgHead) (members i : Nat) : Bool :=
  let a := h.at_ + h.redTab + 32 * i
  let d := s.redAt a
  let n := 16 * d.count * d.nbuf * (if d.form = 2 then members else 1)
  decide (d.form ≤ 2) && decide (d.mbox ≤ 15) && (decide (d.form = 2) || (decide (-400 ≤ d.window) && decide (d.window ≤ 300))) &&
  decide (1 ≤ d.count) && decide (d.count ≤ 1024) && decide (1 ≤ d.localN) && decide (d.localN ≤ (if d.form = 2 then 1 else 1536)) &&
  decide (1 ≤ d.nbuf) && decide (d.nbuf ≤ 64) && decide (d.dest % 64 = 0) && s.zeros (a + 11) 1 && s.zeros (a + 16) 16 &&
  decide (d.rrow < h.rows) && decide (d.rcol < h.cols) && decide (d.dest + n ≤ 0x80000)

/-! The draw plan (R214, R215). -/

def State.planRec (s : State) (a : Nat) : PlanRec :=
  { run := s.rd a 4, mem := s.rd (a + 4) 1, link := s.rd (a + 5) 1, quiet := bit (s.rd (a + 6) 1) 0,
    cur := (List.range 108).filterMap fun k => let v := s.rd (a + 8 + k) 1; if v = 0 then none else some (k, v) }

def State.imgPlan (s : State) (h : ImgHead) : List PlanRec :=
  (List.range h.planRecs).map fun i => s.planRec (h.at_ + h.plan + 128 * i)

/-- R215: some core of the partition has the nominal cluster. -/
def Part.hasCluster (p : Part) (k : Nat) : Bool :=
  (List.range (p.nrows + 1)).any fun i => (List.range (p.ncols + 1)).any fun j => decide (nominalCluster (p.row0 + i) (p.col0 + j) = k)

def State.planOk (s : State) (h : ImgHead) (p : Part) : Bool :=
  ((List.range h.planRecs).all fun i =>
    let a := h.at_ + h.plan + 128 * i
    let r := s.planRec a
    decide (r.run ≠ 0) && decide (s.rd (a + 6) 1 < 2) && s.zeros (a + 7) 1 && s.zeros (a + 0x74) 12 &&
    r.cur.all fun kv => decide (kv.1 % 9 ≠ 8) && p.hasCluster kv.1) &&
  decide ((s.imgPlan h).foldl (fun n r => n + r.run) 0 ≤ 2 ^ 32 - 1)

/-! The membership table (R255, R256, R586). -/

def State.memberCount (s : State) (a : Nat) : Nat := s.rd (a + 2) 2

def State.imgMembers (s : State) (a : Nat) : List Member :=
  (List.range (min 256 (s.memberCount a))).map fun i =>
    let w := s.rd (a + 16 + 8 * i) 8
    { chip := bits w 7 0, gen := bits w 15 8, ports := BitVec.ofNat 18 (bits w 33 16) }

/-- The ports that are UP. -/
def State.upMask (s : State) : BitVec 18 :=
  (List.range 18).foldl (fun (b : BitVec 18) k => if (s.port k).state = .up then b ||| BitVec.ofNat 18 (2 ^ k) else b) 0#18

/-- A slot that is not FREE, or that a LOAD in progress has claimed (R333). -/
def Slot.claims (x : Slot) : Bool := decide (x.state ≠ .free) || x.loading

def State.claimants (s : State) (n : Nat) : List Nat := (s.ctxs Slot.claims).filter fun m => m ≠ n

def State.membersOk (s : State) (n : Nat) : Bool :=
  let x := s.slot n
  let a := x.membersAt.toNat
  let cnt := s.memberCount a
  let ms := s.imgMembers a
  let job := BitVec.ofNat 16 (s.rd a 2)
  s.inTier a 16 && decide (1 ≤ cnt) && decide (cnt ≤ 256) && s.inTier a (16 + 8 * cnt) && s.zeros (a + 4) 12 &&
  ((List.range cnt).all fun i => decide (bits (s.rd (a + 16 + 8 * i) 8) 63 34 = 0)) && noDup (ms.map Member.chip) &&
  (match ms.find? fun m => decide (m.chip = s.fab.chipId.toNat) with
   | none => false
   | some me =>
     decide (me.gen = x.nextGen.toNat) && decide (me.ports &&& ~~~s.upMask = 0#18) &&
     (decide (cnt = 1) || ms.all fun m => decide (m.chip = me.chip) || decide (m.ports &&& me.ports ≠ 0#18))) &&
  !((s.claimants n).any fun m => decide ((s.slot m).job = job)) &&
  (decide (cnt = 1) || (s.up.joined && s.fab.chipValid))

/-! The memory layout and the park area (R284, R332 to R334, R345). -/

def State.layoutCount (s : State) (a : Nat) : Nat := s.rd a 2

def State.imgExtents (s : State) (a : Nat) : List Extent :=
  (List.range (min 64 (s.layoutCount a))).map fun i =>
    let w0 := s.rd (a + 16 + 16 * i) 8
    let w1 := s.rd (a + 24 + 16 * i) 8
    { base := bits w0 47 0, len := bits w1 47 0, kind := bits w0 49 48, wr := bit w0 50 }

def State.extentOk (s : State) (e : Extent) : Bool :=
  decide (e.len ≠ 0) &&
  (if e.kind ≤ 1 then decide (e.base % 0x10000 = 0) && decide (e.len % 0x10000 = 0) && decide (e.base + e.len ≤ t1End)
   else decide (e.kind = 2) && decide (e.base % 4096 = 0) && decide (e.len % 4096 = 0) && decide (t2Base ≤ e.base) &&
     decide (e.base + e.len ≤ s.t2top))

/-- The areas of a context that lie in its owner's windows: image, table, layout, extents and park area (R345). -/
def State.areasOk (s : State) (n parkLen : Nat) : Bool :=
  let x := s.slot n
  let f := x.owner.toNat
  s.reaches f x.image.toNat 256 && s.reaches f x.membersAt.toNat (16 + 8 * s.memberCount x.membersAt.toNat) &&
  s.reaches f x.layoutAt.toNat (16 + 16 * s.layoutCount x.layoutAt.toNat) && s.reaches f x.park.toNat parkLen &&
  (s.imgExtents x.layoutAt.toNat).all fun e => s.reaches f e.base e.len

def State.layoutOk (s : State) (n parkLen : Nat) : Bool :=
  let a := (s.slot n).layoutAt.toNat
  let cnt := s.layoutCount a
  let es := s.imgExtents a
  s.inTier a 16 && decide (1 ≤ cnt) && decide (cnt ≤ 64) && s.inTier a (16 + 16 * cnt) && s.zeros (a + 2) 14 &&
  ((List.range cnt).all fun i => decide (bits (s.rd (a + 16 + 16 * i) 8) 63 51 = 0) && decide (bits (s.rd (a + 24 + 16 * i) 8) 63 48 = 0)) &&
  es.all s.extentOk &&
  ((List.range cnt).all fun i => (List.range i).all fun j =>
    match es[i]?, es[j]? with
    | some b, some c => !meets b.base b.len c.base c.len
    | _, _ => true) &&
  s.areasOk n parkLen

/-- A range meets an extent or the park area of another slot that is not FREE. -/
def State.taken (s : State) (n a len : Nat) : Bool :=
  (s.claimants n).any fun m =>
    (s.slot m).extents.any (fun e => meets a len e.base e.len) || meets a len (s.slot m).park.toNat (s.parkLen m)

def State.parkOk (s : State) (n parkLen : Nat) : Bool :=
  let x := s.slot n
  let a := x.park.toNat
  decide (a % 4096 = 0) && decide (t2Base ≤ a) && decide (a + parkLen ≤ s.t2top) && !s.taken n a parkLen &&
  (s.imgExtents x.layoutAt.toNat).all fun e => !meets a parkLen e.base e.len

/-! The order of R331. -/

def Part.cores (p : Part) : Nat := (p.nrows + 1) * (p.ncols + 1)

def State.partAbsent (s : State) (p : Part) : Bool := (List.range (p.nrows + 1)).any fun i => !s.rowPresent (p.row0 + i)

/-- R331: the reason of the first check that fails for a LOAD of slot n into partition k, 0 where none does. -/
def State.loadReason (s : State) (n k : Nat) : Nat :=
  let x := s.slot n
  let p := s.part k
  let h := s.imgHead x.owner.toNat x.image.toNat
  let ms := s.imgMembers x.membersAt.toNat
  let chips := ms.map Member.chip
  let parkLen := p.cores * 0x100000
  if !s.headOk h then 1
  else if h.rows ≠ p.nrows + 1 ∨ h.cols ≠ p.ncols + 1 then 2
  else if !s.coreTabOk h then 1
  else if !((s.imgCores h).all (s.mboxesOk h p chips) && (s.imgReds h).all (s.redMboxOk h)) then 3
  else if !s.planOk h p then 4
  else if !s.membersOk n then 5
  else if !((List.range h.redCount).all (s.redOk h ms.length)) then 6
  else if !s.layoutOk n parkLen then 7
  else if (s.imgExtents x.layoutAt.toNat).any fun e => s.taken n e.base e.len then 8
  else if !s.parkOk n parkLen then 9
  else if p.valid = false ∨ p.owner ≠ x.owner.toNat ∨ s.partAbsent p then 10
  else if (s.occupant k).isSome then 11
  else 0

/-- Ranges that lie in device memory are read (R301, R303). -/
def State.readAll (s : State) (k : Nat) (rs : List (Nat × Nat)) : State :=
  rs.foldl (fun b r => if r.2 ≠ 0 ∧ b.inTier r.1 r.2 then (b.touch r.1 r.2 k).2 else b) s

/-- R331: what a LOAD of slot n into partition p reads, as far as its checks let it go on (log entry 28). -/
def State.readImage (s : State) (n : Nat) (p : Part) : State :=
  let x := s.slot n
  let k := n + 1
  let s := s.readAll k [(x.image.toNat, 256)]
  let h := s.imgHead x.owner.toNat x.image.toNat
  if !s.headOk h ∨ h.rows ≠ p.nrows + 1 ∨ h.cols ≠ p.ncols + 1 ∨ h.fits h.coreTab (64 * h.rows * h.cols) = false then s
  else
    let s := s.readAll k [(h.at_ + h.coreTab, 64 * h.rows * h.cols)]
    if !s.coreTabOk h then s
    else
      let s := s.readAll k ((s.imgCores h).flatMap fun c =>
        [(h.at_ + c.mbox, 128), (h.at_ + c.src, 8 * c.srcN), (h.at_ + c.image, c.imageLen)])
      let s := s.readAll k [(h.at_ + h.plan, 128 * h.planRecs), (h.at_ + h.redTab, 32 * h.redCount), (x.membersAt.toNat, 16)]
      let s := s.readAll k [(x.membersAt.toNat + 16, 8 * min 256 (s.memberCount x.membersAt.toNat)), (x.layoutAt.toNat, 16)]
      s.readAll k [(x.layoutAt.toNat + 16, 16 * min 64 (s.layoutCount x.layoutAt.toNat))]

/-- The program of an image, with the defaults of R210. -/
def State.imgProg (s : State) (h : ImgHead) : StepProg :=
  let a := h.at_
  let beat := s.rd (a + 8) 4
  let kind := s.rd (a + 0x0C) 4
  { rows := h.rows, cols := h.cols, beatNs := if beat = 0 then 10000 else beat, kindNs := if kind = 0 then 2000 else kind,
    firstRel := s.rd (a + 0x10) 8, gapNs := s.rd (a + 0x18) 4, minPeriod := s.rd (a + 0x20) 8, stepCount := s.rd (a + 0x28) 8,
    plan := s.imgPlan h, descs := s.imgReds h }

/-- The entries of a list that differ from a default, by index. -/
def toTbl {α : Type} [DecidableEq α] (d : α) (l : List α) : Tbl α :=
  (l.zipIdx.filter fun e => decide (e.1 ≠ d)).map fun e => (e.2, e.1)

/-- R212, R330 steps 1 and 2: a core as a load leaves it. -/
def State.loadedCore (s : State) (h : ImgHead) (c : ImgCore) (r : Resident) : Core :=
  { Core.reset with
    res := some r, entry := BitVec.ofNat 64 c.entry, stopped := true, pc := BitVec.ofNat 64 c.entry,
    sp := Mem.write [] 0 (s.mem.raw (h.at_ + c.image) c.imageLen),
    desc := toTbl none ((List.range 16).map fun m => mboxOfWord (s.mboxWord h c m)),
    srcTab := toTbl SrcEntry.zero ((List.range c.srcN).map fun i => srcOfWord (s.srcWord h c i)) }

/-- The logical positions of a partition, row by row, with their place in it. -/
def Part.places (p : Part) : List (Nat × Nat) :=
  (List.range (p.nrows + 1)).flatMap fun i => (List.range (p.ncols + 1)).map fun j => (p.row0 + i, p.col0 + j)

/-- The cores of slot n's partition written anew, one by one, by f of the place's index. -/
def State.placeCores (s : State) (p : Part) (f : Nat → Nat × Nat → Core) : State :=
  p.places.zipIdx.foldl (fun a e => match a.phys e.1.1 e.1.2 with
    | some k => a.modCore k fun c => { f e.2 e.1 with drop := c.drop }
    | none => a) s

end Sys2Proof.Machine
end

