-- ==== Sys2Proof/Machine/CtxOps.lean ====
section
/-! DEFINITION. The context commands (R326 to R341), partitions (R335), and the application of repairs (R89 to R92). -/

namespace Sys2Proof.Machine

/-! Command results (R326, R327, R346). -/

/-- CW offset of a slot's CTX_CMD. -/
def ctxCmdOff (n : Nat) : Nat := 0x20000 + 128 * n + 0x40

/-- A result becomes final: the CTX interrupt (R547). -/
def State.ctxFinal (s : State) (n : Nat) (r : CtxResult) : State := (s.modSlot n fun x => { x with result := r }).raiseSlot 1 n

/-- R326, R327, R345: a CTX_CMD write of function fn. A virtual function reaches its own slots only; while the result is BUSY a
command other than ABORT and TEARDOWN is ignored and counted. -/
def State.ctxCommand (s : State) (fn n : Nat) (ends : Bool) (act : State → State) : State :=
  s.byHost fn fun s =>
  if fn ≠ 0 ∧ fn ≠ (s.slot n).owner.toNat then s.deny fn 0 0 (ctxCmdOff n) true
  else if (s.slot n).result = .busy ∧ ends = false then s.modSlot n fun x => { x with lost := satAdd 0xFFFF x.lost 1 }
  else act s

/-- R22, R326: LOAD, START, PARK and RESTORE: the service state first, then the slot's. -/
def State.ctxPermit (s : State) (n : Nat) (ok : Bool) (act : State → State) : State :=
  if s.serviceUp = false then s.ctxFinal n .refusedService
  else if ok = false then s.ctxFinal n .refusedState
  else act s

/-- A salt rotation of the context is under way (R295). -/
def State.rotating (s : State) (n : Nat) : Bool := s.mem.rotation.any fun r => r.1 = n

/-! Loading (R330, R331). -/

/-- R216, R237, R330: what an accepted LOAD does at once. STATE follows when the copy is complete. -/
def State.loadAccept (s : State) (n k : Nat) : State :=
  let x := s.slot n
  let p := s.part k
  let h := s.imgHead x.owner.toNat x.image.toNat
  let prog := s.imgProg h
  let cs := s.imgCores h
  let y := { x with
    gen := x.nextGen, part := BitVec.ofNat 4 k, cause := 0#8, reason := 0#8, done := false, parkPend := none, result := .busy,
    busy := some .load, prog, step := { StepState.reset with rel := prog.firstRel, beatLen := prog.beatNs }, job := BitVec.ofNat 16 (s.rd x.membersAt.toNat 2),
    members := s.imgMembers x.membersAt.toNat, extents := s.imgExtents x.layoutAt.toNat, noChip := !s.fab.chipValid, snap := [],
    snapGood := false, pw := { Progress.reset with limit := x.pw.limit, snapOn := x.pw.snapOn } }
  let t := s.placeCores p fun i rc => match cs[i]? with
    | some c => s.loadedCore h c { slot := n, lrow := rc.1, lcol := rc.2 }
    | none => Core.reset
  (t.setSlot n y).translate n

/-- LOAD. -/
def State.ctxLoad (s : State) (fn n : Nat) : State :=
  s.ctxCommand fn n false fun s =>
    let k := bits (s.slot n).arg.toNat 3 0
    if s.up.drained then s.ctxFinal n .refusedService
    else s.ctxPermit n (decide ((s.slot n).state = .free) && !((s.part k).valid && (s.partCores k).any s.coreInReset)) fun s =>
      let s := s.readImage n (s.part k)
      let r := s.loadReason n k
      if r = 0 then s.loadAccept n k
      else ((s.modSlot n fun x => { x with reason := BitVec.ofNat 8 r }).ctxRecord 1 n r).ctxFinal n .invalid

/-- LOAD_COMPLETE: the copy, the permutation of R285 and the translation are done. -/
def State.loadComplete (s : State) (n : Nat) : State :=
  let x := s.slot n
  if x.loading = true ∧ ¬ (x.salt ≠ 0#32 ∧ s.anyStopped = true) then
    let s := if x.salt = 0#32 then s else s.moveStripes x 0 x.stripes
    (s.modSlot n fun x => { x with state := .loaded, busy := none }).ctxFinal n .ok
  else s

/-! Starting (R219, R326, R329). -/

/-- R329 steps 2 and 3 on one core. -/
def Core.rerun (c : Core) : Core :=
  { c with g := [], p := [], v := [], pc := c.entry, asw := 0#32, tiles := [], bundle := [], holding := false, waiting := false, armed := false,
           ended := false, arrived := false, tried := none, arms := 0, waves := 0, armFrom := none, fetched := [], fetchWait := 0, mbox := [], expSeq := [],
           credits := [], grants := [], creditDue := [], sendWait := SendWait.none, recvWait := none, creditStall := 0#64, sent := 0#32, returned := 0#32 }

/-- The credits that the reduction units hold toward a slot's cores, and its open instances, are discarded. -/
def State.dropReductions (s : State) (n : Nat) : State :=
  { s with fab := { s.fab with redCredits := s.fab.redCredits.filter fun e => !s.redMine n e, insts := s.fab.insts.filter fun i => i.slot ≠ n } }

/-- The credits of a snapshot come back. -/
def State.putReductions (s : State) (n : Nat) : State :=
  let s := s.dropReductions n
  { s with fab := { s.fab with redCredits := s.fab.redCredits ++ (s.slot n).snapRed } }

/-- START. R296: one that arrives during a rotation is judged against R219 when the rotation completes. -/
def State.ctxStart (s : State) (fn n : Nat) : State :=
  s.ctxCommand fn n false fun s => s.ctxPermit n (decide ((s.slot n).state = .loaded)) fun s =>
    let x := s.slot n
    let rel := if x.arg = 0#64 then x.prog.firstRel else x.arg.toNat
    let s := if x.done then
        ((s.modCores (s.coresOf n) Core.rerun).dropReductions n).modSlot n fun x =>
          { x with done := false, step := { StepState.reset with rel, beatLen := x.prog.beatNs } }
      else s
    let s := (s.modStep n fun st => { st with pendingRel := some rel, nextPace := 256 }).ctxFinal n .ok
    if s.rotating n ∨ s.inTime rel then s.preBias n else s.missRelease n

/-! Parking and restoring (R334, R336, R337). -/

/-- The snapshot of a park: whole pages are written (R307). -/
def State.parkSnap (s : State) (n : Nat) : State :=
  let a := (s.slot n).park.toNat
  let len := s.parkLen n
  let lo := (a - t2Base) / 4096
  (((s.modCores (s.coresOf n) Core.stop).takeSnap n).trafficSpan a len true (n + 1)).pagesWritten lo (lo + len / 4096)

/-- PARK. -/
def State.ctxPark (s : State) (fn n : Nat) : State :=
  s.ctxCommand fn n false fun s =>
    let x := s.slot n
    let at_ := x.arg.toNat
    s.ctxPermit n (decide (x.state = .loaded) || decide (x.state = .running)) fun s =>
      let begun := fun s : State => s.modSlot n fun x => { x with busy := some .park, result := .busy, snap := [], snapGood := false,
                                                                  pw := { x.pw with snapValid := false } }
      if x.state = .loaded then (begun (s.modStep n fun st => { st with pendingRel := none })).parkSnap n
      else if at_ < x.step.index ∨ (x.prog.stepCount ≠ 0 ∧ x.prog.stepCount ≤ at_) then s.ctxFinal n .badarg
      else (begun s).modSlot n fun x => { x with parkPend := some at_ }

/-- PARK_SNAPSHOT (R336): the barrier of step s is complete, and the local instant of REL(s + 1) has come; a job of one member parks at its
arrival. -/
def State.ctxParkSnapshot (s : State) (n : Nat) : State :=
  let x := s.slot n
  let due := x.step.next.any fun r => decide (x.members.length ≤ 1) || s.dueAt r.1
  if x.state = .running ∧ x.busy = some .park ∧ x.snapGood = false ∧ x.parkPend = some x.step.index ∧ due = true then s.parkSnap n
  else s

/-- PARK_COMPLETE: the context holds no cores; CHECK is the module's own value (R346). -/
def State.ctxParked (s : State) (n : Nat) : State :=
  let x := s.slot n
  if x.busy = some .park ∧ x.snapGood = true then
    let d := s.draw1
    let s := (d.2.dropReductions n).modCores (s.coresOf n) Core.cleared
    let last := decide (x.state = .running) && decide (x.prog.stepCount ≠ 0) && decide (x.prog.stepCount ≤ x.step.index + 1)
    let q := (x.step.next.map Prod.snd).getD x.step.nextPace
    ((s.setSlot n { x with state := .parked, done := x.done || last, parkPend := none, busy := none, check := BitVec.ofNat 32 d.1,
                           step := { x.step with next := none, pendingRel := none, nextPace := q } }).ctxFinal n .ok).settle
  else s

/-- RESTORE. -/
def State.ctxRestore (s : State) (fn n : Nat) : State :=
  s.ctxCommand fn n false fun s =>
    let x := s.slot n
    let k := s.partOf n
    s.ctxPermit n (decide (x.state = .parked) && (s.occupant k).isNone && !(s.partCores k).any s.coreInReset) fun s =>
      let s := s.setSlot n { x with busy := some .restore, result := .busy, step := { x.step with pendingRel := some x.arg.toNat } }
      s.placeCores (s.part k) fun _ rc => { Core.reset with res := some { slot := n, lrow := rc.1, lcol := rc.2 }, stopped := true }

/-- The snapshot's cores come back by logical coordinate, on the positions that serve them now. -/
def State.putCores (s : State) (n : Nat) (cs : List ParkedCore) : State :=
  cs.foldl (fun a c => match a.phys c.lrow c.lcol with
    | some k => a.modCore k fun old => { c.core with res := some { slot := n, lrow := c.lrow, lcol := c.lcol }, drop := old.drop }
    | none => a) s

/-- The park area is read back: its pages are decoded, and the check holds where nothing has changed them. -/
def State.readPark (s : State) (n : Nat) : Bool × State :=
  let r := s.touch (s.slot n).park.toNat (s.parkLen n) (n + 1)
  (r.1 && (s.slot n).snapGood, r.2)

/-- RESTORE_COMPLETE. A context restored with DONE set waits for a START (log entry 29). -/
def State.ctxRestored (s : State) (n : Nat) : State :=
  let x := s.slot n
  if x.state ≠ .parked ∨ x.busy ≠ some .restore then s
  else
    let r := s.readPark n
    let s := r.2
    if r.1 = false then
      (((s.modSlot n fun x => { x with reason := 0x09#8 }).ctxRecord 2 n 0x09).endCtx n .aborted 0 true).modSlot n
        (fun x => { x with result := .invalid }) |>.raiseSlot 1 n
    else
      let s := (s.putCores n x.snap).putReductions n
      let s := (s.modSlot n fun x => { x with state := .loaded, busy := none,
                                              step := { x.step with pendingRel := if x.done then none else x.step.pendingRel } }).ctxFinal n .ok
      match (s.slot n).step.pendingRel with
      | some rel => if s.rotating n ∨ s.inTime rel then s.preBias n else s.missRelease n
      | none => s

/-! Abort and teardown (R326, R327, R340, R341, R508). -/

/-- R508: a context leaves SUSPECT other than by REPLAY: an L1 reset of the faulting core. -/
def State.suspectL1 (s : State) (n : Nat) : State := s.ownReset 1 (s.slot n).pw.fcore 0x0D

/-- ABORT. -/
def State.ctxAbort (s : State) (fn n : Nat) : State :=
  s.ctxCommand fn n true fun s =>
    let x := s.slot n
    if x.state = .suspect then ((s.endCtx n .aborted x.cause.toNat true).ctxFinal n .ok).suspectL1 n
    else if x.abortable then
      (((s.endCtx n .aborted 0x09 true).abortDecision n 0x09 0xFF).ctxFinal n .ok).settle
    else s.ctxFinal n .refusedState

/-- Logical core (r, c) lies in slot n's partition. -/
def State.inPart (s : State) (n r c : Nat) : Bool :=
  let p := s.part (s.partOf n)
  decide (p.row0 ≤ r) && decide (r ≤ p.row0 + p.nrows) && decide (p.col0 ≤ c) && decide (c ≤ p.col0 + p.ncols)

/-- A message from or to a core of slot n. -/
def State.msgOf (s : State) (n : Nat) (m : Msg) : Bool :=
  (decide (m.srcChip = s.fab.chipId) && s.inPart n m.srcRow.toNat m.srcCol.toNat) ||
  (decide (m.dstChip = s.fab.chipId) && s.inPart n m.dstRow.toNat m.dstCol.toNat)

/-- A frame of slot n that is not an abort frame. -/
def State.frameOf (s : State) (n : Nat) (f : Frame) : Bool :=
  if f.type = 0x01#8 then s.msgOf n (frameMsg f)
  else if f.type = 0x02#8 ∨ f.type = 0x03#8 then decide (bits f.w1.toNat 57 42 = (s.slot n).job.toNat)
  else decide (f.type = 0x04#8) && decide (bits f.w1.toNat 15 0 = (s.slot n).job.toNat)

/-- R340: what slot n has in the mesh, and in the ports that no sequence number has been given to, is discarded. -/
def State.dropTraffic (s : State) (n : Nat) : State :=
  let s' := { s with mesh := s.mesh.filter fun m => !s.msgOf n m }
  (List.range 18).foldl (fun a k => a.modPort k fun p => { p with queue := p.queue.filter fun f => !s.frameOf n f }) s'

/-- R340 step 3: the DMA rows that a channel had already started reach device memory. -/
def State.flushDmas (s : State) (n : Nat) : State :=
  (s.coresOf n).foldl (fun a k => (a.core k).dmas.foldl (fun b d => b.dmaFlush d) a) s

/-- R340 steps 3 to 5, R492: the fence; the L1 reset of a core that was cut off follows it. -/
def State.fence (s : State) (n : Nat) : State :=
  let s := (s.flushDmas n).dropTraffic n
  let x := s.slot n
  let cut := (s.coresOf n).filter fun k => (s.core k).cut
  let s := s.modCores (s.coresOf n) Core.cleared
  let y := { Slot.reset with gen := x.gen, nextGen := x.gen + 1#8, part := x.part, cause := x.cause, owner := x.owner, image := x.image,
                             membersAt := x.membersAt, layoutAt := x.layoutAt, park := x.park, salt := x.salt, arg := x.arg,
                             reason := x.reason, lost := x.lost, check := x.check, step := { x.step with pendingRel := none, next := none } }
  let s := (((s.setSlot n y).dropReductions n).ctxRecord 3 n x.cause.toNat).ctxFinal n .ok
  cut.foldl (fun a k => a.ownReset 1 k 0x03) s

/-- R340 steps 1 to 3 on one core: buffers, credits and queued requests go; a DMA already in a channel completes. -/
def Core.torn (c : Core) : Core :=
  { c.stop with outbound := [], credits := [], grants := [], offloads := [], contribs := [], m0 := [], m1 := [],
                dmas := (c.dmas.filter fun d => decide (d.moved ≠ 0)).map fun d => { d with rows := d.moved } }

/-- A slot that TEARDOWN acts on. -/
def Slot.tearable (x : Slot) : Bool := x.loading || (decide (x.state ≠ .free) && decide (x.state ≠ .torn))

/-- R340: a slot goes to TORN. In BENCHED it reads FREE at once (R22). -/
def State.tear (s : State) (n : Nat) : State :=
  let x := s.slot n
  let live := x.abortable
  let sus := x.state = .suspect
  let s := s.endCtx n .torn (if live then 0x09 else x.cause.toNat) true
  let s := if live then s.abortDecision n 0x09 0xFF else s
  let s := (((s.modCores (s.coresOf n) Core.torn).dropTraffic n).dropReductions n).modSlot n fun x => { x with result := .busy, pw := { x.pw with snapValid := false } }
  let s := if sus then s.suspectL1 n else s
  (if s.svc = .benched then s.fence n else s).settle

/-- TEARDOWN. -/
def State.ctxTeardown (s : State) (fn n : Nat) : State :=
  s.ctxCommand fn n true fun s => if (s.slot n).tearable then s.tear n else s.ctxFinal n .refusedState

/-- TEARDOWN_FENCE. In SAVING the slot stays TORN (R22). -/
def State.ctxFence (s : State) (n : Nat) : State :=
  if (s.slot n).state = .torn ∧ s.svc ≠ .saving then s.fence n else s

/-! Partitions (R335). -/

def partOfWord (w : Nat) : Part :=
  { row0 := bits w 5 0, nrows := bits w 13 8, col0 := bits w 20 16, ncols := bits w 28 24, valid := bit w 32, owner := bits w 45 40,
    result := 0 }

/-- Two partitions share a position. -/
def Part.overlaps (p q : Part) : Bool :=
  meets p.row0 (p.nrows + 1) q.row0 (q.nrows + 1) && meets p.col0 (p.ncols + 1) q.col0 (q.ncols + 1)

/-- R335: the result of a write of PART_DEF[k]. -/
def State.partResult (s : State) (k : Nat) (p : Part) : Nat :=
  if s.liveSlots.any fun n => (s.slot n).claims && decide ((s.slot n).part.toNat = k) then 2
  else if p.valid = false then 1
  else if 47 < p.row0 + p.nrows ∨ 31 < p.col0 + p.ncols then 3
  else if (List.range 16).any fun j => decide (j ≠ k) && (s.part j).valid && p.overlaps (s.part j) then 4
  else if s.partAbsent p then 5
  else 1

def State.partDef (s : State) (fn k : Nat) (v : BitVec 64) : State :=
  s.gated fn (0x48000 + 16 * k) fun s =>
    let p := partOfWord v.toNat
    let r := s.partResult k p
    s.setPart k (if r = 1 then { p with result := 1 } else { s.part k with result := r })

/-! Repairs (R89 to R92). -/

/-- R91: the bits of row r that the regions with a failed regulator require. -/
def State.failedBits (s : State) (r : Nat) : BitVec 36 :=
  (List.range 18).foldl (fun (b : BitVec 36) c =>
    if (s.region ((r / 2) * 18 + c)).regfail then b ||| BitVec.ofNat 36 (3 * 2 ^ (2 * c)) else b) 0#36

/-- R92. -/
def State.keepRetireWrite (s : State) (fn r : Nat) (v : BitVec 36) : State :=
  s.gated fn (keepRetire r) fun s => s.keepWrite (keepRetire r) ((v ||| s.failedBits r).zeroExtend 64)

/-- R89: the rows whose mask is to change and that no RUNNING context's partition contains. -/
def State.pendingRows (s : State) : List Nat :=
  (List.range 48).filter fun r =>
    decide (s.activeMask r ≠ s.targetMask r) && !s.runningSlots.any fun n => (s.part (s.partOf n)).hasRow r

/-- GRID record (R93, R525): the old and the new mask. -/
def State.gridRecord (s : State) (r : Nat) (old new : BitVec 36) : State := s.record 0x020 (1 + field r 6 1) [old.toNat, new.toNat]

/-- R89, R90, R216, R378: one boundary. The state of the resident cores of the rows moves with their logical coordinates (log entry 27). The
application takes an open time of at most 300 µs LT, in which a release does not reach the cores of its rows (log entry 133). -/
def State.applyRows (s : State) (rs : List Nat) : State :=
  let moved : List (Nat × ParkedCore) := s.cores.filterMap fun kc => match kc.2.res with
    | some r => if rs.contains r.lrow then some (r.slot, { lrow := r.lrow, lcol := r.lcol, core := kc.2 }) else none
    | none => none
  let s := s.modCores ((s.cores.map Prod.fst).filter fun k => match (s.core k).res with
    | some r => rs.contains r.lrow
    | none => false) Core.cleared
  let s := rs.foldl (fun a r =>
    let old := a.activeMask r
    let new := a.targetMask r
    ({ a with grid := { a.grid with active := Tbl.set 0#36 a.grid.active r new } }).gridRecord r old new) s
  let s := ((rs.map (· / 2)).eraseDups).foldl State.regatePair s
  let s := s.dropGuards.updateRows
  let s := moved.foldl (fun a m => a.putCores m.1 [m.2]) s
  let s := (s.ctxs Slot.claims).foldl (fun a n => a.translate n) s
  let d := s.draw1
  { d.2 with grid := { d.2.grid with applying := rs ++ d.2.grid.applying, applyTill := max d.2.grid.applyTill (d.2.lt + d.1 % 300001) } }

/-- R89: in service, the pending rows at their boundary. -/
def State.repairApply (s : State) : State :=
  let rs := s.pendingRows
  if rs.isEmpty ∨ s.serviceUp = false then s else (s.applyRows rs).settle

end Sys2Proof.Machine
end

