-- ==== Sys2Proof/Machine/MemExec.lean ====
section
/-! DEFINITION. The commands of the memory system (R289 to R320) and of the memory window (R278, R507, R543 to R545). -/

namespace Sys2Proof.Machine

/-- A write to a register of the memory controllers: GATED, ignored under reset (R496). -/
def State.memGated (s : State) (fn off : Nat) (act : State → State) : State := s.gated fn off fun s => if s.l3Runs then s else act s

/-! Scrub (R311). -/

/-- The codewords of tier 1, and the pages of tier 2 with its parity region. -/
def t1Words : Nat := t1End / 64
def t2Pages : Nat := 402653184

/-- Symbols that went bad in stored codewords or pages: the unit, the symbol's place and the bits that differ (log entry 147). A place or
a unit that does not exist holds nothing. -/
def State.addErrs (s : State) (t2 : Bool) (errs : List (Nat × Nat × Nat)) : State :=
  let join := fun (t : Tbl (Tbl Nat)) (x : Nat × Nat × Nat) => Tbl.update [] t x.1 fun e => Tbl.update 0 e x.2.1 (· ^^^ x.2.2)
  if t2 then
    s.modMem fun m => { m with err2 := (errs.filter fun x => decide (x.1 < t2Pages) && decide (x.2.1 < 2731 + 2 * s.t2t) &&
      decide (x.2.2 < 4096)).foldl join m.err2 }
  else
    s.modMem fun m => { m with err1 := (errs.filter fun x => decide (x.1 < t1Words) && decide (x.2.1 < 78) &&
      decide (x.2.2 < 256)).foldl join m.err1 }

/-- R311: the pass moves on past a unit. A completed pass counts; one whose period is over gives way to the next at once. -/
def Pass.next (p : Pass) (size lt : Nat) : Pass :=
  if p.pos + 1 < size then { p with pos := p.pos + 1 }
  else if p.overran then { Pass.reset with start := lt }
  else { p with pos := size, done := true }

def State.scrubbed (s : State) (t2 : Bool) : State :=
  if t2 then
    s.modMem fun m => { m with t2Pass := m.t2Pass.next t2Pages s.lt,
                               t2Passes := if m.t2Pass.pos + 1 < t2Pages then m.t2Passes else m.t2Passes + 1#16 }
  else
    let t := s.modMem fun m => { m with t1Pass := m.t1Pass.next t1Words s.lt }
    if s.mem.t1Pass.pos + 1 < t1Words then t
    else (List.range 8).foldl (fun a k => a.modStack k fun x => { x with passes := x.passes + 1#16 }) t

/-- R311: a scrub read can take place in a tier. -/
def State.scrubs (s : State) (t2 : Bool) : Bool :=
  if t2 then decide (s.mem.t2ScrubH ≠ 0) && s.mem.t2Filled && !s.mem.t2Pass.done
  else decide (s.mem.t1ScrubH ≠ 0) && s.mem.t1Filled && !s.mem.t1Pass.done && !s.blocked (64 * s.mem.t1Pass.pos) 64

/-- R301, R303, R311: further symbols have gone bad, and the scrub reads the next codeword or page of its pass. A granule counts with
its first codeword. -/
def State.scrub (s : State) (t2 : Bool) (errs : List (Nat × Nat × Nat)) : State :=
  let s := s.addErrs t2 errs
  if s.scrubs t2 = false then s
  else if t2 then
    let p := s.mem.t2Pass.pos
    (((s.trafficFor (t2Base + 4096 * p) false 0).decode2 p true).2).scrubbed true
  else
    let w := s.mem.t1Pass.pos
    (((if w % 4 = 0 then s.trafficFor (64 * w) false 0 else s).decode1 w true).2).scrubbed false

def execScrubRead (tier2 : Bool) (errs : List (Nat × Nat × Nat)) (s : State) : Host.Outcome State Fault Refusal := .next (s.scrub tier2 errs)

/-- R311: the period of a pass, ns LT. -/
def scrubNs (hours : Nat) : Nat := hours * 3600000000000

/-- R311: the end of a pass's period: the next pass begins, or the unfinished one goes on and counts in OVERRUNS, once (log entry 148). -/
def Pass.periodEnd (p : Pass) (lt : Nat) : Pass × Nat :=
  if p.done then ({ Pass.reset with start := lt }, 0) else if p.overran then (p, 0) else ({ p with overran := true }, 1)

/-- R311: a scrub period ends; 0 hours stop the scrub. -/
def State.scrubPeriod (s : State) (t2 : Bool) : State :=
  let m := s.mem
  let h := if t2 then m.t2ScrubH else m.t1ScrubH
  let p := if t2 then m.t2Pass else m.t1Pass
  if h = 0 ∨ (if t2 then m.t2Filled else m.t1Filled) = false ∨ s.lt < p.start + scrubNs h then s
  else
    let r := p.periodEnd s.lt
    s.modMem fun m => { m with t1Pass := if t2 then m.t1Pass else r.1, t2Pass := if t2 then r.1 else m.t2Pass,
                               overruns := satAdd 0xFFFF m.overruns r.2 }

def execScrubPeriodEnd (tier2 : Bool) (s : State) : Host.Outcome State Fault Refusal := .next (s.scrubPeriod tier2)

/-! The memory window (R543 to R545). -/

/-- R278: the scratchpad aperture. -/
def apBase : Nat := 0x080000000000
def apEnd : Nat := apBase + 1536 * 0x80000
def apCore (a : Nat) : Nat × Nat := ((a - apBase) / 0x80000 / 32, (a - apBase) / 0x80000 % 32)

/-- A function owns a VALID partition that holds a logical core (R343, R545). -/
def State.ownsCore (s : State) (fn : Nat) (rc : Nat × Nat) : Bool :=
  (List.range 16).any fun k =>
    let p := s.part k
    p.valid && decide (p.owner = fn) && decide (p.row0 ≤ rc.1) && decide (rc.1 ≤ p.row0 + p.nrows) && decide (p.col0 ≤ rc.2) &&
    decide (rc.2 ≤ p.col0 + p.ncols)

/-- The logical cores that n bytes of the aperture touch. -/
def apCores (a n : Nat) : List (Nat × Nat) :=
  (List.range ((a + n - 1 - apBase) / 0x80000 + 1 - (a - apBase) / 0x80000)).map fun i => apCore (a + i * 0x80000)

/-- Where n bytes of MW from a lie: some true the aperture, some false device memory, none where nothing is mapped for the function. -/
def State.mwPlace (s : State) (fn a n : Nat) : Option Bool :=
  if apBase ≤ a ∧ a + n ≤ apEnd then
    if fn = 0 ∨ (apCores a n).all (s.ownsCore fn) then some true else none
  else if s.inTier a n ∧ s.reaches fn a n then some false else none

/-- A byte of the aperture. -/
def State.apByte (s : State) (a : Nat) : Byte :=
  let rc := apCore a
  match s.phys rc.1 rc.2 with
  | some k => Mem.read8 (s.core k).sp ((a - apBase) % 0x80000)
  | none => 0#8

/-- The 64-byte units that n bytes from a touch. -/
def unitsOf (a n : Nat) : List Nat := (List.range ((a + n - 1) / 64 + 1 - a / 64)).map fun i => 64 * (a / 64 + i)

/-- R544: reads of the units, with 0xFF where one is poisoned or uncorrectable. -/
def State.mwUnits (s : State) (us : List Nat) : List Byte × Bool × State :=
  us.foldl (fun a u =>
    let r := a.2.2.readUnit u (decide (us.head? = some u))
    match r.1 with
    | some bs => (a.1 ++ bs, a.2.1, r.2)
    | none => (a.1 ++ List.replicate 64 0xFF#8, true, r.2)) ([], false, s)

/-- The tier at an address is filled (R289). -/
def State.filledAt (s : State) (a : Nat) : Bool := if a < t1End then s.mem.t1Filled else s.mem.t2Filled

def State.earlyAccess (s : State) : State := s.modMem fun m => { m with earlyAccess := true }

/-- Bytes of a codeword or page with some replaced. -/
def merge (old : List Byte) (at_ : Nat) (bs : List Byte) : List Byte := old.take at_ ++ bs ++ old.drop (at_ + bs.length)

/-- R307: one codeword or page of a host write; the bytes lie in it. -/
def State.mwUnit (s : State) (a : Nat) (bs : List Byte) : State :=
  if a < t1End ∧ a % 64 = 0 ∧ bs.length = 64 then s.write1 a bs
  else
    let r := if a < t1End then s.decode1 (a / 64) false else s.decode2 ((a - t2Base) / 4096) false
    if r.1 then r.2.modMem fun m => m.store a bs else r.2.record 0x052 (memKey 1 a) [a]

/-- R290, R307: the granule or page of a part of a host write is read, where some codeword of it is written in part, and written. -/
def State.mwTraffic (s : State) (a n : Nat) : State :=
  if a < t1End ∧ a % 64 = 0 ∧ n % 64 = 0 then s.traffic a true else (s.traffic a false).traffic a true

/-- A host write, split at codewords or pages; `first` says that its granule or page is new to the write, and counts. -/
def State.mwSplit (s : State) (a : Nat) (bs : List Byte) (first : Bool) : Nat → State
  | 0 => s
  | n + 1 =>
    if bs.isEmpty then s
    else
      let size := if a < t1End then 64 else 4096
      let k := size - a % size
      let s := if first || decide (a % 256 = 0) then s.mwTraffic a (min bs.length (256 - a % 256)) else s
      (s.mwUnit a (bs.take k)).mwSplit (a + k) (bs.drop k) false n

/-- R507, R543: a write of the aperture, core by core. -/
def State.apWrite (s : State) (fn a : Nat) (bs : List Byte) : Nat → State
  | 0 => s
  | n + 1 =>
    if bs.isEmpty then s
    else
      let k := 0x80000 - (a - apBase) % 0x80000
      let rc := apCore a
      let s := match s.phys rc.1 rc.2 with
        | some q => if s.coreRuns q then s.record 0x013 (field fn 6 0 + field 2 2 6 + 2 ^ 8 + field a 48 9) []
                    else s.modCore q fun c => c.spWrite ((a - apBase) % 0x80000) (bs.take k)
        | none => s
      s.apWrite fn (a + k) (bs.drop k) n

/-- R337: a host write into the park area of a PARKED slot spoils its check. -/
def State.spoilParks (s : State) (a n : Nat) : State :=
  (s.ctxs fun x => decide (x.state = .parked)).foldl (fun b m =>
    if meets a n (b.slot m).park.toNat (b.parkLen m) then b.modSlot m fun x => { x with snapGood := false } else b) s

/-- A host access to device memory that no queue holds back: a write, or a read with its completion (R289, R307, R544). -/
def State.mwAct (s : State) (w : MwWait) : State :=
  match w.bytes with
  | some bs => if s.filledAt w.addr then (s.mwSplit w.addr bs true bs.length).spoilParks w.addr bs.length else s.earlyAccess
  | none =>
    if s.filledAt w.addr then
      let r := s.mwUnits (unitsOf w.addr w.len)
      r.2.2.emit (.hostRead w.fn ((r.1.drop (w.addr % 64)).take w.len) r.2.1)
    else s.earlyAccess.emit (.hostRead w.fn (List.replicate w.len 0#8) false)

/-- R293: an access to a stack at level 3 waits in its queue, and so does one to bytes that an earlier access there waits for. -/
def State.mwAccess (s : State) (w : MwWait) : State :=
  if s.blocked w.addr w.len ∨ s.mem.waiting.any (fun v => meets w.addr w.len v.addr v.len) then
    s.modMem fun m => { m with waiting := m.waiting ++ [w] }
  else s.mwAct w

/-- R293: the queues move on, oldest first. -/
def State.serveWaiting (s : State) : State := s.mem.waiting.foldl State.mwAccess (s.modMem fun m => { m with waiting := [] })

def State.mwRead (s : State) (fn : Fin 64) (a n : Nat) : State :=
  if n = 0 ∨ s.hostUp fn = false then s
  else match s.mwPlace fn a n with
    | none => (s.deny fn 2 0 a false).emit (.hostRead fn (List.replicate n 0#8) false)
    | some true => s.emit (.hostRead fn ((List.range n).map fun i => s.apByte (a + i)) false)
    | some false => s.mwAccess { fn, addr := a, len := n, bytes := none }

def execMwRead (fn : Fin 64) (addr : BitVec 64) (len : BitVec 13) (s : State) : Host.Outcome State Fault Refusal :=
  .next (s.mwRead fn addr.toNat len.toNat)

def State.mwWrite (s : State) (fn : Fin 64) (a : Nat) (bs : List Byte) : State :=
  if bs.isEmpty ∨ s.hostUp fn = false then s
  else match s.mwPlace fn a bs.length with
    | none => s.deny fn 2 0 a true
    | some true => s.apWrite fn a bs bs.length
    | some false => s.mwAccess { fn, addr := a, len := bs.length, bytes := some bs }

def execMwWrite (fn : Fin 64) (addr : BitVec 64) (bytes : List Byte) (s : State) : Host.Outcome State Fault Refusal :=
  .next (s.mwWrite fn addr.toNat bytes)

/-! Hot channels and throttling (R290 to R293). -/

/-- R290: the slot that contributed the most granules, the lowest on a tie. -/
def Chan.topSlot (c : Chan) : Option Nat :=
  (c.run.foldl (fun (b : Option (Nat × Nat)) e =>
    if e.1 = 0 then b else match b with
      | none => some (e.1 - 1, e.2)
      | some x => if x.2 < e.2 then some (e.1 - 1, e.2) else b) none).map Prod.fst

/-- R290: a channel's load in the running window. -/
def Chan.total (c : Chan) : Nat := c.run.foldl (fun n e => n + e.2) 0

/-- R293: the throttle level of a stack from its flags and temperature. -/
def State.throttle (s : State) (k : Nat) : State :=
  let x := s.stack k
  let hot := (List.range 32).filter fun i => (s.chan (k + 8 * i)).hot
  let l1 := decide (s.mem.hotHoldS ≠ 0) && ((x.l1 && !hot.isEmpty) || hot.any fun i => decide (1000 * s.mem.hotHoldS ≤ (s.chan (k + 8 * i)).hotMs))
  let l3 := if x.throt = 3 then decide (95 ≤ x.temp) else decide (100 ≤ x.temp)
  let l2 := if 2 ≤ x.throt then decide (88 ≤ x.temp) else decide (92 ≤ x.temp)
  let v := if l3 then 3 else if l2 then 2 else if l1 then 1 else 0
  let s := s.modStack k fun x => { x with throt := v, l1 }
  if v = x.throt then s else s.record 0x051 (field k 3 0 + field v 2 3) [x.temp]

/-- R293, R297: CAPPED: the channel issues in at most half of its command slots. -/
def State.capped (s : State) (c : Nat) : Bool :=
  let x := s.stack (stackOf c)
  let y := s.chan c
  decide (x.throt = 2) ||
    (decide (x.throt = 1) && y.hot && decide (s.mem.hotHoldS ≠ 0) && decide (1000 * s.mem.hotHoldS ≤ y.hotMs))

/-- The mean load of a window from the loads the channels show. -/
def State.meanLoad (s : State) : Nat := openDiv ((List.range 256).foldl (fun n c => n + (s.chan c).load) 0) 256

/-- R292: the record of a channel in the hot state. -/
def State.hotRecord (s : State) (c : Nat) : State :=
  let x := s.chan c
  s.record 0x050 c [x.load, s.meanLoad, x.top.getD (s.recordValue 0x050 2)]

/-- R291: whether a load is hot against the sum of all loads. -/
def MemSys.isHot (m : MemSys) (load sum : Nat) : Bool := decide (m.hotRatio * sum ≤ 256 * load) && decide (m.hotFloor ≤ load)

/-- R291, R292: what a window means for one channel. -/
def State.hotChannel (s : State) (sum c : Nat) : State :=
  let x := s.chan c
  let hot := s.mem.isHot x.load sum
  let y := { x with hotWin := if hot then satAdd 0xFFFF x.hotWin 1 else 0, coldWin := if hot then 0 else satAdd 0xFFFF x.coldWin 1,
                    hotMs := if x.hot then x.hotMs + 1 else 0 }
  if !x.hot ∧ s.mem.hotWindows ≤ y.hotWin then
    let s := s.modMem fun m => { m with chans := Tbl.set Chan.reset m.chans c { y with hot := true, hotMs := 0, repeats := 0 },
                                        hotEvents := satAdd 0xFFFF m.hotEvents 1 }
    (s.hotRecord c).raise 0 4 none
  else if x.hot ∧ s.mem.hotWindows ≤ y.coldWin then
    (s.modChan c fun _ => { y with hot := false, hotMs := 0, repeats := 0 }).record 0x050 (c + 0x100) [y.hotMs]
  else s.modChan c fun _ => y

/-- R290: a window of 1 ms ends; `busy` gives the command slots each channel used, in percent. -/
def State.hotWindow (s : State) (busy : List Nat) : State :=
  let s := (List.range 256).foldl (fun a c => a.modChan c fun x =>
    { x with load := x.total, busyPct := min 100 (busy.getD c 0), top := x.topSlot, run := [] }) s
  let sum := (List.range 256).foldl (fun n c => n + (s.chan c).load) 0
  let s := (List.range 256).foldl (fun a c => a.hotChannel sum c) s
  ((List.range 8).foldl State.throttle s).serveWaiting

def execHotWindowEnd (busy : List Nat) (s : State) : Host.Outcome State Fault Refusal := .next (s.hotWindow busy)

/-- R292: a further full second in the hot state. -/
def State.hotRepeat (s : State) (c : Nat) : State :=
  let x := s.chan c
  if x.hot ∧ 1000 * (x.repeats + 1) ≤ x.hotMs then (s.modChan c fun x => { x with repeats := x.repeats + 1 }).hotRecord c else s

def execHotRepeat (ch : Fin 256) (s : State) : Host.Outcome State Fault Refusal := .next (s.hotRepeat ch)

/-- R293, R297: a stack's temperature, every 1 ms LT; what waited under level 3 goes on when the level falls. -/
def State.stackTemp (s : State) (k temp : Nat) : State :=
  let s := (s.modStack k fun x => { x with temp }).throttle k
  (s.modStack k fun x => { x with throtMs := if 1 ≤ x.throt then satAdd 0xFFFFFFFF x.throtMs 1 else x.throtMs,
                                  level3Ms := if x.throt = 3 then x.level3Ms + 1 else 0 }).serveWaiting

def execStackTempSample (stack : Fin 8) (temp : BitVec 8) (s : State) : Host.Outcome State Fault Refusal := .next (s.stackTemp stack temp.toNat)

/-! Salt rotation (R295, R296). -/

def State.saltRot (s : State) (fn n : Nat) (salt : BitVec 32) : State :=
  s.memGated fn 0x70018 fun s =>
    let st := (s.slot n).state
    if st ≠ .loaded ∧ st ≠ .parked then s.modMem fun m => { m with saltResult := 3, saltSlot := n }
    else if s.mem.rotation.isSome then s.modMem fun m => { m with saltResult := 4, saltSlot := n }
    else s.modMem fun m => { m with rotation := some (n, salt), saltResult := 1, saltSlot := n, saltDone := 0#32 }

def execMemSaltRot (fn : Fin 64) (slot : Fin 1024) (salt : BitVec 32) (s : State) : Host.Outcome State Fault Refusal :=
  .next (s.saltRot fn slot salt)

/-- R295: the rotation is done. A start or restore that came during it arrives now (R296). -/
def State.saltFinal (s : State) (n : Nat) (salt : BitVec 32) : State :=
  let s := (s.modSlot n fun x => { x with salt }).modMem fun m => { m with rotation := none, saltResult := 2 }
  let s := s.record 0x053 (field n 32 2) []
  match (s.slot n).state, (s.slot n).step.pendingRel with
  | .loaded, some rel => if s.inTime rel then s else s.missRelease n
  | _, _ => s

/-- R295, R296: the rotation has permuted this many stripes. At the last of them the new salt is stored. A stack at level 3 holds it. -/
def State.saltStripes (s : State) (stripes : Nat) : State :=
  match s.mem.rotation with
  | none => s
  | some (n, salt) =>
    let x := s.slot n
    let i := s.mem.saltDone.toNat
    let j := min stripes x.stripes
    if s.anyStopped then s
    else
      let s := (s.moveStripes x i j).modMem fun m => { m with saltDone := BitVec.ofNat 32 (max i j) }
      if j < x.stripes then s else s.saltFinal n salt

def execSaltRotationDone (stripes : BitVec 32) (s : State) : Host.Outcome State Fault Refusal := .next (s.saltStripes stripes.toNat)

/-! Row repair (R315 to R318). -/

/-- MEM_REPAIR_REQ (R316, R318, R321). -/
def State.repairReq (s : State) (fn : Nat) (v : BitVec 64) : State :=
  s.memGated fn 0x74018 fun s =>
    let w := v.toNat
    let row := BitVec.ofNat 32 (bits w 31 0)
    let k := bits w 34 32
    let answer := fun r : Nat => s.modMem fun m => { m with repairResult := r, repairRow := row, repairStack := k }
    if bit w 63 = false then s
    else if bits w 62 35 ≠ 0 ∨ bits w 31 27 ≠ 0 ∨ 40959 < bits w 26 11 then answer 7
    else if s.mem.repair.isSome ∨ s.pendingRepair.isSome then answer 4
    else if s.remapped k row then answer 5
    else s.startRepair k row

def execMemRepairReq (fn : Fin 64) (v : BitVec 64) (s : State) : Host.Outcome State Fault Refusal := .next (s.repairReq fn v)

def State.repairNext (s : State) : State :=
  if s.mem.repair.isSome then s
  else match s.pendingRepair with
    | some (k, e) => s.startRepair k (s.logEntry k e).row
    | none => s

def execRowRepairStart (s : State) : Host.Outcome State Fault Refusal := .next s.repairNext

/-- R317 steps 2 to 4. A stack at level 3 holds the copy. -/
def State.repairDone (s : State) : State :=
  match s.mem.repair with
  | none => s
  | some r =>
    if (s.stack r.stack).throt = 3 then s
    else
      let c := r.stack + 8 * bits r.row.toNat 4 0
      let s := (s.modChan c fun x => (x.moved 4 0 false).moved 4 0 true).moveWords fun w =>
        decide (s.channelAt (64 * w) = c) && decide (s.rowId (64 * w) = r.row)
      let off := keepRowmap r.stack r.spare
      let lim := s.keepLimited off
      let s := s.keepWrite off (BitVec.ofNat 64 (r.row.toNat + 2 ^ 32))
      let s := (s.modLogOf r.stack r.row fun e => { e with repaired := true }).modStack r.stack fun x => { x with kept := x.kept + 1 }
      let s := s.modMem fun m => { m with repair := none, repairResult := if lim then 6 else 2,
                                          remap := Tbl.set none m.remap (256 * r.stack + r.spare) (some r.row) }
      s.record 0x053 (maintKey 1 r.stack r.row) []

def execRowRepairDone (s : State) : Host.Outcome State Fault Refusal := .next s.repairDone

/-- R315: at INIT the fuse map applies, then the kept entries of every stack in index order; one whose spare the fuses use or whose row
is remapped already is ignored, with a record. -/
def State.applyRowmap (s : State) : State :=
  let s := s.modMem fun m => { m with remap := m.fuse }
  let s := (List.range 8).foldl (fun a k => a.modStack k fun x => { x with fused := (keysIn s.mem.fuse (256 * k) (256 * k + 256)).length }) s
  (List.range 2048).foldl (fun a i =>
    let w := a.keep (0xC2000 + 8 * i)
    let row := w.extractLsb' 0 32
    if !w.getLsbD 32 then a
    else if (Tbl.get none a.mem.fuse i).isSome ∨ a.remapped (i / 256) row then a.record 0x052 (memKey 4 0) [i]
    else (a.modMem fun m => { m with remap := Tbl.set none m.remap i (some row) }).modStack (i / 256) fun x => { x with kept := x.kept + 1 }) s

/-! Injection and the tier-2 strength (R304, R320). -/

def State.memInject (s : State) (fn : Nat) (v : BitVec 64) : State :=
  s.memGated fn 0x74028 fun s => s.modMem fun m => { m with injAddr := v.extractLsb' 0 42, injNsym := v.extractLsb' 42 5, injArm := v.getLsbD 63 }

def execMemInject (fn : Fin 64) (v : BitVec 64) (s : State) : Host.Outcome State Fault Refusal := .next (s.memInject fn v)

def State.t2CodeWrite (s : State) (fn : Nat) (code : BitVec 2) : State :=
  s.gated fn keepT2Code fun s => s.keepWrite keepT2Code (code.zeroExtend 64)

def execKeepT2CodeWrite (fn : Fin 64) (code : BitVec 2) (s : State) : Host.Outcome State Fault Refusal := .next (s.t2CodeWrite fn code)

/-! The fill (R24, R289). -/

/-- R289: a tier is written whole: 10,485,760 granules in every channel of tier 1, 3,145,728 pages in every channel of tier 2. -/
def State.tierFilled (s : State) (t2 : Bool) : State :=
  let pass : Pass := { Pass.reset with start := s.lt }
  if t2 then (s.runTraffic 3145728 true).modMem fun m => { m with t2Filled := true, t2Pct := 100, t2Pass := pass }
  else ((List.range 256).foldl (fun b c => b.modChan c fun x => { x with wr := x.wr + 10485760#32 }) s).modMem fun m =>
    { m with t1Filled := true, t1Pct := 100, t1Pass := pass }

/-- R24, R289: both tiers are filled: FILLING ends. -/
def State.fillEnd (s : State) : State :=
  let early := s.mem.earlyAccess
  let s := s.modMem fun m => { m with fill := 2, fillMs := openDiv (s.lt - m.fillAt) 1000000, earlyAccess := false }
  let s := if early then s.record 0x052 (memKey 0 0) [] else s
  match s.svc with
  | .filling =>
    let d := s.degradeIn .ready
    { s with up := { s.up with phase := 0, upMs := min 0xFFFF ((s.lt - s.up.initAt) / 1000000) } }.setService
      (if d = 0#5 then .ready else .degraded) d
  | _ => s.settle

/-- R289: the fill of a tier stands at `pct` percent, or at 100 is complete; the fill ends with its last tier. -/
def State.fillProgress (s : State) (t2 : Bool) (pct : Nat) : State :=
  if s.mem.fill ≠ 1 ∨ s.rst.drain.isSome ∨ (if t2 then s.mem.t2Filled else s.mem.t1Filled) = true then s
  else if pct < 100 then
    s.modMem fun m => if t2 then { m with t2Pct := max m.t2Pct pct } else { m with t1Pct := max m.t1Pct pct }
  else
    let s := s.tierFilled t2
    if s.mem.t1Filled ∧ s.mem.t2Filled then s.fillEnd else s

def execFillComplete (tier2 : Bool) (pct : BitVec 7) (s : State) : Host.Outcome State Fault Refusal := .next (s.fillProgress tier2 pct.toNat)

end Sys2Proof.Machine
end

