-- ==== Sys2Proof/Machine/PowerExec.lean ====
section
/-! DEFINITION. The commands of the power chain (R347 to R355). -/

namespace Sys2Proof.Machine

/-- R349: the record of an opening or a closing: the bus voltage and the cause, 0 undervoltage, 1 overvoltage, 2 return (log
entry 20). -/
def State.stageRecord (s : State) (mv cause : Nat) : State := s.record 0x060 0 [mv, cause]

/-- R564, R588: the store converter stops and both legs isolate. -/
def State.legsOff (s : State) : State := (s.modBay 0 fun x => { x with isolated := true }).modBay 1 fun x => { x with isolated := true }

/-- R348, R349, R456: below 44.0 V or above 58.0 V the stage opens, and the store converter holds VBUS_INT where a leg can, unless the module
is drained or asks for a power cycle. -/
def State.stageOpen (s : State) (mv : Nat) (tooHigh : Bool) : State :=
  if !s.pwr.closed ∨ (if tooHigh then mv ≤ 58000 else 44000 ≤ mv) then s
  else
    let y := { s.tray with openedAt := some s.lt, stInput := s.tray.stInput ||| (if tooHigh then 0x80 else 0x10) }
    let s := { s with pwr := { s.pwr with closed := false, busMv := mv }, carts := { s.carts with openAt := some s.lt }, tray := y }
    let s := (s.stageRecord mv (if tooHigh then 1 else 0)).abandonCal 2
    let s := s.modDraw fun d => { d with overDraw := false, under := false }
    (if s.up.drained ∨ s.tray.pwrReq then s.legsOff else s).busHeld

def execInputStageOpen (mv : Nat) (tooHigh : Bool) (s : State) : Host.Outcome State Fault Refusal := .next (s.stageOpen mv tooHigh)

/-- R348: the stage closes with the bus within 45.0 to 57.0 V. -/
def State.stageClose (s : State) (mv : Nat) : State :=
  if s.pwr.closed ∨ mv < 45000 ∨ 57000 < mv ∨ s.svc = .off then s
  else
    let s := { s with pwr := { s.pwr with closed := true, busMv := mv }, carts := { s.carts with openAt := none }, tray := { s.tray with openedAt := none } }
    ((s.stageRecord mv 2).modRail 0 fun x => { x with state := 1 }).cartTotals

def execInputStageClose (mv : Nat) (s : State) : Host.Outcome State Fault Refusal := .next (s.stageClose mv)

/-- R353: the converter is reported and stays out of service until INIT; R417 lowers the stage-1 cap. -/
def State.converterFail (s : State) (k : Nat) : State :=
  (s.modRail 1 fun x => { x with units := x.units ||| BitVec.ofNat 8 (2 ^ k) }).record 0x060 (1 + field k 4 2) [k]

def execBusConverterFail (k : Fin 8) (s : State) : Host.Outcome State Fault Refusal := .next (s.converterFail k)

/-- R354, R355: a privileged rail outside its window; VFEED's faults are those of R402. -/
def State.privFault (s : State) (i mv : Nat) : State :=
  if 4 ≤ i ∧ i ≤ 10 ∧ (railSpec i).inWindow mv = false then s.railFault i else s

def execRailFault (rail : Fin 12) (mv : Nat) (s : State) : Host.Outcome State Fault Refusal := .next (s.privFault rail mv)

end Sys2Proof.Machine
end

