-- ==== Sys2Proof/Machine/PtcOps.lean ====
section
/-! DEFINITION. The PTC pair's operations (R463 to R487): takeover, checkpoints, the journal, commands, proving. -/

namespace Sys2Proof.Machine

def State.modPtc (s : State) (f : Ptc → Ptc) : State := { s with ptc := f s.ptc }

/-! Results (R484, R488). -/

def PtcFw.word (f : PtcFw) : Nat := f.version.toNat + field f.slot 1 32 + field f.failCause 4 36 + satField f.resyncFails 8 40

/-- PTC_RESULT as a word. -/
def PtcResult.word (r : PtcResult) : Nat :=
  field r.status.code 3 0 + flag1 r.rack 3 + field r.reason 8 8 + field r.tag 16 16 + field r.op 8 32 + field r.detail 8 40

/-- PTC_PAIR to PTC_FW by offset (R488). -/
def Ptc.word (p : Ptc) (b : Nat) : Nat :=
  if b = 0x80000 then p.pairWord
  else if b = 0x80008 then field p.proveH 8 0 + field p.safeCode 8 8
  else if b = 0x80010 then field p.number 32 0 + satField p.writeUs 16 32 + satField p.fails 16 48
  else if b = 0x80018 then p.arg.toNat
  else if b = 0x80028 then p.result.word
  else if b = 0x80030 then p.fwA.word
  else if b = 0x80038 then p.fwB.word
  else 0

/-- STATUS of a response (R566). -/
def PtcStatus.tsl : PtcStatus → Nat
  | .none | .ok => 0 | .pending => 1 | .deferred => 2 | .refused => 3 | .busy => 4 | .badarg => 5

/-- R569: the response to a PTC_CMD of the rack. -/
def State.ptcAnswer (s : State) (iss : PtcIssue) (r : PtcResult) : State :=
  if r.rack then s.tslAnswer 5 iss.seq.toNat r.status.tsl r.reason [] else s

/-- A result is shown and the completion interrupt raised. -/
def State.ptcShow (s : State) (r : PtcResult) : State := (s.modPtc fun p => { p with result := r }).raise 0 6 none

def mkResult (iss : PtcIssue) (op : Nat) (st : PtcStatus) (reason detail : Nat) : PtcResult :=
  { status := st, rack := iss.rack, reason, tag := iss.tag.toNat, op, detail }

/-- R479: the result of a journalled command. -/
def Ptc.journalResult (p : Ptc) (r : PtcResult) : Ptc :=
  { p with journal := p.journal.map fun e =>
      if e.result.isNone ∧ e.rack = r.rack ∧ e.tag = r.tag ∧ e.op = r.op then { e with result := some r } else e }

/-- The command that runs ends; one of the rack is answered by CMD_DONE (R571). -/
def State.ptcFinish (s : State) (st : PtcStatus) (reason detail : Nat) : State :=
  match s.ptc.running with
  | none => s
  | some e =>
    let r : PtcResult := { status := st, rack := e.rack, reason, tag := e.tag, op := e.op, detail }
    let s := (s.modPtc fun p => { p.journalResult r with running := none }).ptcShow r
    if r.rack then s.unsol 0x41 (toLE 8 r.word) else s

/-- The end of a running command of one of some operations. -/
def State.ptcFinishOp (s : State) (ops : List Nat) (detail : Nat) : State :=
  match s.ptc.running with
  | some e => if e.op ∈ ops then s.ptcFinish .ok 0 detail else s
  | none => s

/-! Takeover (R469 to R473). -/

/-- R470: the other PTC is eligible to succeed. -/
def Ptc.eligible (p : Ptc) (x : Nat) : Bool :=
  match p.mode x with
  | .standby | .proving => true
  | .resync => p.resyncReady
  | _ => false

/-- R471 step 1, R472: t0: the baton moves, absence is asserted. -/
def State.takeoverStart (s : State) (cause : Nat) : State :=
  match s.ptc.owner with
  | none => s
  | some x =>
    s.modPtc fun p =>
      let ok := p.eligible (1 - x)
      let q := p.setMode x (if cause = 4 then .standby else .failed)
      let q := if cause = 4 then q else q.setFw x { q.fw x with failCause := cause }
      let q := if ok then { q.setMode (1 - x) .standby with owner := some (1 - x), ownerBit := 1 - x } else { q with owner := none }
      { q with absent := true, absentAt := if p.absent then p.absentAt else s.lt, switching := true, lastCause := cause,
               epoch := q.epoch + 1#16, failRun := 0 }

/-- R472: the baton goes to the first PTC that becomes eligible. -/
def State.takeBaton (s : State) : State :=
  if s.ptc.owner.isSome then s
  else if s.ptc.eligible 0 then s.modPtc fun p => { p.setMode 0 .standby with owner := some 0, ownerBit := 0 }
  else if s.ptc.eligible 1 then s.modPtc fun p => { p.setMode 1 .standby with owner := some 1, ownerBit := 1 }
  else s

/-- R467: the newest checkpoint. -/
def Ptc.newest (p : Ptc) : Option Ckpt :=
  match p.buf0, p.buf1 with
  | some a, some b => if a.number < b.number then some b else some a
  | some a, none => some a
  | none, b => b

/-- R473: what reads of the PTC window show: during a switch-over, what the newest checkpoint carries. -/
def State.ptcView (s : State) : State :=
  match s.ptc.newest with
  | some c => if s.ptc.switching then { s with reg := c.reg, pwr := c.pwr, draw := c.draw, carts := c.carts, feed := c.feed } else s
  | none => s

/-- R438: a new hold of the peaks; with no PTC ACTIVE none begins. -/
def State.newPeaks (s : State) : State := if s.ptc.switching then s else s.modDraw fun d => { d with peaks := Peaks.reset }

/-- R471 step 2, R480: the state a successor works from: the checkpoint's, with journalled trajectories, the pins, and what the
legs and the units themselves hold. -/
def State.loadCkpt (s : State) : State :=
  match s.ptc.newest with
  | none => s
  | some c =>
    let d := s.draw
    { s with
      draw := { c.draw with traj := d.traj, pend := d.pend, brake := d.brake, rampMw := if d.brake then d.rampMw else c.draw.rampMw,
                            forced := d.forced, storeMw := d.storeMw, measMw := d.measMw, chkMw := d.chkMw, estMw := d.estMw }
      carts := { s.carts with setPct := c.carts.setPct, rideS := c.carts.rideS, refMaxH := c.carts.refMaxH, calDays := c.carts.calDays }
      reg := { s.reg with calDays := c.reg.calDays, ringTo := c.reg.ringTo, flueErr := c.reg.flueErr }
      pwr := { s.pwr with etaR := c.pwr.etaR, etaF := c.pwr.etaF, etaP := c.pwr.etaP, etaB := c.pwr.etaB, auxW := c.pwr.auxW,
                          memBase := c.pwr.memBase, memSpan := c.pwr.memSpan, linkBase := c.pwr.linkBase, linkSpan := c.pwr.linkSpan,
                          edgeBase := c.pwr.edgeBase, edgeMem := c.pwr.edgeMem, edgeLink := c.pwr.edgeLink, idleA := c.pwr.idleA }
      feed := { s.feed with nMin := c.feed.nMin, iShed := c.feed.iShed, headroom := c.feed.headroom, shedHold := c.feed.shedHold,
                            slotPh := c.feed.slotPh, coefs := c.feed.coefs, reverted := c.feed.reverted } }

/-- R477: the pair of QUERYs to a node from its SEQ in the checkpoint, then a SET where the code differs from the clock's. -/
def State.syncNode (s : State) (i k : Nat) : State :=
  let q := fun (s : State) (n : Nat) => s.ringCommand i { op := opQuery, seq := n % 256, arg := 0, slew := 0 }
  let s := q (q s (k + 1)) (k + 2)
  let x := s.region i
  let c := s.draw.code x.clock
  let s := s.modRegion i fun y => { y with sent := [], nextClock := none }
  if x.mode.railed ∧ x.enabled ∧ x.setpt ≠ c then s.ringCommand i { op := opSet, seq := (k + 3) % 256, arg := c, slew := 2 } else s

def State.syncRings (s : State) : State :=
  let old := match s.ptc.newest with
    | some c => c.reg
    | none => s.reg
  (List.range 432).foldl (fun a i => a.syncNode i (Tbl.get Region.reset old.regions i).seq) s

/-- R619: regions that failed during absence are handled now. -/
def State.lateFailures (s : State) : State :=
  (List.range 432).foldl (fun a i =>
    let x := a.region i
    if x.cond ≠ 0 ∧ x.regfail = false then a.failRegulator i x.cond else a) s

/-- R476: the arbiter's log goes to the recorder. -/
def State.copyArbLog (s : State) : State :=
  let s := (s.ptc.arbLog.zipIdx).foldl (fun a e => a.record 0x005 e.2 [e.1]) s
  s.modPtc fun p => { p with arbLog := [] }

/-! Boot (R466, R577, R585). -/

def keepSvc : Nat := 0xC0D00

/-- R577 step 5, R585: the ACTIVE PTC advances the service epoch and stores SLOT_ID. -/
def State.newEpoch (s : State) : State :=
  let k := (s.keep keepSvc).toNat
  let e := (bits k 23 0 + 1) % 2 ^ 24
  let moved := decide (bits k 26 24 ≠ s.tray.slotId)
  let s := s.keepWrite keepSvc (BitVec.ofNat 64 (e + field s.tray.slotId 3 24 + field (bits k 35 27) 9 27))
  let s := { s with up := { s.up with epoch := BitVec.ofNat 24 e, moved, phase := 2 } }
  if moved then s.recordOpen [] else s

/-- R466: the holder's self-test has passed: it is ACTIVE, and the other proves. -/
def State.bootActive (s : State) (x : Nat) : State :=
  (s.modPtc fun p =>
    let q := p.setMode x .active
    let q := if q.mode (1 - x) = .standby then q.setMode (1 - x) .proving else q
    { q with heartAt := s.lt }).newEpoch.copyArbLog

/-- R466: a self-test that fails at INIT; with neither passed the arbiter asks for a power cycle. -/
def State.bootFail (s : State) (x : Nat) : State :=
  let s := s.modPtc fun p =>
    let q := (p.setMode x .failed).setFw x { p.fw x with failCause := 4 }
    if p.mode (1 - x) = .failed then { q with owner := none } else { q with owner := some (1 - x), ownerBit := 1 - x }
  if s.ptc.owner.isNone then s.powerCycleOpen else s

/-! Checkpoints (R467, R468). -/

/-- The state of the ACTIVE PTC goes to the buffers in turn, every 1 ms LT; a checkpoint that does not read back counts a failure, and the second
in a row is a takeover cause. -/
def State.checkpoint (s : State) (ok : Bool) (us : Nat) : State :=
  if !s.ptc.hasActive then s
  else
    let n := s.ptc.number + 1
    let c : Ckpt := { number := n, rt := s.rt.now, lt := s.lt, reg := s.reg, pwr := s.pwr, draw := s.draw, carts := s.carts, feed := s.feed,
                      words := (List.range 8).map fun k => s.ptc.word (0x80000 + 8 * k) }
    let put := fun (p : Ptc) (v : Option Ckpt) => if n % 2 = 0 then { p with buf0 := v } else { p with buf1 := v }
    if ok then s.modPtc fun p => { put p (some c) with number := n, writeUs := us, failRun := 0 }
    else
      let s := s.modPtc fun p => { put p none with fails := satAdd 0xFFFF p.fails 1, failRun := p.failRun + 1 }
      if 2 ≤ s.ptc.failRun then s.takeoverStart 3 else s

/-! Absence beyond 5 ms (R475). -/

/-- Ramps to the higher of the set-point in force and SAFE_CODE, level 8 at most, SHED phases into CCM under the HOLD law; P_store's ramp is
the tick's. A broken ring's regulators ramp too (R474). -/
def State.absence5 (s : State) : State :=
  let away := fun i => s.longAbsent ||
    (Tbl.get false s.reg.broken (dieOfRegion i) && decide (Tbl.get 0 s.reg.brokenAt (dieOfRegion i) + 5000000 ≤ s.lt))
  let s := s.modRegions (s.powered.filter away) fun x =>
      let k := min 160 (max x.setpt s.ptc.safeCode)
      { x with setpt := k, target := k, ref := max x.ref k, ramping := none }
  if !s.longAbsent then s
  else
    let s := s.modDraw fun d => { d with level0 := min d.level0 8, level1 := min d.level1 8 }
    s.modFeed fun f => (railPhases 0).foldl (fun f k =>
      if (f.phase k).mode = .shed then f.setPhase k { f.phase k with mode := .hold } else f) f

/-! Commands (R484 to R487). -/

/-- A command journalled as running. -/
def State.ptcRun (s : State) (iss : PtcIssue) (op : Nat) (arg : BitVec 64) : State :=
  let e : JournalEntry := { rack := iss.rack, tag := iss.tag.toNat, op, arg, result := none }
  let r := mkResult iss op .pending 0 0
  (s.modPtc fun p => { p with running := some e, result := r, journal := p.journal ++ [e] }).ptcAnswer iss r

/-- A command that ends at once, journalled with its result. -/
def State.ptcEnd (s : State) (iss : PtcIssue) (op : Nat) (arg : BitVec 64) (st : PtcStatus) (reason : Nat) : State :=
  let r := mkResult iss op st reason 0
  let e : JournalEntry := { rack := iss.rack, tag := iss.tag.toNat, op, arg, result := some r }
  ((s.modPtc fun p => { p with journal := p.journal ++ [e] }).ptcShow r).ptcAnswer iss r

/-- R480: the source's last journalled command when it carries this TAG. -/
def Ptc.repeated (p : Ptc) (iss : PtcIssue) : Option JournalEntry :=
  match (p.journal.filter fun e => decide (e.rack = iss.rack)).getLast? with
  | some e => if iss.tag ≠ 0#16 ∧ e.tag = iss.tag.toNat then some e else none
  | none => none

/-- R480, R487: what meets a command before its own rules: BUSY, or a repeat, which gets its journalled result; `run` is the command itself. -/
def State.ptcMeet (s : State) (iss : PtcIssue) (op : Nat) (run : State → State) : State :=
  let busy := (decide (op ≠ 0) && (decide (s.svc = .init) || decide (s.svc = .saving))) || s.ptc.switching
  let done := fun r : PtcResult => (s.ptcShow r).ptcAnswer iss r
  if busy then done (mkResult iss op .busy 0 0)
  else
    match s.ptc.repeated iss with
    | some e => match e.result with
      | some r => done r
      | none =>
        let r := mkResult iss e.op .pending 0 0
        (s.modPtc fun p => { p with result := r }).ptcAnswer iss r
    | none =>
      if s.ptc.running.isSome then done (mkResult iss op .busy 0 0) else run s

/-- R484: a command of the host or the rack; a virtual function's is denied. -/
def State.ptcCommand (s : State) (iss : PtcIssue) (op : Nat) (run : State → State) : State :=
  if iss.rack then s.byRack 5 iss.seq.toNat [] fun s => s.ptcMeet iss op run
  else if s.hostUp iss.func = false then s
  else if iss.func ≠ 0 then s.deny iss.func 0 0 0x80020 true
  else s.ptcMeet iss op run

/-- A command whose ARG must be zero. -/
def State.ptcZeroArg (s : State) (iss : PtcIssue) (op : Nat) (arg : BitVec 64) (run : State → State) : State :=
  if arg = 0#64 then run s else s.ptcEnd iss op arg .badarg 0

/-! The acceptance rules of each operation (R485). Each answers the reason of a refusal, 0 when the command is accepted. -/

/-- The PTC that is not the holder. -/
def Ptc.other (p : Ptc) : Nat := 1 - p.ownerBit

def Ptc.switchRefusal (p : Ptc) : Nat := if p.eligible p.other then 0 else 1
def Ptc.proveRefusal (p : Ptc) : Nat := if (p.find .standby).isSome then 0 else 1
def Ptc.returnRefusal (p : Ptc) (x : Nat) : Nat :=
  if p.mode x ≠ .failed then 1 else if 3 ≤ (p.fw x).resyncFails then 2 else 0
/-- R483: the slot neither PTC runs. -/
def Ptc.freeSlot (p : Ptc) : Option Nat := if p.fwA.slot = p.fwB.slot then some (1 - p.fwA.slot) else none
def Ptc.updateRefusal (p : Ptc) (crcOk fmtOk : Bool) : Nat :=
  if (p.find .standby).isNone then 1
  else if decide (p.a = .failed) || decide (p.b = .failed) then 2
  else if !crcOk then 3 else if !fmtOk then 4 else 0

/-- The effects of PROVE, RETURN and FW_UPDATE once accepted. -/
def State.beginProving (s : State) : State :=
  match s.ptc.find .standby with
  | some x => s.modPtc fun p => { p.setMode x .proving with proveAt := s.lt }
  | none => s
def State.beginReturn (s : State) (x : Nat) : State := s.modPtc fun p => { p.setMode x .resync with resyncReady := false }

/-- Bytes of a firmware slot: the 64 KiB piece i comes from the staging window (R483). -/
def commitPiece (img stage : List Host.Cell) (i : Nat) : List Host.Cell :=
  let a := i * 65536
  (img.filter fun c => decide (c.1 < a)) ++ (stage.map fun c => (c.1 + a, c.2)) ++ (img.filter fun c => decide (a + 65536 ≤ c.1))

/-- R485: SELFTEST kinds 2 and 3: the first reason to defer, 0 for none. -/
def State.selftestDefer (s : State) (kind : Nat) : Nat :=
  if kind < 2 then 0
  else if s.feed.forced ∨ s.feed.capped then 1
  else if (s.feed.working 0).length = s.feed.nAct 0 then 2
  else if s.runningSlots.any (fun n => match planAt (s.slot n).prog.plan (s.slot n).step.beat with
      | some r => !r.quiet
      | none => true) then 3
  else 0

/-- R480: at takeover, a journalled command with no result is completed where its effect is present, else it runs again from
the start. -/
def State.rerun (s : State) : State :=
  match s.ptc.running with
  | none => s
  | some e =>
    if e.op = 1 then s.ptcFinish .ok 0 0
    else if e.op = 3 then
      if s.ptc.a = .proving ∨ s.ptc.b = .proving then s
      else if s.ptc.proveRefusal = 0 then s.beginProving else s.ptcFinish .refused s.ptc.proveRefusal 0
    else if e.op = 2 then
      let x := bits e.arg.toNat 0 0
      if s.ptc.mode x = .resync then s
      else if s.ptc.returnRefusal x = 0 then s.beginReturn x else s.ptcFinish .refused (s.ptc.returnRefusal x) 0
    else if e.op = 5 then
      if s.ptc.a = .resync ∨ s.ptc.b = .resync then s
      else s.ptcFinish .refused 1 0
    else s

/-- R471 steps 2 to 6: the successor is ACTIVE. -/
def State.takeoverDone (s : State) : State :=
  if !s.ptc.switching then s
  else
    match s.ptc.owner with
    | none => s.takeBaton
    | some x =>
      let age := match s.ptc.newest with
        | some c => (s.lt - c.lt) / 1000
        | none => 0
      let lowered := decide (5000000 < s.lt - s.ptc.absentAt)
      let s := s.loadCkpt.syncRings
      let s := if lowered then s.modDraw fun d => { d with level0 := min d.level0 8, level1 := min d.level1 8 } else s
      let s := s.modPtc fun p => { p.setMode x .active with absent := false, switching := false, heartAt := s.lt, resyncReady := false }
      let s := (s.lateFailures.record 0x090 (0 + field x 1 2) [s.ptc.lastCause, s.ptc.epoch.toNat, age]).raise 0 5 none
      s.copyArbLog.rerun

/-! Proving (R481, R482). -/

/-- The end of a proving with the failing test, 0 for pass; a PTC in RESYNC proves too. `self` says that the self-test failed. -/
def State.provingEnd (s : State) (test : Nat) (self : Bool) : State :=
  let x := (s.ptc.find .proving).or (s.ptc.find .resync)
  match x with
  | none => s
  | some x =>
    let re := decide (s.ptc.mode x = .resync)
    let s := s.modPtc fun p =>
      if test = 0 then { p.setMode x .standby with proves := satAdd 0xFFFF p.proves 1, resyncReady := false }
      else
        let q := p.setFw x { p.fw x with failCause := if re then 6 else if self then 4 else 5,
                                         resyncFails := (p.fw x).resyncFails + (if re then 1 else 0) }
        { q.setMode x .failed with proveFails := satAdd 0xFFFF q.proveFails 1, resyncReady := false }
    let s := s.record 0x090 ((if re then 2 else 1) + field x 1 2) [test]
    (s.ptcFinishOp (if re then [2, 5] else [3]) test).takeBaton

end Sys2Proof.Machine
end

