-- ==== Sys2Proof/Machine/DumpOps.lean ====
section
/-! DEFINITION. The bytes of a dump (R505), and the directory of dumps (R506). -/

namespace Sys2Proof.Machine

/-- Bytes padded with zeros to a length. -/
def padTo (n : Nat) (bs : List Byte) : List Byte := bs ++ List.replicate (n - bs.length) 0#8

/-- A tile in the layout of R152, padded to 17 KiB. -/
def Tile.dumpBytes (t : Tile) : List Byte := padTo 17408 (((List.range 1024).flatMap fun k => toLE 16 (t.elem k).toNat) ++ [t.flag])

/-- R505: the record of one core. -/
def DumpRec.bytes (r : DumpRec) : List Byte :=
  let c := r.regs
  let win := (List.range 512).flatMap fun i => toLE 8 (Tbl.get 0#64 r.win (8 * i)).toNat
  let gs := (List.range 32).flatMap fun i => toLE 8 (c.rdG i).toNat
  let ps := (List.range 8).flatMap fun i => toLE 8 (c.rdP i).toNat
  let vs := (List.range 32).flatMap fun i => toLE 256 (c.rdV i).toNat
  let head := padTo 0x2000 (win ++ gs ++ ps ++ toLE 8 (c.pc.toNat % 2 ^ 19) ++ toLE 8 c.asw.toNat)
  let state := padTo 0x4000 (head ++ vs)
  if r.full then padTo 819200 (state ++ Mem.read c.sp 0 0x80000 ++ (List.range 16).flatMap fun t => (Tbl.get Tile.reset c.tiles t).dumpBytes)
  else state

/-- R505: the header, with a CRC field. -/
def Dump.header (d : Dump) (crc : Nat) : List Byte :=
  padTo 4096 (toLE 4 0x00010000 ++ toLE 1 d.level ++ toLE 1 d.cause ++ toLE 1 d.kind ++ toLE 1 d.chip ++ toLE 8 d.opsec ++ toLE 8 d.rt.toNat ++
    toLE 2 d.recs.length ++ toLE 2 d.slot ++ toLE 4 crc ++ d.recs.flatMap fun r => toLE 2 r.core)

/-- R505: the whole dump. -/
def Dump.bytes (d : Dump) : List Byte :=
  let body := d.recs.flatMap DumpRec.bytes
  d.header (crc32c (d.header 0 ++ body)).toNat ++ body

def State.dumpAt (s : State) (i : Nat) : Option Dump := Tbl.get none s.rst.dumps i

/-- R506: bytes arrive in tier-2 data, in whole pages. -/
def State.copyIn (s : State) (a : Nat) (bs : List Byte) : State :=
  let lo := (a - t2Base) / 4096
  ((s.modMem fun m => m.store a bs).trafficSpan a bs.length true 0).pagesWritten lo (lo + (bs.length + 4095) / 4096)

end Sys2Proof.Machine
end

