-- ==== Sys2Proof/Machine/RstCmd.lean ====
section
/-! DEFINITION. Detectors, RST_CMD and its commands, recovery and escalation of resets (R491 to R513, R520). -/

namespace Sys2Proof.Machine

/-! The host's watchdog and the detectors (R491, R492, R498). -/

/-- R491: IDLE_MS of a slot reaches LIMIT_MS. -/
def State.watchdog (s : State) (n : Nat) : State :=
  let x := s.slot n
  if x.pw.limit = 0 ∨ x.pw.idleMs < x.pw.limit ∨ x.pw.expired = true ∨ x.state = .free then s
  else ((s.modSlot n fun x => { x with pw := { x.pw with expired := true } }).ctxRecord 4 n 0).raiseSlot 2 n

/-- A VALID partition that holds physical core k. -/
def State.partitionOf (s : State) (k : Nat) : Option Nat :=
  (List.range 16).find? fun p => (s.part p).valid && decide (k ∈ s.partCores p)

/-- R508: contexts that a reset takes out of SUSPECT have their faulting core reset too. -/
def State.resetSuspects (s t : State) (level target : Nat) : State :=
  let cores := s.resetCores level target
  let ns := if level = 0 then [target] else if level ≤ 2 then s.residents cores else []
  (ns.filter fun n => decide ((s.slot n).state = .suspect) && (decide (level = 0) || !cores.contains (s.slot n).pw.fcore)).foldl
    State.suspectL1 t

/-- R498: L1 resets on five or more cores of one partition at once become an L2 of it. -/
def State.crowded (s : State) (target : Nat) : State :=
  match s.partitionOf target with
  | none => s
  | some p =>
    let cs := s.partCores p
    let run := s.rst.runs.filter fun r => decide (r.level = 1) && cs.contains r.target
    if 5 ≤ run.length then s.startReset 2 p 0x0C (run.any ResetRun.cmd) true none else s

/-- A reset decided for a level and target, with what follows from it. -/
def State.decide1 (s : State) (level target cause : Nat) (cmd esc : Bool) (replay : Option Nat) : State :=
  let t := s.startReset level target cause cmd esc replay
  let t := if replay.isSome then t else s.resetSuspects t level target
  if level = 1 then t.crowded target else t

/-- A detector of R492 whose target is a core. -/
def State.coreDetector (s : State) (k cause : Nat) (holds : Bool) : State :=
  if holds = false then s
  else
    let t := s.ownReset 1 k cause
    if t.rst.runs.any (fun r => decide (r.level = 1) && decide (r.target = k)) then (s.resetSuspects t 1 k).crowded k else t

/-- R492 cause 0x03: the core has not stopped; in a teardown it is cut off and reset after the fence. -/
def State.stopTimeout (s : State) (k : Nat) : State :=
  match (s.core k).res with
  | none => s
  | some r =>
    if (s.core k).stopped = false then s
    else if (s.slot r.slot).state = .torn then s.modCore k fun c => { c with cut := true }
    else s.coreDetector k 0x03 true

def State.engineStall (s : State) (k : Nat) (m1 : Bool) : State :=
  s.coreDetector k 0x04 (if m1 then !(s.core k).m1.isEmpty else !(s.core k).m0.isEmpty)

def State.dmaTimeout (s : State) (k : Nat) : State := s.coreDetector k 0x05 (!(s.core k).dmas.isEmpty)

def State.sendTimeout (s : State) (k : Nat) : State := s.coreDetector k 0x06 (!(s.core k).outbound.isEmpty)

/-- R492 cause 0x08: a tier-1 channel below 256, then a tier-2 channel; not while its stack is at level 3. -/
def State.channelStall (s : State) (c : Nat) : State :=
  if c < 256 ∧ (s.stack (stackOf c)).throt = 3 then s else s.ownReset 3 0 0x08

/-- R492 cause 0x09: an open instance that holds every contribution and partial. -/
def State.reductionStall (s : State) : State :=
  if s.fab.insts.any fun x => (s.redDesc x.slot x.desc).any fun d => s.isFinal d x then s.ownReset 3 0 0x09 else s

/-! RST_CMD (R22, R497, R520, R521). -/

def rstCmdOff : Nat := 0xA008

/-- RST_CMD has a command under way. -/
def State.rstBusy (s : State) : Bool := s.rst.busyCmd.isSome || s.rst.runs.any ResetRun.cmd

/-- A result becomes final (R547). -/
def State.rstFinal (s : State) (r detail : Nat) : State := { s with rst := { s.rst with result := r, detail } }.raise 0 7 none

/-- R566, R569: the outcome of an order of the rack, as STATUS of the response. -/
def rstTsl (r : Nat) : Nat := if r ≤ 2 then 0 else if r = 3 then 6 else if r = 4 then 4 else if r = 5 then 5 else 3

/-- An order through RST_CMD or the tray serial link: `run` performs it. A refusal is the result, or the response. -/
def State.rstOrder (s : State) (by_ : Requester) (type : Nat) (refuse : Nat) (run : State → State) : State :=
  match by_ with
  | .host fn =>
    s.gated fn rstCmdOff fun s =>
      if s.rstBusy then s.rstFinal 4 0 else if refuse ≠ 0 then s.rstFinal refuse 0 else run s
  | .rack seq => s.byRack type seq.toNat [] fun s =>
    if s.rstBusy then s.tslAnswer type seq.toNat 4 0 []
    else if refuse ≠ 0 then s.tslAnswer type seq.toNat (rstTsl refuse) 0 []
    else (run s).tslAnswer type seq.toNat 0 0 []

/-- R22: a reset of a level is permitted. -/
def State.resetPermitted (s : State) (level : Nat) : Bool :=
  match s.svc with
  | .filling | .ready | .serving | .degraded => true
  | .init | .benched => decide (level = 4)
  | _ => false

/-- R497, R569: the rack orders L3 and L4 only. -/
def mayReset (r : Requester) (level : Nat) : Bool :=
  match r with
  | .host _ => true
  | .rack _ => decide (3 ≤ level)

/-- R493, R495, R497, R521, R569: why a RESET is refused: 5 BADARG, 3 REFUSED_STATE, 4 REFUSED_BUSY, 0 accepted. -/
def State.resetRefusal (s : State) (by_ : Requester) (level target : Nat) : Nat :=
  if mayReset by_ level = false ∨ 4 < level ∨ (level = 0 ∧ 1023 < target) ∨ (level = 1 ∧ 1727 < target) ∨ (level = 2 ∧ 15 < target) then 5
  else if s.resetPermitted level = false then 3
  else if s.rst.runs.any fun r => decide (4 ≤ r.level) then 4
  else if level = 0 then
    match (s.slot target).state with
    | .loaded | .running | .aborted | .suspect => 0
    | _ => 3
  else if level = 2 ∧ (s.part target).valid = false then 3
  else 0

/-- RESET. -/
def State.resetOrder (s : State) (by_ : Requester) (level target : Nat) : State :=
  s.rstOrder by_ 0x06 (s.resetRefusal by_ level target) fun s =>
    let t := if level ≤ 2 then target else 0
    ({ s with rst := { s.rst with result := 1, detail := 0 } }).decide1 level t (match by_ with
      | .host _ => 1
      | .rack _ => 2) true false none

/-! Dumps by command (R506). -/

/-- R520: in BENCHED only BENCH_CLEAR, DUMP_FREE and an L4 are accepted. -/
def State.notBenched (s : State) (r : Nat) : Nat := if s.svc = .benched then 3 else r

def State.dumpOrder (s : State) (fn : Fin 64) (n : Nat) : State :=
  let st := (s.slot n).state
  s.rstOrder (.host fn) 0 (s.notBenched (if st = .loaded ∨ st = .aborted ∨ st = .suspect then 0 else 3)) fun s =>
    let full := decide (s.rst.cfgDump = 2)
    let s := s.dump 0xFF 0x01 n (s.coresOf n) fun _ => full
    { s with rst := { s.rst with result := 1, detail := 0, busyCmd := some (2, n) } }

/-- The size of what DUMP_COPY copies. -/
def State.copySize (s : State) (target : Nat) : Option Nat :=
  if target = 0x7FF then (if s.rst.saveValid then some s.rst.saveSize else none)
  else if target < 64 then (s.dumpAt target).map Dump.size else none

def State.copyRefusal (s : State) (target : Nat) : Nat :=
  let a := bits s.rst.arg.toNat 47 0
  match s.copySize target with
  | none => 5
  | some n =>
    if a % 4096 ≠ 0 ∨ a < t2Base ∨ s.t2top < a + n then 5
    else if s.liveSlots.any fun m => (s.slot m).claims &&
        ((s.slot m).extents.any (fun e => meets a n e.base e.len) || meets a n (s.slot m).park.toNat (s.parkLen m)) then 5
    else 0

def State.copyOrder (s : State) (fn : Fin 64) (target : Nat) : State :=
  s.rstOrder (.host fn) 0 (s.notBenched (s.copyRefusal target)) fun s =>
    { s with rst := { s.rst with result := 1, detail := 0, busyCmd := some (3, target) } }

/-- R506, R521: a DUMP or DUMP_COPY ends; `ok` is false for an error reading the ember store. -/
def State.rstCmdDone (s : State) (ok : Bool) : State :=
  match s.rst.busyCmd with
  | none => s
  | some (op, target) =>
    let s := { s with rst := { s.rst with busyCmd := none } }
    if op = 3 then
      if !ok then s.rstFinal 6 2
      else
        let a := bits s.rst.arg.toNat 47 0
        let s := if target = 0x7FF then s.undefine a s.rst.saveSize
          else match s.dumpAt target with
            | some d => s.copyIn a d.bytes
            | none => s
        s.rstFinal 2 0
    else s.rstFinal 2 0

def State.freeOrder (s : State) (fn : Fin 64) (target : Nat) : State :=
  s.rstOrder (.host fn) 0 (if target < 64 ∨ target = 0x7FF then 0 else 5) fun s =>
    (if target = 0x7FF then { s with rst := { s.rst with saveValid := false, saveComplete := false, saveParts := 0, saveSize := 0 } }
     else { s with rst := { s.rst with dumps := Tbl.set none s.rst.dumps target none } }).rstFinal 2 0

/-! BENCH_CLEAR (R520). -/

def State.benchClear (s : State) : State :=
  let s := (List.range 8).foldl (fun a i => a.keepWrite (keepBenchLog i) (a.keep (keepBenchLog i) &&& ~~~0x80000000000#64)) s
  let s := { s with rst := { s.rst with benchCycle := [] } }
  let s := s.keepWrite keepBench ((s.keep keepBench &&& ~~~0x10000#64) ||| 0x20000#64)
  s.record 0x0A0 2 []

def State.benchOrder (s : State) (by_ : Requester) : State :=
  s.rstOrder by_ 0x06 0 fun s =>
    let s := s.benchClear
    match by_ with
    | .host _ => s.rstFinal 2 0
    | .rack _ => s

/-! Replay (R510, R511). -/

def State.replayRefusal (s : State) (n : Nat) : Nat :=
  let x := s.slot n
  if 1023 < n then 5
  else if s.serviceUp = false ∨ x.state ≠ .suspect ∨ x.pw.snapValid = false ∨ 2 ≤ x.pw.replays then 3 else 0

def State.replayOrder (s : State) (fn : Fin 64) (n : Nat) : State :=
  s.rstOrder (.host fn) 0 (s.replayRefusal n) fun s =>
    ({ s with rst := { s.rst with result := 1, detail := 0 } }).startReset 1 (s.slot n).pw.fcore 0x0D true false (some n)

/-- R510 steps 2 to 4: the L1 is done; a retirement waits for its boundary. -/
def State.replayOn (s : State) (n : Nat) (r : ResetRun) : State :=
  let row := r.target / 36
  if s.activeMask row ≠ s.targetMask row then s
  else
    let s := { s with rst := { s.rst with runs := s.rst.runs.erase r } }
    let x := s.slot n
    if x.state ≠ .suspect then s.rstFinal 6 0
    else if s.rowPresent row = false then
      (((s.endCtx n .aborted 0x0B false).ctxRecord 0 n 0x0B).rstFinal 6 1).settle
    else
      let s := (s.putCores n x.snap).putReductions n
      let rel := s.rst.arg.toNat
      if rel = 0 then (s.replayNow n s.rt.now.toNat).rstFinal 2 0
      else ((s.modStep n fun st => { st with pendingRel := some rel }).preBias n).rstFinal 2 0

/-! Recovery (R493 to R499). -/

/-- R495: a slot becomes FREE at the end of an L3. -/
def State.freeSlot (s : State) (n : Nat) : State :=
  let x := s.slot n
  let s := s.modCores (s.coresOf n) fun _ => Core.reset
  let busy := decide (x.result = .busy)
  let y := { Slot.reset with gen := x.gen, nextGen := x.gen + 1#8, part := x.part, cause := 0x08#8, owner := x.owner, image := x.image,
                             membersAt := x.membersAt, layoutAt := x.layoutAt, park := x.park, salt := x.salt, arg := x.arg,
                             result := if busy then .ended else x.result, reason := x.reason, lost := x.lost, check := x.check }
  let s := s.setSlot n y
  if busy then s.raiseSlot 1 n else s

/-- R495: the slots at the end of an L3. -/
def State.freeAfterL3 (s : State) (n : Nat) : State :=
  let x := s.slot n
  let t2 := x.extents.all fun e => decide (e.kind = 2)
  match x.state with
  | .loaded | .running | .aborted | .suspect | .torn => s.freeSlot n
  | .parked => if t2 then s else s.freeSlot n
  | .free => s

/-- R91, R499: a core that failed its self-test, or has had three L1 resets within 24 h, is retired. -/
def State.retireCore (s : State) (k : Nat) : State := s.retire (k / 36) (BitVec.ofNat 36 (2 ^ (k % 36)))

def State.threeL1 (s : State) (k : Nat) : Bool :=
  decide (3 ≤ ((Tbl.get [] s.rst.l1 k).filter fun t => decide (s.lt ≤ t + 86400000000000)).length)

/-- The run ends: MS, and the result or the interrupt (R521, R547). -/
def State.endRun (s : State) (r : ResetRun) : State :=
  let s := { s with rst := { s.rst with runs := s.rst.runs.erase r, lastMs := min 0xFFFF ((s.lt - r.at_) / 1000000) } }
  if r.cmd then s.rstFinal 2 0 else s.raise 0 7 none

/-- R493, R241: a port is done training: it is not TRAINING, or its exchange is complete and it waits for CHIP_VALID only. -/
def Port.trained (p : Port) : Bool := decide (p.state ≠ .training) || (p.aligned && p.rcvdGot && p.rcvdSent)

/-- Whether the condition of R493's last column can hold. -/
def State.recovered (s : State) (r : ResetRun) : Bool :=
  if r.level = 0 then decide ((s.slot r.target).state = .aborted) && (s.coresOf r.target).all fun k => (s.core k).quiet
  else if r.level = 3 then
    s.rst.drain.isNone && s.mem.t1Filled && s.mem.t2Filled && !s.cool.held && (List.range 18).all fun k => (s.port k).trained
  else decide (r.level ≤ 2)

/-- R355, R372, R495: the end of an L3: its slots, a rail that had a fault is in its window again, a broken ring is whole again (log
entry 127). -/
def State.endL3 (s : State) : State :=
  let s := s.liveSlots.foldl State.freeAfterL3 s
  let s := ((List.range 12).filter fun i => decide (2 ≤ i) && decide ((s.rail i).state = 2)).foldl State.railUp s
  { s with reg := { s.reg with broken := [] } }

/-- RESET_RECOVERED: `failed` names the cores that failed their self-test. -/
def State.resetRecovered (s : State) (level target : Nat) (failed : List (Fin 1728)) : State :=
  match s.rst.runs.find? fun r => decide (r.level = level) && decide (r.target = target) with
  | none => s
  | some r =>
    if s.recovered r = false then s
    else
      let bad := if level = 1 then (if failed.any (fun k => decide (k.val = target)) || s.threeL1 target then [target] else [])
        else if level = 2 then (failed.map Fin.val).filter fun k => decide (k ∈ s.partCores target) else []
      let s := bad.foldl State.retireCore s
      match r.replay with
      | some n => s.replayOn n r
      | none =>
        let s := if level = 3 then s.endL3 else s
        (s.endRun r).settle

/-- R498: what a reset becomes. -/
def State.escalated (s : State) (r : ResetRun) : Nat × Nat :=
  if r.level = 0 then (2, s.partOf r.target)
  else if r.level = 1 then
    match s.partitionOf r.target with
    | some p => (2, p)
    | none => (3, 0)
  else if r.level = 2 then (3, 0) else (4, 0)

/-- R498: the time in ns LT that a reset of a level has. -/
def recoverNs (level : Nat) : Nat :=
  if level = 0 then 5000000 else if level = 1 then 20000000 else if level = 2 then 200000000 else 3000000000

/-- RESET_ESCALATION: a reset has not recovered in its time. A REPLAY whose L1 escalates fails. The hold of R600 counts toward no escalation. -/
def State.escalate (s : State) (level target : Nat) : State :=
  match s.rst.runs.find? fun r => decide (r.level = level) && decide (r.target = target) with
  | none => s
  | some r =>
    if 4 ≤ level ∨ (level = 3 ∧ s.cool.held) ∨ s.lt < r.at_ + recoverNs level then s
    else
      let t := s.escalated r
      let s := { s with rst := { s.rst with runs := s.rst.runs.erase r } }
      let s := if r.replay.isSome then s.rstFinal 6 0 else s
      s.decide1 t.1 t.2 0x0C (r.cmd && r.replay.isNone) true none

/-! Drain-discard ends (R494, R501, R573). -/

/-- R494: what an L3 clears of the memory system: tier 1 is filled anew, tier 2 kept where it is filled and its rails had no fault
(R355), read-only fields reset. -/
def MemSys.afterL3 (m : MemSys) : MemSys :=
  let kept := fun a : Nat => m.t2Filled && decide (t2Base ≤ a)
  { m with bytes := m.bytes.filter fun c => kept c.1, undef := m.undef.filter fun r => kept r.base, poison := [],
           err1 := [], err2 := if m.t2Filled then m.err2 else [], fill := 1, t1Pct := 0, t2Pct := if m.t2Filled then 100 else 0, t2Kept := m.t2Filled, fillMs := 0, t1Filled := false,
           hotEvents := 0, saltResult := 0, saltSlot := 0, saltDone := 0#32, rotation := none, chans := [],
           stackTab := (List.range 8).filterMap fun k =>
             let x := Tbl.get Stack.reset m.stackTab k
             let y := { Stack.reset with fused := x.fused, kept := x.kept }
             if y = Stack.reset then none else some (k, y),
           t2ch := [], t1Pass := Pass.reset, t2Pass := if m.t2Filled then m.t2Pass else Pass.reset, waiting := [], overruns := 0, t2Ce := 0, t2Ue := 0, t2Passes := 0#16, t2CeHour := 0, t2Raised := false, ueLast := none,
           repairResult := 0, repairRow := 0#32, repairStack := 0, repair := none, log := [], t2log := [] }

/-- A port after an L3: its read-only fields reset, retired lanes and DISABLE kept. -/
def Port.afterL3 (p : Port) : Port :=
  { Port.reset with failed := p.failed, disable := p.disable, state := if p.disable then .disabled else .training }

def State.l3Clear (s : State) : State :=
  let cause := ((s.rst.runs.find? fun r => decide (r.level = 3)).map ResetRun.cause).getD 0
  let s := s.resetDump 3 cause (s.cores.map Prod.fst)
  let s := s.modCores (s.cores.map Prod.fst) Core.resetAll
  let s := (List.range 18).foldl (fun a k => a.modPort k Port.afterL3) s
  { s with mesh := [], mem := { s.mem.afterL3 with fillAt := s.lt }, fab := { Fabric.reset with ports := s.fab.ports }, rst := { s.rst with drain := none } }

/-- The compute dies, controllers and ports are held in reset until VAUX falls (R563). -/
def State.l4Hold (s : State) : State :=
  { (s.quietPorts .down).modCores (s.cores.map Prod.fst) Core.resetAll with mesh := [], rst := { s.rst with drain := none } }

/-- R514 step 2: the ports stop, VSER and VSERH turn off, and the parts follow. -/
def State.saveDrained (s : State) : State :=
  let s := ((s.quietPorts .down).modRail 9 fun r => { r with state := 0 }).modRail 10 fun r => { r with state := 0 }
  { s with rst := { s.rst with drain := none, save := s.rst.save.map fun v => { v with step := if v.step = 1 then 2 else v.step } } }

/-- R501: 50 µs LT after the decision. -/
def State.drainEnd (s : State) : State :=
  if s.lt < s.rst.drainAt + 50000 then s
  else match s.rst.drain with
  | none => s
  | some 3 => s.l3Clear.settle
  | some 5 => s.saveDrained.settle
  | some _ => s.l4Hold.settle

/-! The save list (R513). -/

def State.saveListOk (s : State) (a : Nat) : Bool :=
  let cnt := s.layoutCount a
  let es := s.imgExtents a
  s.inTier a 16 && decide (1 ≤ cnt) && decide (cnt ≤ 64) && s.inTier a (16 + 16 * cnt) && s.zeros (a + 2) 14 &&
  ((List.range cnt).all fun i => decide (bits (s.rd (a + 16 + 16 * i) 8) 63 51 = 0) && decide (bits (s.rd (a + 24 + 16 * i) 8) 63 48 = 0)) &&
  es.all s.extentOk &&
  ((List.range cnt).all fun i => (List.range i).all fun j =>
    match es[i]?, es[j]? with
    | some b, some c => !meets b.base b.len c.base c.len
    | _, _ => true) &&
  decide (es.foldl (fun n e => n + e.len) 0 ≤ 0x800000000)

def State.saveListWrite (s : State) (fn : Nat) (addr : BitVec 48) : State :=
  s.gated fn 0xA030 fun s =>
    let a := addr.toNat
    let r := if a = 0 then 0 else if s.saveListOk a then 1 else 2
    { s with rst := { s.rst with saveAddr := addr, saveList := if r = 1 then s.imgExtents a else [], listState := r } }

end Sys2Proof.Machine
end

