-- ==== Sys2Proof/Machine/Tick.lean ====
section
/-! DEFINITION. What 10 ns of local time do when no command waits (log entry 3): the counters that count time, and what a core, a region
or a reduction unit does at the passing of time with no command of its own. Events that a rule places at an instant are commands (log
entry 4). -/

namespace Sys2Proof.Machine

/-- R200, R204: the rack-time counter over 10 ns; a slew brings it nearer to the right value. -/
def RackTime.tick (r : RackTime) : RackTime :=
  { r with now := r.now + BitVec.ofNat 64 r.stride, slew := r.slew + 10 - r.stride }

/-- The quarter cycles of a region's clock of 600 + 25 k MHz in 10 ns (R423). -/
def Region.quartersOf10 (r : Region) : Nat := 24 + r.clock

/-- R110, R423: a region over 10 ns: its clock, and the issue level that is in force from the next cc. -/
def Region.tick (r : Region) (level : Nat) : Region :=
  { r with cyc := r.cyc + r.quartersOf10, quarters := r.quarters + r.quartersOf10, levelNow := level, levelSum := r.levelSum + level,
           levelN := r.levelN + 1 }

/-- The cores on which a context is resident, and the regions that serve them. -/
def State.residentCores (s : State) : List Nat := (s.cores.filter fun kc => kc.2.res.isSome).map Prod.fst
def State.residentRegions (s : State) : List Nat := (s.residentCores.map regionOfCore).eraseDups

/-- R111, R136, R198: each cc that core k's clock counts in 10 ns is charged where its bundle waits. -/
def State.chargeCore (s : State) (k : Nat) : State :=
  let r := s.region (regionOfCore k)
  let e := s.env k
  let n := (r.cyc + r.quartersOf10) / 4 - r.cyc / 4
  s.modCore k fun c => (List.range n).foldl (fun c j => c.chargeCycle { e with permitted := r.permits (r.cyc / 4 + j) }) c

/-- R182: the credit-returns of core k whose 8 cc are over leave it. -/
def State.flushCredits (s : State) (k : Nat) : State :=
  let c := s.core k
  if c.creditDue.isEmpty then s else (s.setCore k (c.returnCredits (s.env k))).settleCore k c

/-- R90, R229: a repair application has ended: the cores of its rows whose release fell during it are released, and a core whose wave
has started meanwhile arms. -/
def State.endApplication (s : State) : State :=
  let ks := s.residentCores.filter fun k => s.rowApplying (k / 36)
  let s : State := { s with grid := { s.grid with applying := [] } }
  ks.foldl (fun a k => a.lateCore k) s

/-- R423: a region left with no RUNNING context returns to F_MAX: SET first, and the clock follows the ACK. -/
def State.toFMax (s : State) (i : Nat) : State :=
  let x := s.region i
  match x.nextClock with
  | some k => if x.setWaits then s else if x.setpt < s.draw.code k then s.modRegion i fun y => { y with nextClock := none } else s.changeClock i k
  | none =>
    if x.clock = s.draw.fMax then s
    else (s.modRegion i fun y => { y with nextClock := some s.draw.fMax }).ringCommand i
      { op := opSet, seq := s.nextSeq i, arg := s.draw.code s.draw.fMax, slew := 2 }

/-- R475: after 5 ms LT of absence P_store ramps to zero at 1 W/µs while the input stage is closed. -/
def State.absentStore (s : State) : State :=
  if s.longAbsent && s.pwr.closed then
    (s.modDraw fun d => { d with storeMw := if 0 ≤ d.storeMw then max 0 (d.storeMw - 1000) else min 0 (d.storeMw + 1000) }).legPowers
  else s

/-- R423, R521: 1 µs: without an issue, of every core on which a context is resident (the field saturates); of every powered region with
no RUNNING context. The feed stage counts anew where the sum of plans has changed (R395). -/
def State.tickUs (s : State) : State :=
  let s := (s.modCores s.residentCores fun c => { c with idleUs := satAdd 0xFFFF c.idleUs 1 }).absentStore
  let busy := (s.runningSlots.flatMap s.regionsOf).eraseDups
  let s := if s.ptc.hasActive then (s.powered.filter fun i => !busy.contains i).foldl State.toFMax s else s
  if s.ptc.hasActive && decide (s.feed.planned ≠ s.runningSlots) then s.feedRequire else s

/-- R577 step 8: the rails in the order in which they come up: the privileged rails, VFEED, VEDGE. -/
def railOrder : List Nat := [5, 6, 7, 8, 10, 9, 2, 4]

/-- R350, R577 steps 7 and 8: past the coolant check the bus converters start, one every 2 ms; then the rails come up in their order,
each in its window before the next starts, here one a millisecond (log entry 127). -/
def State.startRails (s : State) : State :=
  let k := s.up.started
  let go := { s with up := { s.up with started := k + 1 } }
  if s.svc ≠ .init ∨ s.up.phase ≠ 2 ∨ !s.up.coolOk then s
  else if k < 8 then (if s.lt % 2000000 = 0 then (if k = 7 then go.railState 1 1 else go) else s)
  else match railOrder[k - 8]? with
    | some i => go.railUp i
    | none => { s with up := { s.up with phase := 3 } }

/-- R490, R521: 1 ms without progress, of every slot that is not FREE; the field saturates. -/
def State.tickMs (s : State) : State :=
  (s.liveSlots.filter fun n => decide ((s.slot n).state ≠ .free)).foldl
    (fun a n => a.modSlot n fun x => { x with pw := { x.pw with idleMs := satAdd 0xFFFF x.pw.idleMs 1 } }) s

/-- R314: an hour of LT ends, and with it the counts of corrected events of the hour. -/
def State.tickHour (s : State) : State :=
  let s := (List.range 8).foldl (fun a k => a.modStack k fun x => { x with ceHour := 0, raised := false }) s
  { s with mem := { s.mem with t2CeHour := 0, t2Raised := false } }

/-- 10 ns of the cores, their regions and the reduction units (R110, R136, R182, R270). -/
def State.tickCores (s : State) : State :=
  let ks := s.residentCores
  let is := s.residentRegions
  let s := ks.foldl (fun a k => a.chargeCore k) s
  let s := is.foldl (fun a i => a.modRegion i fun r => r.tick (s.level i)) s
  let s := ks.foldl (fun a k => a.flushCredits k) s
  if s.fab.insts.length < maxInsts then s.retryHeld else s

/-- 10 ns of LT. With the module OFF nothing but LT runs. -/
def State.tick (s : State) : State :=
  let s : State := { s with lt := s.lt + 10 }
  if s.svc = .off then s
  else
    let s : State := { s with rt := s.rt.tick }.tickCores
    let s := if s.grid.applying ≠ [] ∧ s.grid.applyTill ≤ s.lt then s.endApplication else s
    let s := if s.reg.calDrop.any fun t => decide (t ≤ s.lt) then s.dropCal else s
    let s := if s.lt % 1000 = 0 then s.tickUs else s
    let s := if s.lt % 1000000 = 0 then s.tickMs.startRails else s
    if s.lt % 3600000000000 = 0 then s.tickHour else s

end Sys2Proof.Machine
end

