-- ==== Sys2Proof/Machine/BringExec.lean ====
section
/-! DEFINITION. Bring-up, draining, the service epoch, the power-cycle request, coolant and the thermal trips (R563, R564, R577 to
R592, R600, R610 to R612). -/

namespace Sys2Proof.Machine

/-! Power-on (R577, R579). -/

/-- R23, R577 steps 1 and 2: the bus lies within 44–58 V at the connector of a module in OFF. -/
def State.powerOn (s : State) (mv : Nat) : State :=
  if s.svc = .off ∧ busOk mv then
    let t := s.startInit
    { t with pwr := { t.pwr with busMv := mv } }
  else s

def execPowerOn (mv : BitVec 16) (s : State) : Host.Outcome State Fault Refusal := .next (s.powerOn mv.toNat)

/-- A sample of the pressure drop (R575 index 7, R614). -/
def State.sampleDp (s : State) (dp : Nat) : State :=
  { s with cool := { s.cool with dp }, tray := { s.tray with sensors := Tbl.set 0 s.tray.sensors 7 dp } }

/-- R577 step 6: below the threshold bring-up is held with PHASE 5 and a record, and the drop is checked again after 1 s; the converters
start once it has been there. -/
def State.coolantHold (s : State) (dp : Nat) : State :=
  let s := s.sampleDp dp
  let u := s.up
  if s.svc ≠ .init ∨ s.ptc.hasActive = false ∨ u.coolOk then s
  else if u.phase = 2 then
    if dp < noFlowDp then { s with up := { u with phase := 5, checkAt := s.lt } }.recordOpen [dp] else { s with up := { u with coolOk := true } }
  else if u.phase = 5 ∧ u.checkAt + 1000000000 ≤ s.lt then
    { s with up := if dp < noFlowDp then { u with checkAt := s.lt } else { u with phase := 2, coolOk := true } }
  else s

def execCoolantHoldCheck (dp : BitVec 16) (s : State) : Host.Outcome State Fault Refusal := .next (s.coolantHold dp.toNat)

/-- R87, R423: a regulator that starts: powered, at the code of F_MAX. -/
def Region.start (x : Region) (d : Draw) : Region :=
  let k := d.outCode d.fMax
  { x with mode := .powered, enabled := true, clock := d.fMax, cap := d.fMax, setpt := k, target := k, ref := k, bellows := .recharging }

/-- R87, R88, R91: the grid activity of step 9: regulators start and are tested (a
failed test is no condition of R375, so the condition its record shows is open, log entry 16), cores are tested, the active masks are applied. -/
def State.gridUp (s : State) (regFail : List Nat) (coreFail : List Nat) : State :=
  let s := s.modRegions (List.range 432) fun x => x.start s.draw
  let s := regFail.foldl (fun a i => a.failRegulator i (a.recordValue 0x061 1)) s
  let s := coreFail.foldl State.retireCore s
  let s := (List.range 48).foldl (fun a r => { a with grid := { a.grid with active := Tbl.set 0#36 a.grid.active r (a.targetMask r) } }) s
  ((List.range 24).foldl State.regatePair s).updateRows

/-- R289, R304: the fill starts, with the strength that it takes. -/
def State.fillStart (s : State) : State :=
  s.modMem fun m => { m with fill := 1, fillAt := s.lt, t2Code := bits (s.keep keepT2Code).toNat 1 0 }

/-- R26, R518, R614: INIT ends: NOCOUNT and STACK_TRIP clear; BENCHED where the count stands at its limit, else FILLING. -/
def State.initEnd (s : State) : State :=
  let s := if (s.keep keepBench).getLsbD 17 then s.keepWrite keepBench (s.keep keepBench &&& ~~~0x20000#64) else s
  let s := { s with cool := { s.cool with stackTrip := false } }
  if s.benchAtLimit then { s with up := { s.up with phase := 0 } }.enterBenched
  else ({ s with up := { s.up with phase := 4 } }.fillStart).setService .filling s.degradeNow

/-- R577 steps 9 and 10, R579: with the grid up, VCORE is in its window. -/
def State.trainingDone (s : State) (regFail coreFail : List Nat) (memOk : Bool) : State :=
  if s.svc ≠ .init ∨ s.ptc.hasActive = false ∨ s.up.phase ≠ 3 then s
  else if memOk = false then (s.recordOpen []).powerCycleOpen
  else (((s.gridUp regFail coreFail).railState 3 1).applyRowmap).initEnd

def execInitTrainingDone (regFail : List (Fin 432)) (coreFail : List (Fin 1728)) (memOk : Bool) (s : State) :
    Host.Outcome State Fault Refusal :=
  .next (s.trainingDone (regFail.map Fin.val) (coreFail.map Fin.val) memOk)

/-- The rail whose start is under way in the order of R577 steps 7 to 9: V12 while the bus converters start, then those of step 8, then
VCORE. -/
def State.startingRail (s : State) : Option Nat :=
  if s.svc ≠ .init then none
  else if s.up.phase = 3 then some 3
  else if s.up.phase ≠ 2 ∨ s.up.started = 0 then none
  else if s.up.started < 8 then some 1
  else railOrder[s.up.started - 8]?

/-- R579: the rail that is starting is not in its window within 10 ms: one retry, then a power cycle. -/
def State.railStart (s : State) (i : Nat) : State :=
  if s.startingRail ≠ some i ∨ (s.rail i).state = 1 then s
  else if Tbl.get false s.up.retried i then s.powerCycleOpen
  else { s with up := { s.up with retried := Tbl.set false s.up.retried i true } }

def execRailStartTimeout (rail : Fin 12) (s : State) : Host.Outcome State Fault Refusal := .next (s.railStart rail)

/-! Draining and the service epoch (R586, R588). -/

def svcCmdOff : Nat := 0x208

def State.svcResult (s : State) (r : Nat) : State := { s with up := { s.up with result := r } }

def State.anySlot (s : State) : Bool := s.liveSlots.any fun n => decide ((s.slot n).state ≠ .free)

def State.drainCmd (s : State) (fn : Nat) : State :=
  s.gated fn svcCmdOff fun s =>
    if (s.svc = .ready ∨ s.svc = .degraded) ∧ s.anySlot = false then { s with up := { s.up with drained := true } }.svcResult 1
    else s.svcResult 2

def execDrain (fn : Fin 64) (s : State) : Host.Outcome State Fault Refusal := .next (s.drainCmd fn)

def State.undrainCmd (s : State) (fn : Nat) : State :=
  s.gated fn svcCmdOff fun s => { s with up := { s.up with drained := false } }.svcResult 1

def execUndrain (fn : Fin 64) (s : State) : Host.Outcome State Fault Refusal := .next (s.undrainCmd fn)

def State.svcJoin (s : State) (fn : Nat) (e : BitVec 24) : State :=
  s.gated fn 0x210 fun s => if e = s.up.epoch then { s with up := { s.up with joined := true } }.svcResult 1 else s.svcResult 4

def execSvcJoin (fn : Fin 64) (epoch : BitVec 24) (s : State) : Host.Outcome State Fault Refusal := .next (s.svcJoin fn epoch)

/-! The power-cycle request and the fall of VAUX (R518, R563, R564). -/

/-- An L4 asserts PWR_CYCLE_REQ_L after its drain-discard; it counts toward benching unless NOCOUNT is 1. -/
def State.pwrCycle (s : State) : State :=
  if (s.rst.runs.any fun r => decide (r.level = 4)) = false ∨ s.rst.drain.isSome ∨ s.tray.pwrReq then s
  else
    let runs := s.rst.runs
    let s := if (s.keep keepBench).getLsbD 17 then s else s.countBench 4
    let s := { s with rst := { s.rst with runs }, tray := { s.tray with pwrReq := true }, up := { s.up with phase := 6 } }
    let s := (s.l4Hold).emit .pwrCycle
    if s.pwr.closed then s else s.legsOff

def execPwrCycleRequest (s : State) : Host.Outcome State Fault Refusal := .next s.pwrCycle

/-- R23, R447: with the input stage open, VBUS_INT falls below the 30 V that VAUX needs, and the module is OFF. -/
def State.vauxFall (s : State) : State := if s.svc = .off ∨ s.pwr.closed then s else s.goOff

def execVauxFall (s : State) : Host.Outcome State Fault Refusal := .next s.vauxFall

/-! Coolant (R610, R611). -/

/-- R610: one sample in 1 ms. -/
def State.flowSample (s : State) (dp : Nat) : State :=
  let s := s.sampleDp dp
  let c := s.cool
  if s.svc = .off then s
  else if dp < noFlowDp then
    let lost := decide (99 ≤ c.below) && !c.noFlow
    let c := { c with below := c.below + 1, above := 0, noFlow := c.noFlow || lost, losses := if lost then satAdd 0xFFFF c.losses 1 else c.losses }
    let s := { s with cool := c }
    if lost then s.cartTotals else s
  else
    let back := decide (999 ≤ c.above) && c.noFlow
    let s := { s with cool := { c with above := c.above + 1, below := 0, noFlow := c.noFlow && !back } }
    if back then s.cartTotals else s

def execFlowSample (dp : BitVec 16) (s : State) : Host.Outcome State Fault Refusal := .next (s.flowSample dp.toNat)

/-! Trips (R600, R612). -/

/-- An L3 with cause THERMAL; the compute dies are then held in reset. -/
def State.thermalReset (s : State) : State :=
  let s := s.ownReset 3 0 0x0E
  if s.rst.runs.any fun r => decide (r.level = 3) && decide (r.cause = 0x0E) then { s with cool := { s.cool with held := true } } else s

/-- R600: a region of the die reaches 105 °C: level 1 at once, and the lowest clock at each region's next beat boundary. -/
def State.tripDie (s : State) (die : Nat) : State :=
  let s := (s.modDraw fun d => d.setLevel die 1).modRegions ((List.range 432).filter fun i => dieOfRegion i = die) fun x =>
    { x with cap := 0, nextClock := none }
  { s with cool := { s.cool with trip := Tbl.set none s.cool.trip die (some s.lt) } }

/-- R600: the junction of region i, which its flue TEMP gives (R599): the level cut of its die at 105 °C; the L3 at 110 °C, or where the
region still reads 105 °C 10 ms after the cut. A cut is over once no region of the die reads that much then. -/
def State.thermalTrip (s : State) (i : Nat) : State :=
  let die := dieOfRegion i
  let temp := (s.region i).temp
  let after := (Tbl.get none s.cool.trip die).any fun t => decide (t + 10000000 ≤ s.lt)
  if s.svc = .off then s
  else if temp < 105 then
    if after && (List.range 432).all fun q => decide (dieOfRegion q = die → (s.region q).temp < 105) then
      { s with cool := { s.cool with trip := Tbl.set none s.cool.trip die none } }
    else s
  else
    let s := if (Tbl.get none s.cool.trip die).isSome then s else s.tripDie die
    if decide (110 ≤ temp) || after then s.thermalReset else s

def execThermalTrip (region : Fin 432) (s : State) : Host.Outcome State Fault Refusal := .next (s.thermalTrip region).settle

/-- R612: a stack has been at level 3 for 10 s. -/
def State.stackTrip (s : State) (k : Nat) : State :=
  if (s.stack k).throt ≠ 3 ∨ (s.stack k).level3Ms < 10000 then s
  else
    let s := s.thermalReset
    if s.cool.held then { s with cool := { s.cool with stackTrip := true } } else s

def execStackL3Trip (stack : Fin 8) (s : State) : Host.Outcome State Fault Refusal := .next (s.stackTrip stack).settle

/-- R600: the cold plate reads at or below 60 °C and the pressure drop lies at or above the threshold. -/
def State.thermalRelease (s : State) (plate : Int) (dp : Nat) : State :=
  let s := s.sampleDp dp
  let s := { s with tray := { s.tray with sensors := Tbl.set 0 s.tray.sensors 2 plate } }
  if plate ≤ 600 ∧ noFlowDp ≤ dp then { s with cool := { s.cool with held := false } } else s

def execThermalHoldRelease (plate : BitVec 16) (dp : BitVec 16) (s : State) : Host.Outcome State Fault Refusal :=
  .next (s.thermalRelease plate.toInt dp.toNat)

end Sys2Proof.Machine
end

