-- ==== Sys2Proof/Machine/CartExec.lean ====
section
/-! DEFINITION. The commands of the energy cartridges (R440 to R460), those of the PTC set apart. -/

namespace Sys2Proof.Machine

def execCartridgeSample (a b : CartSample) (s : State) : Host.Outcome State Fault Refusal :=
  .next (s.cartSample a b).settle.saveEnds

/-- R441: a leg whose cartridge leaves 30.8 to 53.2 V isolates itself. -/
def State.legSelf (s : State) (b mv : Nat) : State :=
  if (s.bay b).isolated ∨ (30800 ≤ mv ∧ mv ≤ 53200) then s else ((s.modBay b fun x => { x with pack := mv }).isolate b 0).cartTotals

def execLegSelfIsolate (bay : Fin 2) (mv : Nat) (s : State) : Host.Outcome State Fault Refusal := .next (s.legSelf bay mv)

/-- R451: the rests of the two legs alternate. -/
def State.restTurn (s : State) (b : Nat) : Bool :=
  match (s.bay b).restAt, (s.bay (1 - b)).restAt with
  | none, _ => true
  | some _, none => false
  | some t, some u => decide (t ≤ u)

def State.restStart (s : State) (b : Nat) : State :=
  if s.mayRest b && s.restTurn b && s.ptc.hasActive then s.modBay b fun x => { x with resting := true, restFrom := s.lt } else s

def execLegRestStart (bay : Fin 2) (s : State) : Host.Outcome State Fault Refusal := .next (s.restStart bay)

/-- R451, R452: the end of a rest, after 20 ms LT: the offset is trimmed, c and r are learned, voc is a reference. -/
def State.restEnd (s : State) (b : Nat) (offset : Int) (rm : Nat) : State :=
  if !(s.bay b).resting ∨ s.carts.cal.isSome ∨ s.lt < (s.bay b).restFrom + 20000000 then s
  else
    let s := s.modBay b fun x => { x with offset, cur := 0 }
    let s := (s.reference b).modBay b fun x => { x.learnR rm with resting := false, restAt := some s.lt }
    (s.keepLearn b).cartTotals

def execLegRestEnd (bay : Fin 2) (offset : Int) (rm : Nat) (s : State) : Host.Outcome State Fault Refusal :=
  .next (s.restEnd bay offset rm)

/-- R453: no reference for REF_MAX_H hours LT. -/
def State.refOverdue (s : State) (b : Nat) : State :=
  if (s.bay b).state.serves && decide ((s.bay b).refAt + 3600000000000 * s.carts.refMaxH ≤ s.lt) then ((s.modBay b Bay.markSuspect).ownCal b).cartTotals else s

def execReferenceOverdue (bay : Fin 2) (s : State) : Host.Outcome State Fault Refusal := .next (s.refOverdue bay)

/-- R450: the spread has stayed at or below 50 mV for 10 minutes LT: a calibration discharge is requested. -/
def State.imbSettled (s : State) (b : Nat) : State :=
  let x := s.bay b
  if x.imbWait && x.imbFrom.any fun t => decide (t + 600000000000 ≤ s.lt) then (s.setBay b { x with imbWait := false, imbFrom := none }).ownCal b else s

def execImbalanceSettled (bay : Fin 2) (s : State) : Host.Outcome State Fault Refusal := .next (s.imbSettled bay)

/-- R455: a request that waits is retried; otherwise one is requested every CAL_DAYS. -/
def State.calDue (s : State) (b : Nat) : State :=
  if (s.bay b).calWanted then s.ownCal b
  else if s.carts.calDays = 0 ∨ s.lt < (s.bay b).calAt + 86400000000000 * s.carts.calDays then s
  else (s.modBay b fun x => { x with calAt := s.lt }).ownCal b

def execCartCalDue (bay : Fin 2) (s : State) : Host.Outcome State Fault Refusal := .next (s.calDue bay)

/-- R454 step 6: c_meas in 0.01 F from the counted charge in 0.01 C and Δvoc in 5 nV. -/
def State.calFinish (s : State) (c : CartCal) (q rm : Nat) : State :=
  let dv := (c.voc0 - (s.bay c.bay).voc).natAbs
  let n := q * 200000000
  let cm := openDiv n dv
  let s := { s with carts := { s.carts with qMeas := q, cMeas := cm, rMeas := rm } }
  if 11000 * dv ≤ n ∧ n ≤ 26400 * dv ∧ dv ≠ 0 then
    let s := { s with carts := { s.carts with calResult := 3 } }
    let s := s.modBay c.bay fun x => { x with cap := cm, esr := rm, stale := false, suspect := false, worn := x.worn || decide (n < 17600 * dv) }
    ((s.writeLearn c.bay).calOver).cartTotals
  else
    let s := { s with carts := { s.carts with calResult := 5 } }
    ((s.bayFault c.bay 6).calOver).cartTotals

/-- R454: the calibration discharge moves to its next step; `offset` is the sense offset read in the rest, `q` the charge the
leg counted in 0.01 C, `rm` the measured resistance in µΩ. -/
def State.calStep (s : State) (offset : Int) (q rm : Nat) : State :=
  match s.carts.cal with
  | none => s
  | some c =>
    let x := s.bay c.bay
    let put := fun (s : State) (d : CartCal) => { s with carts := { s.carts with cal := some d } }
    match c.step with
    | .prep =>
      if 90 ≤ x.soc then
        put ({ s with carts := { s.carts with calResult := 2 } }.modBay c.bay fun y => { y with resting := true })
          { c with step := .rest0, at_ := s.lt, from_ := s.lt }
      else if c.at_ + 60000000000 ≤ s.lt ∧ x.soc < 85 then s.abandonCal 7
      else s
    | .rest0 =>
      if s.lt < c.from_ + 20000000 then s else
      let s := (s.modBay c.bay fun y => { y with offset, cur := 0 }).reference c.bay
      put (s.modBay c.bay fun y => { y with resting := false }) { c with step := .discharge, from_ := s.lt, voc0 := (s.bay c.bay).voc }
    | .discharge =>
      if x.voc ≤ c.voc0 - 56000000 then
        put (s.modBay c.bay fun y => { y with resting := true }) { c with step := .rest1, from_ := s.lt, q, rMeas := rm }
      else s
    | .rest1 => if s.lt < c.from_ + 20000000 then s else s.calFinish c q rm

def execCalDischargeStep (offset : Int) (q rm : Nat) (s : State) : Host.Outcome State Fault Refusal :=
  .next (s.calStep offset q rm).settle

/-- R454, R456: whether the condition of an abandonment reason holds. -/
def State.abandonHolds (s : State) (reason : Nat) : Bool :=
  match s.carts.cal with
  | none => false
  | some c =>
    let y := s.bay (1 - c.bay)
    if reason = 1 then s.draw.brake
    else if reason = 2 then !s.pwr.closed
    else if reason = 3 then !(y.canCharge && y.canDischarge)
    else if reason = 4 then !(decide ((s.bay 0).state = .calibrating) && decide ((s.bay 1).state = .calibrating))
    else if reason = 5 then decide (s.svc = .saving)
    else if reason = 6 then decide (c.step ≠ .prep) && decide (c.at_ + 10000000000 ≤ s.lt)
    else if reason = 7 then decide (c.step = .prep) && decide (c.at_ + 60000000000 ≤ s.lt) && decide ((s.bay c.bay).soc < 85)
    else false

def execCalDischargeAbandon (reason : Fin 8) (s : State) : Host.Outcome State Fault Refusal :=
  .next (if s.abandonHolds reason then s.abandonCal reason else s)

/-- R22, R577: a cartridge can be admitted: not in SAVING, and in INIT only from step 5, by the ACTIVE PTC. -/
def State.mayAdmit (s : State) : Bool :=
  match s.svc with
  | .off | .saving => false
  | .init => s.ptc.hasActive
  | _ => true

/-- R459: insertion: a bay that is ABSENT admits what is in it. -/
def State.insert (s : State) (b : Nat) (typeOk : Bool) (serial : BitVec 32) (m : CartSample) : State :=
  match (s.bay b).state, s.mayAdmit with
  | _, false => s
  | .absent, _ =>
    let ok := m.cid && m.temps.all fun t => t.any fun x => decide (-40 ≤ x) && decide (x ≤ 125)
    if ok then
      let s := s.modBay b fun x =>
        { x with typeOk, serial, cells := m.cells, pack := m.pack, cur := 0, temps := m.temps.filterMap id, isolated := true,
                 vref := none, charge := 0, resetSince := false, refAt := s.lt, runOver := 0, runSense := 0, runImb := 0, runDis := 0,
                 runOpen := 0, runCid := 0, imbWait := false, imbFrom := none, recent := [], worn := false, rejects := 0 }
      s.admitBay b
    else s
  | _, _ => s

def execCartridgeInsertion (bay : Fin 2) (typeOk : Bool) (serial : BitVec 32) (m : CartSample) (s : State) :
    Host.Outcome State Fault Refusal := .next (s.insert bay typeOk serial m).settle

/-- R459 step 3: the pre-charge has brought the lowest cell to 2.50 V. -/
def State.chargeDone (s : State) (b : Nat) : State :=
  let x := s.bay b
  if s.mayAdmit ∧ x.state = .admitting ∧ x.precharge ∧ 25000 ≤ x.vmin then s.admitDone b else s

def execAdmissionChargeDone (bay : Fin 2) (s : State) : Host.Outcome State Fault Refusal := .next (s.chargeDone bay).settle

end Sys2Proof.Machine
end

