-- ==== Sys2Proof/Machine/CoreExec.lean ====
section
/-! DEFINITION. The commands of a core's units, messages, reductions, steps and rack time (R113, R128, R153 to R161, R178 to R190,
R200 to R237, R267 to R269). -/

namespace Sys2Proof.Machine

/-! Cores and their units. -/

/-- R107, R116, R128: a held bundle is tried again; a core that holds none fetches the next one. -/
def execWaitingBundleIssue (core : Fin 1728) (s : State) : Host.Outcome State Fault Refusal :=
  .next (if s.coreRuns core then s.onCore core fun e c => c.retry e core else s)

/-- R109 to R111, R155: the matrix engines of a core step in this cycle. -/
def Env.enginesStep (e : Env) : Bool := !e.hold && e.permitted && !e.clockChange

/-- R153 to R155: the running operation of an engine completes, in a cycle in which the engines step; a core that is stopped or not
resident has none to complete. -/
def State.engineDone (s : State) (k eng : Nat) : State :=
  if (s.env k).enginesStep then s.unitWork k fun s => { s with free := s.free + 1 }.modCore k fun c => c.engDone eng else s

def execMatrixOpDone (core : Fin 1728) (eng : Fin 2) (s : State) : Host.Outcome State Fault Refusal := .next (s.engineDone core eng)

def execDmaRowMove (core : Fin 1728) (index : Fin 16) (s : State) : Host.Outcome State Fault Refusal :=
  .next (s.unitWork core fun s => s.dmaRow core index)

def execDmaComplete (core : Fin 1728) (index : Fin 16) (s : State) : Host.Outcome State Fault Refusal := .next (s.dmaDone core index)

/-- R113: a detected fault reaches the bundle boundary. -/
def State.deliverFault (s : State) (k : Nat) : State :=
  let before := s.core k
  if before.fault.isSome then s else (s.modCore k fun c => c.deliver true).settleCore k before

def execDeferredFaultDelivery (core : Fin 1728) (s : State) : Host.Outcome State Fault Refusal := .next (s.deliverFault core)

/-! Messages. -/

def execMessageDeposit (m : Msg) (s : State) : Host.Outcome State Fault Refusal :=
  .next (s.arrive { m with kind := if m.kind = .completion then .completion else .data }).settle

def execGrant (m : Msg) (s : State) : Host.Outcome State Fault Refusal := .next (s.arrive { m with kind := .grant })
def execGrantAck (m : Msg) (s : State) : Host.Outcome State Fault Refusal := .next (s.arrive { m with kind := .grantAck })
def execCreditReturn (m : Msg) (s : State) : Host.Outcome State Fault Refusal := .next (s.arrive { m with kind := .creditReturn }).settle
def execGrantRepeat (core : Fin 1728) (s : State) : Host.Outcome State Fault Refusal := .next (s.repeatGrants core)

/-! Reductions. -/

def execReductionPartialDone (slot : Fin 1024) (desc : BitVec 8) (chunk : BitVec 16) (s : State) : Host.Outcome State Fault Refusal :=
  .next (s.partialDone { slot := slot, desc := desc.toNat, chunk := chunk.toNat }).retryHeld.settle

def execReductionInstanceDone (slot : Fin 1024) (desc : BitVec 8) (chunk : BitVec 16) (s : State) : Host.Outcome State Fault Refusal :=
  .next (s.instanceDone { slot := slot, desc := desc.toNat, chunk := chunk.toNat }).retryHeld.settle

/-! Steps. -/

def execCoreArrival (core : Fin 1728) (s : State) : Host.Outcome State Fault Refusal := .next (s.coreArrival core).settle
def execRelease (slot : Fin 1024) (s : State) : Host.Outcome State Fault Refusal := .next (s.release slot)
def execBeatBoundary (slot : Fin 1024) (s : State) : Host.Outcome State Fault Refusal := .next (s.beatBoundary slot)
def execKindleWave (slot : Fin 1024) (wave : Fin 8) (s : State) : Host.Outcome State Fault Refusal := .next (s.kindleWave slot wave)
def execPreBiasWaveSend (wave : Fin 8) (s : State) : Host.Outcome State Fault Refusal := .next (s.sendWave wave)
def execPreBiasEnd (wave : Fin 8) (s : State) : Host.Outcome State Fault Refusal := .next (s.endBias wave)

/-! Rack time. -/

def execTimeCode (f : BitVec 100) (edges : Nat) (s : State) : Host.Outcome State Fault Refusal :=
  .next (s.timeCode f edges).settle

/-- R200: TICK appears. -/
def State.tickOn (s : State) : State :=
  let s := { s with tray := { s.tray with tickAt := none } }.modRt fun r => { r with tickOk := true }
  if s.rt.state = .none then s.setRt .acquiring else s

def execTickPresent (s : State) : Host.Outcome State Fault Refusal := .next s.tickOn

/-- R202: TICK goes missing; a chain being checked starts again. -/
def State.tickOff (s : State) : State :=
  ({ s with tray := { s.tray with tickAt := some s.lt } }.modRt fun r => { r with tickOk := false, good := 0, expect := none }).enterHoldover

def execTickMissing (s : State) : Host.Outcome State Fault Refusal := .next s.tickOff
def execTimeCodesMissing (s : State) : Host.Outcome State Fault Refusal := .next (s.modRt fun r => { r with timeOk := false }).enterHoldover

/-- R202: HOLDOVER has lasted HOLD_LIMIT ms. -/
def State.holdoverLimit (s : State) : State :=
  if s.rt.state = .holdover ∧ s.rt.holdLimit.toNat * 1000000 ≤ s.lt - s.rt.holdFrom then s.setRt .lost else s

def execHoldoverLimit (s : State) : Host.Outcome State Fault Refusal := .next s.holdoverLimit

/-- R204: |e| is at most 2 ns. -/
def State.slewConverged (s : State) : State := if s.rt.state = .slewing ∧ s.rt.slew.natAbs ≤ 2 then s.setRt .locked else s

def execSlewConverged (s : State) : Host.Outcome State Fault Refusal := .next s.slewConverged
def execRtNowRead (fn : Fin 64) (part : Fin 3) (s : State) : Host.Outcome State Fault Refusal := .next (s.readRtNow fn part)

end Sys2Proof.Machine
end

