-- ==== Sys2Proof/Machine/CtxExec.lean ====
section
/-! DEFINITION. The commands of contexts, partitions and repair (R89, R92, R326 to R341). `fn` is the function that writes. -/

namespace Sys2Proof.Machine

def execLoad (fn : Fin 64) (slot : Fin 1024) (s : State) : Host.Outcome State Fault Refusal := .next (s.ctxLoad fn slot)
def execLoadComplete (slot : Fin 1024) (s : State) : Host.Outcome State Fault Refusal := .next (s.loadComplete slot)
def execStart (fn : Fin 64) (slot : Fin 1024) (s : State) : Host.Outcome State Fault Refusal := .next (s.ctxStart fn slot)
def execPark (fn : Fin 64) (slot : Fin 1024) (s : State) : Host.Outcome State Fault Refusal := .next (s.ctxPark fn slot)
def execParkSnapshot (slot : Fin 1024) (s : State) : Host.Outcome State Fault Refusal := .next (s.ctxParkSnapshot slot)
def execParkComplete (slot : Fin 1024) (s : State) : Host.Outcome State Fault Refusal := .next (s.ctxParked slot)
def execRestore (fn : Fin 64) (slot : Fin 1024) (s : State) : Host.Outcome State Fault Refusal := .next (s.ctxRestore fn slot)
def execRestoreComplete (slot : Fin 1024) (s : State) : Host.Outcome State Fault Refusal := .next (s.ctxRestored slot)
def execCtxAbort (fn : Fin 64) (slot : Fin 1024) (s : State) : Host.Outcome State Fault Refusal := .next (s.ctxAbort fn slot)
def execTeardown (fn : Fin 64) (slot : Fin 1024) (s : State) : Host.Outcome State Fault Refusal := .next (s.ctxTeardown fn slot)
def execTeardownFence (slot : Fin 1024) (s : State) : Host.Outcome State Fault Refusal := .next (s.ctxFence slot)

def execPartDefWrite (fn : Fin 64) (k : Fin 16) (v : BitVec 64) (s : State) : Host.Outcome State Fault Refusal := .next (s.partDef fn k v)

def execKeepRetireWrite (fn : Fin 64) (row : Fin 48) (v : BitVec 36) (s : State) : Host.Outcome State Fault Refusal :=
  .next (s.keepRetireWrite fn row v)

def execRepairApply (s : State) : Host.Outcome State Fault Refusal := .next s.repairApply

end Sys2Proof.Machine
end

