-- ==== Sys2Proof/Machine/DrawExec.lean ====
section
/-! DEFINITION. The commands of the draw budget and the damper (R414 to R438). -/

namespace Sys2Proof.Machine

def execStoreControl (pInt : Nat) (s : State) : Host.Outcome State Fault Refusal := .next (s.storeControl pInt)
def execDamperFastWindow (die : Fin 2) (est : Nat) (s : State) : Host.Outcome State Fault Refusal := .next (s.fastWindow die est)
def execDamperSlowPath (pInt other : Nat) (s : State) : Host.Outcome State Fault Refusal := .next (s.slowPath pInt other)

/-- R428: 200 ns RT before the instant of a hint of the die, a forecast above D_d cuts the level. -/
def State.hintCut (s : State) (die forecast : Nat) : State :=
  let due := fun h : DueHint => decide (dieOfRegion h.region = die) && decide (h.at_ ≤ s.rt.now.toNat + 200)
  if !s.draw.hints.any due then s
  else
  let s := s.modDraw fun d => { d with hints := d.hints.filter fun h => !due h }
  if Tbl.get 0 s.draw.allowMw die < forecast then s.cut die forecast else s

def execHintCut (die : Fin 2) (forecast : Nat) (s : State) : Host.Outcome State Fault Refusal := .next (s.hintCut die forecast)
def execDistrustCheck (est meas : Nat) (s : State) : Host.Outcome State Fault Refusal := .next (s.distrustCheck est meas)
def execSensorCheck (pInt : Nat) (s : State) : Host.Outcome State Fault Refusal := .next (s.sensorCheck pInt)
def execTrajectoryInForce (s : State) : Host.Outcome State Fault Refusal := .next s.trajInForce

/-- R562: DRAW_LIMIT in W for a duty in 0.05%. -/
def limitW (duty : Nat) : Nat := (5000 + 23 * duty) / 16

/-- R415, R434: a sample of DRAW_LIMIT; absent or outside 600 to 2,900 W it is taken as 600 W, with a record. -/
def State.limitSample (s : State) (v : Option Nat) : State :=
  let good := v.any fun w => decide (600 ≤ w) && decide (w ≤ 2900)
  let w := if good then v.getD 600 else 600
  let was := s.draw.limitBad
  let s := { s with tray := { s.tray with dlPresent := v.isSome } }.modDraw fun d => { d with limit := w, limitBad := !good, rampMw := min d.rampMw (max (1000 * w) (if d.brake then d.rampMw else 0)) }
  if !good && !was then s.record 0x070 3 [v.getD (s.recordValue 0x070 0)] else s

def execDrawLimitSample (duty : Option (Fin 2001)) (s : State) : Host.Outcome State Fault Refusal :=
  .next (s.limitSample (duty.map fun d => limitW d.val))

/-- R415, R435, R456: the brake: level 8 at most, P_ramp to FLOOR, and a calibration discharge ends. -/
def State.brakeOn (s : State) : State :=
  (s.modDraw fun d => { d with brake := true, rampMw := 1000 * d.floor }).abandonCal 1

def execShelfBrakeAssert (s : State) : Host.Outcome State Fault Refusal := .next s.brakeOn
def execShelfBrakeRelease (s : State) : Host.Outcome State Fault Refusal := .next (s.modDraw fun d => { d with brake := false })
def execTelFastEntry (busW : BitVec 16) (s : State) : Host.Outcome State Fault Refusal := .next (s.telFast busW.toNat)

/-- R359, R438: the ends of the windows, and the sample of the rails. -/
def State.telWindow (s : State) (v i p : Nat) : State :=
  let s := { s with pwr := { s.pwr with busMv := v, busCur := i } }
  (s.sampleRails v).windowEnd { v, i, p, t := s.draw.tMax }

def execTelWindowEnd (v cur p : BitVec 16) (s : State) : Host.Outcome State Fault Refusal := .next (s.telWindow v.toNat cur.toNat p.toNat)

/-- R438: a read returns the held peaks and starts a new hold; one of a virtual function is denied (R343, R345). -/
def State.peakRead (s : State) (fn : Nat) : State :=
  s.byHost fn fun s =>
    if fn = 0 then (s.emit (.hostRead 0 (toLE 8 s.ptcView.draw.peaks.word) false)).newPeaks
    else (s.deny fn 0 0 0x82048 false).emit (.hostRead fn (toLE 8 0) false)

def execTelPeakRead (fn : Fin 64) (s : State) : Host.Outcome State Fault Refusal := .next (s.peakRead fn)

end Sys2Proof.Machine
end

