-- ==== Sys2Proof/Machine/FabExec.lean ====
section
/-! DEFINITION. The commands of the fabric (R242 to R262, R267, R273). FRAME_RECEIVE is a frame as it arrives; MSG, RCONTRIB,
RRESULT, BARRIER and ABORT are the delivery of one that has passed the checks of R247. -/

namespace Sys2Proof.Machine

def execFrameReceive (port : Fin 18) (idle : Bool) (words : List (BitVec 64)) (corr uncorr : BitVec 16) (s : State) :
    Host.Outcome State Fault Refusal :=
  .next ((s.modPort port fun p => p.codewords corr.toNat uncorr.toNat).frameIn port idle (rxFrame words)).settle

def execMsg (port : Fin 18) (f : Frame) (s : State) : Host.Outcome State Fault Refusal := .next (s.deliver port { f with type := 0x01#8 }).settle
def execRcontrib (port : Fin 18) (f : Frame) (s : State) : Host.Outcome State Fault Refusal := .next (s.deliver port { f with type := 0x02#8 })
def execRresult (port : Fin 18) (f : Frame) (s : State) : Host.Outcome State Fault Refusal := .next (s.deliver port { f with type := 0x03#8 })
def execBarrier (port : Fin 18) (f : Frame) (s : State) : Host.Outcome State Fault Refusal := .next (s.deliver port { f with type := 0x04#8 }).settle
def execAbort (port : Fin 18) (f : Frame) (s : State) : Host.Outcome State Fault Refusal := .next (s.deliver port { f with type := 0x05#8 })

/-- R248: an acknowledgement received; what it frees lets further frames leave. -/
def State.linkAck (s : State) (k : Nat) (q : BitVec 12) : State :=
  if (s.port k).state = .up ∧ (s.port k).retrain = false then (s.modPort k fun p => p.acked q).pumpPort k else s

def execLinkAck (port : Fin 18) (ackseq : BitVec 12) (s : State) : Host.Outcome State Fault Refusal := .next (s.linkAck port ackseq)
def execLinkNack (port : Fin 18) (nseq : BitVec 12) (s : State) : Host.Outcome State Fault Refusal := .next (s.linkNack port nseq)

/-- R250: credits returned by the partner. -/
def State.linkCredit (s : State) (k a b c : Nat) : State :=
  if (s.port k).state = .up ∧ (s.port k).retrain = false then
    (s.modPort k fun p => { p with credits := { c0 := p.credits.c0 + a, c1 := p.credits.c1 + b, c2 := p.credits.c2 + c } }).pumpPort k
  else s

def execLinkCredit (port : Fin 18) (v0 v1 v2 : BitVec 16) (s : State) : Host.Outcome State Fault Refusal :=
  .next (s.linkCredit port v0.toNat v1.toNat v2.toNat)

def execLinkInit (port : Fin 18) (v0 v1 v2 : BitVec 16) (rcvd : Bool) (version : BitVec 8) (s : State) : Host.Outcome State Fault Refusal :=
  .next (s.linkInit port v0.toNat v1.toNat v2.toNat rcvd version.toNat)

def execLinkInitSend (port : Fin 18) (s : State) : Host.Outcome State Fault Refusal := .next (s.linkInitSend port)

/-- R251, R260: no LINK_INIT with RCVD = 1 has arrived within 10 ms of alignment. One that waits for its chip number stays in TRAINING
(R241). -/
def State.initTimeout (s : State) (k : Nat) : State :=
  let p := s.port k
  if p.state = .training ∧ p.aligned = true ∧ p.rcvdGot = false then s.portDown k else s

def execLinkInitTimeout (port : Fin 18) (s : State) : Host.Outcome State Fault Refusal := .next (s.initTimeout port)
def execLanesAligned (port : Fin 18) (lanes : BitVec 4) (s : State) : Host.Outcome State Fault Refusal := .next (s.lanesAligned port lanes)
def execReplayTimeout (port : Fin 18) (s : State) : Host.Outcome State Fault Refusal := .next (s.replayTimeout port)
def execLaneRetire (port : Fin 18) (lane : Fin 4) (s : State) : Host.Outcome State Fault Refusal := .next (s.laneRetire port lane)
def execLaneRetrainDone (port : Fin 18) (s : State) : Host.Outcome State Fault Refusal := .next (s.retrainDone port)
def execPortDown (port : Fin 18) (s : State) : Host.Outcome State Fault Refusal := .next (s.portDown port)
def execPortRetrainAttempt (port : Fin 18) (s : State) : Host.Outcome State Fault Refusal := .next (s.retrainAttempt port)

def execDisable (fn : Fin 64) (port : Fin 18) (v : Bool) (s : State) : Host.Outcome State Fault Refusal :=
  .next (s.portCtrl fn port fun s => s.portDisable port v)

def execRetrain (fn : Fin 64) (port : Fin 18) (s : State) : Host.Outcome State Fault Refusal := .next (s.portCtrl fn port fun s => s.portRetrain port)

def execRestoreLanes (fn : Fin 64) (port : Fin 18) (s : State) : Host.Outcome State Fault Refusal :=
  .next (s.portCtrl fn port fun s => s.restoreLanes port)

end Sys2Proof.Machine
end

