-- ==== Sys2Proof/Machine/FeedExec.lean ====
section
/-! DEFINITION. The commands of the feed stage (R388 to R412). -/

namespace Sys2Proof.Machine

def execLoopSample (rail : Fin 7) (uv : Nat) (s : State) : Host.Outcome State Fault Refusal := .next (s.loopSample rail uv)

/-- R398: SHED_HOLD has passed with neither condition. -/
def State.leaveForced (s : State) : State :=
  if s.lt < s.feed.forcedAt + 1000 * s.feed.shedHold then s else s.modFeed fun f => { f with forced := false }

def execForcedExit (s : State) : Host.Outcome State Fault Refusal := .next s.leaveForced

def execTrimUpdate (rail : Fin 7) (s : State) : Host.Outcome State Fault Refusal := .next (s.modFeed fun f => f.trimUpdate rail)
def execSlotRotation (rail : Fin 7) (s : State) : Host.Outcome State Fault Refusal := .next (s.modFeed fun f => f.rotate rail)

/-- R394: a period between 495 and 505 kHz, in ps. -/
def vrsyncGood (ps : Nat) : Bool := decide (1000000000000 ≤ 505000 * ps) && decide (495000 * ps ≤ 1000000000000)

/-- R392 to R394: a rising edge. In range, a waiting re-spacing is made, the placement moves by at most 20 ns toward the edge, and LOCK is set
once it is within 5 ns. -/
def Feed.edge (f : Feed) (lt ps : Nat) (err : Int) : Feed :=
  if vrsyncGood ps then
    let g := if f.respace then f.place else f
    { g with edgeAt := lt, badPeriods := 0, lock := g.lock || decide (err.natAbs ≤ 25) }
  else { f with edgeAt := lt, badPeriods := f.badPeriods + 1 }

def execVrsyncEdge (ps : Nat) (err : Int) (s : State) : Host.Outcome State Fault Refusal := .next (s.modFeed fun f => f.edge s.lt ps err)

/-- R394: missing for 2.5 µs LT, or out of range for 16 periods: the stage free-runs. -/
def State.vrsyncLoss (s : State) : State :=
  if s.feed.lock ∧ (s.feed.edgeAt + 2500 ≤ s.lt ∨ 16 ≤ s.feed.badPeriods) then
    (s.modFeed fun f => { f with lock := false, losses := satAdd 0xFFFF f.losses 1 }).record 0x062 0 []
  else s

def execVrsyncLoss (s : State) : Host.Outcome State Fault Refusal := .next s.vrsyncLoss
def execPhaseShed (s : State) : Host.Outcome State Fault Refusal := .next s.shedOne

/-- R397: below 3 A for 8 cycles, 32 samples; VFEED also needs n_act = N_MIN and is not FORCED. -/
def State.demEntry (s : State) (k : Nat) : State :=
  let f := s.feed
  let p := f.phase k
  let ok := decide (railOfPhase k ≠ 0) || (decide (f.nAct 0 = f.nMin) && !f.forced)
  if p.mode = .ccm ∧ 32 ≤ p.low ∧ ok then s.modPhase k fun p => { p with mode := .dem, trim := 0 } else s

def execDemEntry (phase : Fin 76) (s : State) : Host.Outcome State Fault Refusal := .next (s.demEntry phase)
def execFastLimitFail (phase : Fin 76) (s : State) : Host.Outcome State Fault Refusal := .next (s.phaseFail phase 2).settle

/-- R400: 115 °C clamps the phase's target to 25 A, 125 °C fails it. -/
def State.overtemp (s : State) (k temp : Nat) : State :=
  if 125 ≤ temp then s.phaseFail k 5
  else s.modPhase k fun p => { p with hot := decide (115 ≤ temp), target := if 115 ≤ temp ∧ 25 < p.target then 25 else p.target }

def execPhaseOvertemp (phase : Fin 76) (temp : Nat) (s : State) : Host.Outcome State Fault Refusal :=
  .next (s.overtemp phase temp).settle

/-- R402: 0 a sag, 1 below 1.70 V for 20 µs, 2 above 1.90 V, 3 a short. -/
def State.vfeedEvent (s : State) (kind : Nat) : State :=
  if kind = 0 then (s.modFeed fun f => { f with sags := satAdd 0xFFF f.sags 1 }).recordOpen []
  else if kind = 1 then s.railFault 2
  else if kind = 2 then (s.modFeed Feed.stopAll).railFault 2
  else (s.modFeed Feed.stopAll).powerCycle 0x0A

def execVfeedWindowEvent (kind : Fin 4) (s : State) : Host.Outcome State Fault Refusal := .next (s.vfeedEvent kind).settle

/-- R352, R403: V12 below 10.5 V: every phase stops and the module goes to OFF. -/
def State.v12Loss (s : State) (mv : Nat) : State :=
  if s.svc = .off ∨ 10500 ≤ mv then s else ((s.modFeed Feed.stopAll).record 0x060 (3 + field 1 4 2) [1]).goOff

def execV12Loss (mv : Nat) (s : State) : Host.Outcome State Fault Refusal := .next (s.v12Loss mv)

/-- R404: both senses below 2 A with a target of at least 10 A, for 4 cycles. -/
def State.phaseOpen (s : State) (k ind sw : Nat) : State :=
  let p := s.feed.phase k
  if p.mode = .failed ∨ p.target < 10 ∨ 32 ≤ ind ∨ 32 ≤ sw then s
  else ((s.phaseFail k 1).record 0x062 (2 + field k 7 3) [k]).replacePhase k

def execPhaseOpen (phase : Fin 76) (ind sw : BitVec 10) (s : State) : Host.Outcome State Fault Refusal :=
  .next (s.phaseOpen phase ind.toNat sw.toNat).settle

/-- R405: the mean IPH of the rail's other CCM phases, and a sense within 25% of it. -/
def Feed.meanOther (f : Feed) (k : Nat) : Rat :=
  let ks := (railPhases (railOfPhase k)).filter fun j => j ≠ k && decide ((f.phase j).mode = .ccm)
  if ks.isEmpty then 0 else ((ks.foldl (fun a j => a + (f.phase j).iph) 0 : Nat) : Rat) / (ks.length : Rat)
def nearMean (m : Rat) (x : Nat) : Bool := decide (3 * m ≤ 4 * (x : Rat)) && decide (4 * (x : Rat) ≤ 5 * m)

/-- R405: two senses that differ by more than 25% or 5 A, whichever is larger; 25% of the larger one (log entry 146). -/
def sensesDiffer (ind sw : Nat) : Bool :=
  let d := (ind - sw) + (sw - ind)
  decide (80 < d) && decide (max ind sw < 4 * d)

/-- R405: which of the two senses is believed. -/
def State.senseMismatch (s : State) (k ind sw : Nat) : State :=
  let m := s.feed.meanOther k
  let i := nearMean m ind
  let w := nearMean m sw
  if (s.feed.phase k).mode = .failed ∨ sensesDiffer ind sw = false ∨ (i ∧ w) then s
  else
    let s := if i then s.phaseFail k 3 else if w then
        s.modPhase k fun p => { p with mode := .follow, sense := true, trim := 0 }
      else s.phaseFail k 4
    s.record 0x062 (3 + field k 7 3) [k]

def execSenseMismatch (phase : Fin 76) (ind sw : BitVec 10) (s : State) : Host.Outcome State Fault Refusal :=
  .next (s.senseMismatch phase ind.toNat sw.toNat).settle

/-- R407: a phase that has had no target for 2 µs LT: its last target, corrected by 1 A per mV of its local error; a phase in SHED only
above 40 mV. -/
def State.phaseHold (s : State) (k : Nat) (err : Int) : State :=
  if s.lt < (s.feed.loop (railOfPhase k)).sampledAt + 2000 then s
  else
    s.modPhase k fun p =>
      let law := { p with mode := .hold, target := clampRat 0 (if p.hot then 25 else 35) (p.base + err) }
      match p.mode with
      | .failed => p
      | .shed => if 40 < err then { law with base := 0, target := clampRat 0 35 err } else p
      | _ => law

def execPhaseHoldMode (phase : Fin 76) (err : Int) (s : State) : Host.Outcome State Fault Refusal := .next (s.phaseHold phase err)

/-- R409, R413: a write of FEED_COEF_WR. -/
def execFeedCoefWr (fn : Fin 64) (w : BitVec 64) (s : State) : Host.Outcome State Fault Refusal :=
  .next (s.gated fn 0x86018 fun s => s.coefWrite (bits w.toNat 2 0) (bits w.toNat 5 3) (bits w.toNat 26 16))

def execCoefRevert (rail : Fin 7) (s : State) : Host.Outcome State Fault Refusal := .next (s.coefRevert rail)

/-- R412: the bits [71:0] of the frame a phase sends. -/
def Phase.flueBody (p : Phase) (k : Nat) (m : PhaseSample) : Nat :=
  field k 7 0 + field m.iph.toNat 10 7 + field m.duty.toNat 10 17 + field m.vin.toNat 10 27 + field m.temp.toNat 7 37 + field p.mode.code 3 44 +
  flag1 m.fast 47 + flag1 p.sense 48 + field p.frames 6 66

/-- R374, R412: a frame as the loop engine receives it in the slot of phase k: a bad CRC or an unexpected PHASE or FSEQ is discarded and
counted, and the count of the slot goes on (log entry 144). -/
def State.phaseTake (s : State) (k : Nat) (w : BitVec 80) : State :=
  let n := w.toNat
  let q := bits n 71 66
  let expected := match (s.feed.phase k).fseq with
    | some p => decide (q = (p + 1) % 64)
    | none => true
  if !flueOk w || decide (bits n 6 0 ≠ k) || !expected then
    (s.modFeed fun x => { x with flueErr := satAdd 0xFFF x.flueErr 1 }).modPhase k fun p => { p with fseq := p.fseq.map fun a => (a + 1) % 64 }
  else
    let s := s.modPhase k fun p => { p with iph := bits n 16 7, duty := bits n 26 17, vin := bits n 36 27, temp := bits n 43 37,
                                            telMode := bits n 46 44, fastMet := n.testBit 47, stale := false, fseq := some q }
    s.laneHeard (12 + phaseLane k)

/-- R412: a phase sends the frame of its period, and the loop engine, where a PTC is ACTIVE, takes it as it arrives. -/
def State.phaseFrame (s : State) (k : Nat) (m : PhaseSample) : State :=
  let w := flueSeal ((s.feed.phase k).flueBody k m) ^^^ m.flip
  let s := s.modPhase k fun p => { p with frames := (p.frames + 1) % 64 }
  if s.ptc.hasActive then s.phaseTake k w else s

def execPhaseFlueFrame (phase : Fin 76) (m : PhaseSample) (s : State) : Host.Outcome State Fault Refusal := .next (s.phaseFrame phase m)

end Sys2Proof.Machine
end

