-- ==== Sys2Proof/Machine/PtcExec.lean ====
section
/-! DEFINITION. The commands of the PTC pair and the PTC command set (R463 to R487, R461). -/

namespace Sys2Proof.Machine

/-! The pair. -/

/-- R465, R466: a heartbeat of the holder; the first one in INIT shows that it has booted. -/
def State.heartbeat (s : State) : State :=
  match s.ptc.owner with
  | none => s
  | some x =>
    if s.ptc.switching then s
    else match s.ptc.mode x with
      | .active => s.modPtc fun p => { p with heartAt := s.lt }
      | .standby => if s.svc = .init then s.bootActive x else s
      | _ => s

def execHeartbeat (s : State) : Host.Outcome State Fault Refusal := .next s.heartbeat.settle

/-- R465, R469 cause 1: 100 µs LT after the last heartbeat. -/
def State.heartbeatLost (s : State) : State := if s.ptc.hasActive && decide (s.ptc.heartAt + 100000 ≤ s.lt) then s.takeoverStart 1 else s

def execHeartbeatLost (s : State) : Host.Outcome State Fault Refusal := .next s.heartbeatLost.settle

/-- R466, R469 cause 2: an internal fault of the holder, its self-test at INIT included. -/
def State.faultReport (s : State) : State :=
  match s.ptc.owner with
  | none => s
  | some x => if s.ptc.hasActive then s.takeoverStart 2 else if s.svc = .init then s.bootFail x else s

def execPtcFaultReport (s : State) : Host.Outcome State Fault Refusal := .next s.faultReport.settle
def execTakeover (s : State) : Host.Outcome State Fault Refusal := .next s.takeoverDone.settle
/-- R467: a checkpoint is due 1 ms LT after the newest. -/
def State.checkpointDue (s : State) (ok : Bool) (us : Nat) : State :=
  match s.ptc.newest with
  | some c => if s.lt < c.lt + 1000000 then s else s.checkpoint ok us
  | none => s.checkpoint ok us

def execCheckpoint (ok : Bool) (us : BitVec 16) (s : State) : Host.Outcome State Fault Refusal :=
  .next (s.checkpointDue ok us.toNat).settle
def execAbsence5ms (s : State) : Host.Outcome State Fault Refusal := .next s.absence5

/-- R476: after 50 ms LT of absence the arbiter decides an L4 reset and logs it; no rule gives the cause code of that reset (log entry 22). -/
def State.absence50 (s : State) : State :=
  if !s.ptc.absent ∨ s.lt < s.ptc.absentAt + 50000000 then s
  else
    let s := s.modPtc fun p => { p with arbLog := p.arbLog ++ [s.lt] }
    s.powerCycleOpen

def execAbsence50ms (s : State) : Host.Outcome State Fault Refusal := .next s.absence50.settle

/-- R481: PROVE_H hours have passed; a PTC in RESYNC has passed its self-test and loaded its firmware, and proves. -/
def State.provingDue (s : State) : State :=
  match s.ptc.find .resync with
  | some _ => (s.modPtc fun p => { p with resyncReady := true }).takeBaton
  | none => if s.ptc.proveH = 0 ∨ !s.ptc.hasActive ∨ s.lt < s.ptc.proveAt + 3600000000000 * s.ptc.proveH then s else s.beginProving

def execProvingDue (s : State) : Host.Outcome State Fault Refusal := .next s.provingDue
def execProvingDone (test : BitVec 8) (self : Bool) (s : State) : Host.Outcome State Fault Refusal :=
  .next (s.provingEnd test.toNat self).settle

/-! The command set (R485). -/

def execStatus (iss : PtcIssue) (arg : BitVec 64) (s : State) : Host.Outcome State Fault Refusal :=
  .next (s.ptcCommand iss 0 fun s => s.ptcZeroArg iss 0 arg fun s => s.ptcEnd iss 0 arg .ok 0)

/-- R471: a final checkpoint, then t0. -/
def State.switchRun (s : State) (iss : PtcIssue) (arg : BitVec 64) : State :=
  if s.ptc.switchRefusal ≠ 0 then s.ptcEnd iss 1 arg .refused s.ptc.switchRefusal
  else ((s.checkpoint true s.ptc.writeUs).ptcRun iss 1 arg).takeoverStart 4

def execSwitch (iss : PtcIssue) (arg : BitVec 64) (s : State) : Host.Outcome State Fault Refusal :=
  .next (s.ptcCommand iss 1 fun s => s.ptcZeroArg iss 1 arg fun s => s.switchRun iss arg).settle

def State.returnRun (s : State) (iss : PtcIssue) (arg : BitVec 64) : State :=
  if 1 < arg.toNat then s.ptcEnd iss 2 arg .badarg 0
  else
    let r := s.ptc.returnRefusal arg.toNat
    if r ≠ 0 then s.ptcEnd iss 2 arg .refused r else (s.ptcRun iss 2 arg).beginReturn arg.toNat

def execReturnPtc (iss : PtcIssue) (arg : BitVec 64) (s : State) : Host.Outcome State Fault Refusal :=
  .next (s.ptcCommand iss 2 fun s => s.returnRun iss arg).settle

def State.proveRun (s : State) (iss : PtcIssue) (arg : BitVec 64) : State :=
  if s.ptc.proveRefusal ≠ 0 then s.ptcEnd iss 3 arg .refused s.ptc.proveRefusal
  else (s.ptcRun iss 3 arg).beginProving

def execProve (iss : PtcIssue) (arg : BitVec 64) (s : State) : Host.Outcome State Fault Refusal :=
  .next (s.ptcCommand iss 3 fun s => s.ptcZeroArg iss 3 arg fun s => s.proveRun iss arg)

/-- R483: a piece goes from the staging window to the free slot. -/
def State.stageRun (s : State) (iss : PtcIssue) (arg : BitVec 64) : State :=
  if 255 < arg.toNat then s.ptcEnd iss 4 arg .badarg 0
  else match s.ptc.freeSlot with
    | none => s.ptcEnd iss 4 arg .refused 1
    | some k =>
      let i := arg.toNat
      (s.modPtc fun p => { p with
        img0 := if k = 0 then commitPiece p.img0 p.stage i else p.img0,
        img1 := if k = 0 then p.img1 else commitPiece p.img1 p.stage i, staged := some k }).ptcEnd iss 4 arg .ok 0

def execFwStage (iss : PtcIssue) (arg : BitVec 64) (s : State) : Host.Outcome State Fault Refusal :=
  .next (s.ptcCommand iss 4 fun s => s.stageRun iss arg)

/-- R483: the STANDBY PTC loads the staged slot; what its header and CRC show are operands. An image fits its 16 MiB slot. -/
def State.updateRun (s : State) (iss : PtcIssue) (arg : BitVec 64) (version : BitVec 32) (crcOk fmtOk : Bool) : State :=
  if arg.toNat = 0 ∨ 0x1000000 < arg.toNat then s.ptcEnd iss 5 arg .badarg 0
  else
    let r := s.ptc.updateRefusal crcOk fmtOk
    if r ≠ 0 then s.ptcEnd iss 5 arg .refused r
    else match s.ptc.find .standby with
      | none => s
      | some x =>
        (s.ptcRun iss 5 arg).modPtc fun p =>
          let q := p.setFw x { p.fw x with version, slot := p.staged.getD (p.freeSlot.getD (p.fw x).slot) }
          { q.setMode x .resync with resyncReady := false }

def execFwUpdate (iss : PtcIssue) (arg : BitVec 64) (version : BitVec 32) (crcOk fmtOk : Bool) (s : State) :
    Host.Outcome State Fault Refusal :=
  .next (s.ptcCommand iss 5 fun s => s.updateRun iss arg version crcOk fmtOk).settle

/-- R382, R485. -/
def State.regCalRun (s : State) (iss : PtcIssue) (arg : BitVec 64) : State :=
  let i := arg.toNat
  if 432 ≤ i then s.ptcEnd iss 0x18 arg .badarg 0
  else if !(s.region i).mode.railed then s.ptcEnd iss 0x18 arg .refused 1
  else
    let r := s.calRefusal i
    if r ≠ 0 then s.ptcEnd iss 0x18 arg .deferred r else (s.startRegCal i true).ptcEnd iss 0x18 arg .ok 0

def execRegCal (iss : PtcIssue) (arg : BitVec 64) (s : State) : Host.Outcome State Fault Refusal :=
  .next (s.ptcCommand iss 0x18 fun s => s.regCalRun iss arg)

/-- R485: a self-test runs until its end is reported. -/
def State.selftestRun (s : State) (iss : PtcIssue) (arg : BitVec 64) : State :=
  if 3 < arg.toNat then s.ptcEnd iss 0x19 arg .badarg 0
  else
    let r := s.selftestDefer arg.toNat
    if r ≠ 0 then s.ptcEnd iss 0x19 arg .deferred r else s.ptcRun iss 0x19 arg

def execSelftest (iss : PtcIssue) (arg : BitVec 64) (s : State) : Host.Outcome State Fault Refusal :=
  .next (s.ptcCommand iss 0x19 fun s => s.selftestRun iss arg)

/-- R484, R485: the end of a running self-test with its outcome; the other running commands end with what they run. -/
def execPtcCommandDone (detail : BitVec 8) (s : State) : Host.Outcome State Fault Refusal :=
  .next (s.ptcFinishOp [0x19] detail.toNat)

/-! The cartridge commands (R461). -/

/-- R461: the leg's current goes to the other leg, and the bay is RELEASED. -/
def State.releaseBay (s : State) (b : Nat) : State :=
  (((s.modBay b fun x => { x with ind := true }).isolate b 0).bayTo b .released).cartTotals

/-- The last cartridge in service. -/
def State.lastServing (s : State) (b : Nat) : Bool := (s.bay b).state.serves && !(s.bay (1 - b)).state.serves

def State.releaseRun (s : State) (iss : PtcIssue) (arg : BitVec 64) : State :=
  let b := (arg &&& ~~~0x100#64).toNat
  if 1 < b then s.ptcEnd iss 0x10 arg .badarg 0
  else match (s.bay b).state with
    | .released => s.ptcEnd iss 0x10 arg .ok 0
    | .absent | .foreign | .fault => s.ptcEnd iss 0x10 arg .refused 2
    | .admitting => s.ptcEnd iss 0x10 arg .deferred (if s.carts.cal.isSome then 1 else 6)
    | .inService | .calibrating =>
      if s.carts.cal.isSome then s.ptcEnd iss 0x10 arg .deferred 1
      else if s.lastServing b ∧ arg.getLsbD 8 = false then s.ptcEnd iss 0x10 arg .refused 1
      else (s.releaseBay b).ptcEnd iss 0x10 arg .ok 0

def execCartRelease (iss : PtcIssue) (arg : BitVec 64) (s : State) : Host.Outcome State Fault Refusal :=
  .next (s.ptcCommand iss 0x10 fun s => s.releaseRun iss arg).settle

/-- R461 states no reason for a refused CART_ADMIT or CART_CAL: the reason is open (log entry 1). -/
def State.refusedOpen (s : State) (iss : PtcIssue) (op : Nat) (arg : BitVec 64) : State :=
  let a := s.draw1
  a.2.ptcEnd iss op arg .refused (a.1 % 256)

def State.admitRun (s : State) (iss : PtcIssue) (arg : BitVec 64) : State :=
  if 1 < arg.toNat then s.ptcEnd iss 0x11 arg .badarg 0
  else
    let x := s.bay arg.toNat
    let ok := decide (x.state = .released) ||
      (decide (x.state = .fault) && (decide (x.cause = 3) || decide (x.cause = 4) || decide (x.cause = 5)))
    if ok then (s.admitBay arg.toNat).ptcEnd iss 0x11 arg .ok 0 else s.refusedOpen iss 0x11 arg

def execCartAdmit (iss : PtcIssue) (arg : BitVec 64) (s : State) : Host.Outcome State Fault Refusal :=
  .next (s.ptcCommand iss 0x11 fun s => s.admitRun iss arg).settle

def State.cartCalRun (s : State) (iss : PtcIssue) (arg : BitVec 64) : State :=
  if 1 < arg.toNat then s.ptcEnd iss 0x12 arg .badarg 0
  else if (s.bay arg.toNat).state ≠ .inService then s.refusedOpen iss 0x12 arg
  else
    let r := s.calReason arg.toNat
    if r ≠ 0 then { s with carts := { s.carts with calReason := r } }.ptcEnd iss 0x12 arg .deferred r
    else (s.startCal arg.toNat true).ptcEnd iss 0x12 arg .ok 0

def execCartCal (iss : PtcIssue) (arg : BitVec 64) (s : State) : Host.Outcome State Fault Refusal :=
  .next (s.ptcCommand iss 0x12 fun s => s.cartCalRun iss arg).settle

end Sys2Proof.Machine
end

