-- ==== Sys2Proof/Machine/RstExec.lean ====
section
/-! DEFINITION. The commands of chapter 18, ember save set apart (R491 to R513, R520). -/

namespace Sys2Proof.Machine

def execWatchdogExpired (slot : Fin 1024) (s : State) : Host.Outcome State Fault Refusal := .next (s.watchdog slot)
def execStopOrderTimeout (core : Fin 1728) (s : State) : Host.Outcome State Fault Refusal := .next (s.stopTimeout core).settle
def execEngineStall (core : Fin 1728) (m1 : Bool) (s : State) : Host.Outcome State Fault Refusal := .next (s.engineStall core m1).settle
def execDmaTimeout (core : Fin 1728) (s : State) : Host.Outcome State Fault Refusal := .next (s.dmaTimeout core).settle
def execSendCopyTimeout (core : Fin 1728) (s : State) : Host.Outcome State Fault Refusal := .next (s.sendTimeout core).settle
def execLinkStall (s : State) : Host.Outcome State Fault Refusal := .next (s.ownReset 3 0 0x07).settle
def execChannelStall (ch : Fin 384) (s : State) : Host.Outcome State Fault Refusal := .next (s.channelStall ch).settle
def execReductionStall (s : State) : Host.Outcome State Fault Refusal := .next s.reductionStall.settle

def execReset (by_ : Requester) (level : BitVec 3) (target : BitVec 11) (s : State) : Host.Outcome State Fault Refusal :=
  .next (s.resetOrder by_ level.toNat target.toNat).settle

def execDump (fn : Fin 64) (slot : Fin 1024) (s : State) : Host.Outcome State Fault Refusal := .next (s.dumpOrder fn slot)
def execDumpCopy (fn : Fin 64) (target : BitVec 11) (s : State) : Host.Outcome State Fault Refusal := .next (s.copyOrder fn target.toNat)
def execDumpFree (fn : Fin 64) (target : BitVec 11) (s : State) : Host.Outcome State Fault Refusal := .next (s.freeOrder fn target.toNat)
def execRstCmdDone (ok : Bool) (s : State) : Host.Outcome State Fault Refusal := .next (s.rstCmdDone ok)
def execBenchClear (by_ : Requester) (s : State) : Host.Outcome State Fault Refusal := .next (s.benchOrder by_)
def execReplay (fn : Fin 64) (slot : BitVec 11) (s : State) : Host.Outcome State Fault Refusal := .next (s.replayOrder fn slot.toNat).settle
def execDrainDiscardEnd (s : State) : Host.Outcome State Fault Refusal := .next s.drainEnd

def execResetRecovered (level : Fin 5) (target : BitVec 11) (failed : List (Fin 1728)) (s : State) : Host.Outcome State Fault Refusal :=
  .next (s.resetRecovered level target.toNat failed)

def execResetEscalation (level : Fin 5) (target : BitVec 11) (s : State) : Host.Outcome State Fault Refusal :=
  .next (s.escalate level target.toNat).settle

def execSaveListWrite (fn : Fin 64) (addr : BitVec 48) (s : State) : Host.Outcome State Fault Refusal := .next (s.saveListWrite fn addr)

end Sys2Proof.Machine
end

