-- ==== Sys2Proof/Machine/RegWrite.lean ====
section
/-! DEFINITION. Host writes to CW, DW and the keep registers (R537 to R548, with the register tables of every chapter): alignment,
halves, access classes, ranges. A write to a register that a command of its own names is that command. -/

namespace Sys2Proof.Machine

/-! The write itself (R537). -/

/-- A write that keeps R537: 4 or 8 bytes, naturally aligned. -/
def cwAligned (off len : Nat) : Bool := (decide (len = 8) && decide (off % 8 = 0)) || (decide (len = 4) && decide (off % 4 = 0))

/-- The register's 64 bits after a write of a whole or of a half, the other half unchanged. -/
def cwMerge (old : BitVec 64) (off len : Nat) (v : BitVec 64) : BitVec 64 :=
  if len = 8 then v
  else if off % 8 = 0 then (old &&& 0xFFFFFFFF00000000#64) ||| (v &&& 0xFFFFFFFF#64)
  else (old &&& 0xFFFFFFFF#64) ||| (v <<< 32)

/-- The write covers bits [31:0]. -/
def cwLow (off len : Nat) : Bool := decide (len = 8) || decide (off % 8 = 0)

/-- R537: registers that act only on an 8-byte write. -/
def cwWhole (b : Nat) : Bool :=
  decide (b = 0x80020) || decide (b = 0xA008) || decide (b = 0x70018) || decide (b = 0x74018) || decide (b = 0x86018) || decide (b = 0xD0028) ||
  (decide (0x20000 ≤ b) && decide (b < 0x40000) && decide (b % 128 = 0x40))

/-- CONFIG record (R525): events 0 R236, 1 R414, 2 R439, 3 R462, 4 R228, 5 R393; values: the source, 0 the host and 1 the rack, and the value. -/
def State.configRecord (s : State) (event off : Nat) (rack : Bool) (v : Nat) : State :=
  s.record 0x012 (event + field off 24 8) [if rack then 1 else 0, v]

/-! Rack time (R228, R236, R393). -/

def State.setOffset (s : State) (v : Nat) (rack : Bool) : State :=
  let x := min v 2000
  { s with rt := { s.rt with offset := BitVec.ofNat 11 x } }.configRecord 4 0x1010 rack x

def State.setSlotPh (s : State) (v : Nat) (rack : Bool) : State :=
  { s with feed := { s.feed with slotPh := v, respace := true } }.configRecord 5 0x86010 rack v

def State.setHoldLimit (s : State) (v : Nat) : State :=
  if v = 0 ∨ 1000 < v then s.configRecord 0 0x1018 false v else { s with rt := { s.rt with holdLimit := BitVec.ofNat 10 v } }

/-! Context entries (R323, R326, R346) and CTX_WATCH (R521). -/

/-- The word of a slot's entry that a write of a half merges with. -/
def Slot.entryWord (x : Slot) (o : Nat) : BitVec 64 :=
  if o = 0x08 then x.owner.zeroExtend 64 else if o = 0x10 then x.image.zeroExtend 64 else if o = 0x18 then x.membersAt.zeroExtend 64
  else if o = 0x20 then x.layoutAt.zeroExtend 64 else if o = 0x28 then x.park.zeroExtend 64 else if o = 0x30 then x.salt.zeroExtend 64
  else if o = 0x38 then x.arg else 0#64

/-- A write to an address word, CTX_SALT or CTX_ARG. The first four and the salt take a write only while the slot is FREE. -/
def Slot.writeWord (x : Slot) (o : Nat) (w : BitVec 64) : Slot :=
  if o = 0x38 then { x with arg := w }
  else if x.state ≠ .free then x
  else if o = 0x10 then { x with image := w.extractLsb' 0 48 } else if o = 0x18 then { x with membersAt := w.extractLsb' 0 48 }
  else if o = 0x20 then { x with layoutAt := w.extractLsb' 0 48 } else if o = 0x28 then { x with park := w.extractLsb' 0 48 }
  else if o = 0x30 then { x with salt := w.extractLsb' 0 32 } else x

/-- A write of CTX_CMD: the command OP names; another code ends BADARG (R326). -/
def State.ctxOp (s : State) (fn n op : Nat) : State :=
  if op = 1 then s.ctxLoad fn n else if op = 2 then s.ctxStart fn n else if op = 3 then s.ctxPark fn n else if op = 4 then s.ctxRestore fn n
  else if op = 5 then s.ctxAbort fn n else if op = 6 then s.ctxTeardown fn n
  else s.ctxCommand fn n false fun s => s.ctxFinal n .badarg

def State.cwSlot (s : State) (fn off len : Nat) (v : BitVec 64) : State :=
  let n := (off - 0x20000) / 128
  let o := off % 128 / 8 * 8
  let x := s.slot n
  if o = 0x40 then s.ctxOp fn n (bits v.toNat 3 0)
  else if o = 0x08 then
    if fn = 0 ∧ x.state = .free then s.setSlot n { x with owner := (cwMerge (x.entryWord o) off len v).extractLsb' 0 6 } else s.deny fn 0 0 off true
  else if 0x50 ≤ o then s
  else if fn ≠ 0 ∧ fn ≠ x.owner.toNat then s.deny fn 0 0 off true
  else s.setSlot n (x.writeWord o (cwMerge (x.entryWord o) off len v))

def State.cwWatch (s : State) (fn off len : Nat) (v : BitVec 64) : State :=
  let n := (off - 0xE000) / 8
  let x := s.slot n
  if fn ≠ 0 ∧ fn ≠ x.owner.toNat then s.deny fn 0 0 off true
  else
    let w := (cwMerge (BitVec.ofNat 64 (x.pw.limit + flag1 x.pw.snapOn 16)) off len v).toNat
    s.setSlot n { x with pw := { x.pw with limit := bits w 15 0, snapOn := bit w 16 } }

/-! Interrupt blocks (R548) and doorbells (R546). -/

/-- INT_MASK: a bit cleared while its cause is pending sends the message. -/
def State.setMask (s : State) (f : Nat) (m : BitVec 8) : State :=
  let b := s.host.int f
  let s := { s with host := s.host.setInt f { b with mask := m } }
  (List.range 8).foldl (fun a k => if b.mask.getLsbD k && !m.getLsbD k && b.cause.getLsbD k then a.msix f k else a) s

/-- INT_MASK written by a function: its own block only, but for the physical function. -/
def State.maskWrite (s : State) (fn f : Nat) (m : BitVec 8) : State :=
  s.byHost fn fun s => if fn ≠ 0 ∧ fn ≠ f then s.deny fn 0 0 (0x10008 + 0x400 * f) true else s.setMask f m

/-- R539, W1C. -/
def IntBlock.clearSlots (b : IntBlock) (w : Nat) (v : BitVec 64) : IntBlock :=
  { b with slots := (List.range 64).foldl (fun t i => if v.getLsbD i then Tbl.set false t (64 * w + i) false else t) b.slots }

def State.cwInt (s : State) (fn off len : Nat) (v : BitVec 64) : State :=
  let f := (off - 0x10000) / 0x400
  let o := off % 0x400 / 8 * 8
  let b := s.host.int f
  let put := fun b : IntBlock => { s with host := s.host.setInt f b }
  if fn ≠ 0 ∧ fn ≠ f then s.deny fn 0 0 off true
  else if o = 0 then put { b with cause := b.cause &&& ~~~(cwMerge 0#64 off len v).extractLsb' 0 8 }
  else if o = 8 then s.maskWrite fn f ((cwMerge (b.mask.zeroExtend 64) off len v).extractLsb' 0 8)
  else if o = 0x10 then put { b with vec := (cwMerge (b.vec.zeroExtend 64) off len v).extractLsb' 0 32 }
  else if 0x80 ≤ o ∧ o < 0x100 then put (b.clearSlots ((o - 0x80) / 8) (cwMerge 0#64 off len v))
  else s

/-- A write to an MSI-X table entry: a vector that is unmasked while pending sends its message (R548, PCI Express 6.0). -/
def State.msixWrite (s : State) (fn off len : Nat) (v : BitVec 64) : State :=
  let i := (off - 0x2000) / 16
  if vectorsOf fn ≤ i then s
  else
    let k := 16 * fn + i
    let old := Tbl.get msixMasked s.host.msixTab k
    let half := if off % 16 < 8 then old.extractLsb' 0 64 else old.extractLsb' 64 64
    let w := cwMerge half off len v
    let new : BitVec 128 := if off % 16 < 8 then old.extractLsb' 64 64 ++ w else (w &&& 0x1FFFFFFFF#64) ++ old.extractLsb' 0 64
    let s := { s with host := { s.host with msixTab := Tbl.set msixMasked s.host.msixTab k new } }
    if Tbl.get false s.host.msixPend k && !new.getLsbD 96 then
      { s with host := { s.host with msixPend := Tbl.set false s.host.msixPend k false } }.emit (.msix fn i)
    else s

/-- A write to DW (R535, R546): a doorbell below 0x2000, the MSI-X table from it; the pending-bit array takes no write. -/
def State.dwWrite (s : State) (fn off len : Nat) (v : BitVec 64) : State :=
  s.byHost fn fun s =>
    if off < 0x2000 then
      if len ≠ 8 ∨ off % 8 ≠ 0 ∨ bits v.toNat 63 4 ≠ 0 then s.badAcc
      else if fn ≠ 0 ∧ fn ≠ (s.slot (off / 8)).owner.toNat then s.deny fn 1 0 off true
      else s.ctxOp fn (off / 8) v.toNat
    else if off < 0x3000 ∧ cwAligned off len then s.msixWrite fn off len v
    else s

/-! The power chapters' registers (R359, R385, R413, R439, R462, R488). -/

/-- R359: an efficiency below 500 or above 1,000 is not stored. -/
def etaOr (old new : Nat) : Nat := if new < 500 ∨ 1000 < new then old else new

def State.setModel (s : State) (m l : Nat) : State :=
  let s := { s with pwr := { s.pwr with wait := some (m, l) } }
  if s.anyRunning then s else s.newModel

def State.writeModel (s : State) (m : Nat) : State :=
  let o := s.pwr.words
  let eta := fun lo => field (etaOr (bits o.1 (lo + 9) lo) (bits m (lo + 9) lo)) 10 lo
  s.setModel (eta 0 + eta 10 + eta 20 + eta 30 + field (bits m 47 40) 8 40) o.2

def Draw.cfgWord (d : Draw) : Nat := field d.ceiling 12 0 + field d.floor 10 12 + field d.ramp 8 22 + field d.prio 3 30 + field d.guard 6 33

/-- R414, R439: DRAW_CFG; each write of CEILING writes a record. -/
def State.writeDrawCfg (s : State) (w : Nat) (low : Bool) : State :=
  let c := bits w 11 0
  if c < 600 ∨ 2900 < c ∨ 600 < bits w 21 12 ∨ bits w 29 22 = 0 ∨ 200 < bits w 29 22 ∨ 50 < bits w 38 33 then s.configRecord 2 0x82000 false w
  else
    let p := bits w 32 30
    let s := s.modDraw fun d => { d with floor := bits w 21 12, ramp := bits w 29 22, prio := if 5 < p then 0 else p, guard := bits w 38 33 }
    if low then s.setCeiling c false else s

/-- R439: DAMP_CFG. -/
def State.writeDampCfg (s : State) (w : Nat) : State :=
  if bits w 21 14 < bits w 13 6 then s.configRecord 2 0x82010 false w
  else s.modDraw fun d => { d with fMax := min 48 (bits w 5 0), vfLo := bits w 13 6, vfHi := bits w 21 14 }

def Feed.cfgWord (f : Feed) : Nat := field f.nMin 6 0 + field f.iShed 8 6 + field f.headroom 4 14 + field f.shedHold 14 18

def State.writeFeedCfg (s : State) (w : Nat) : State :=
  s.modFeed fun f => { f with nMin := max 4 (bits w 5 0), iShed := if bits w 13 6 < 40 ∨ 120 < bits w 13 6 then f.iShed else bits w 13 6,
                              headroom := bits w 17 14, shedHold := max 1 (bits w 31 18) }

def Carts.cfgWord (c : Carts) : Nat := field c.setPct 7 0 + field c.rideS 8 16 + field c.refMaxH 8 24 + field c.calDays 8 32

/-- R462: a field outside its range is ignored, with a record. -/
def State.writeCartCfg (s : State) (w : Nat) : State :=
  let badSet := decide (bits w 6 0 < 20) || decide (100 < bits w 6 0)
  let badRef := decide (bits w 31 24 = 0)
  let c := s.carts
  let s := { s with carts := { c with setPct := if badSet then c.setPct else bits w 6 0, rideS := bits w 23 16,
                                      refMaxH := if badRef then c.refMaxH else bits w 31 24, calDays := bits w 39 32 } }
  if badSet || badRef then s.configRecord 3 0x8C000 false w else s

/-- R488: PTC_CFG; a SAFE_CODE above 160 is not stored. -/
def State.writePtcCfg (s : State) (w : Nat) : State :=
  s.modPtc fun p => { p with proveH := bits w 7 0, safeCode := if 160 < bits w 15 8 then p.safeCode else bits w 15 8 }

/-- R484, R485: a write of PTC_CMD; what the staged image holds is open (log entry 71). -/
def State.ptcOp (s : State) (fn : Nat) (w : Nat) : State :=
  let iss : PtcIssue := { rack := false, func := Fin.ofNat 64 fn, seq := 0#16, tag := BitVec.ofNat 16 (bits w 31 16) }
  let op := bits w 7 0
  let arg := s.ptc.arg
  let run := fun (f : State → State) => s.ptcCommand iss op f
  (if op = 0 then run fun s => s.ptcZeroArg iss 0 arg fun s => s.ptcEnd iss 0 arg .ok 0
   else if op = 1 then run fun s => s.ptcZeroArg iss 1 arg fun s => s.switchRun iss arg
   else if op = 2 then run fun s => s.returnRun iss arg
   else if op = 3 then run fun s => s.ptcZeroArg iss 3 arg fun s => s.proveRun iss arg
   else if op = 4 then run fun s => s.stageRun iss arg
   else if op = 5 then run fun s =>
     let a := s.draw1
     let b := a.2.draw1
     let c := b.2.draw1
     c.2.updateRun iss arg (BitVec.ofNat 32 a.1) (decide (b.1 % 2 = 0)) (decide (c.1 % 2 = 0))
   else if op = 0x10 then run fun s => s.releaseRun iss arg
   else if op = 0x11 then run fun s => s.admitRun iss arg
   else if op = 0x12 then run fun s => s.cartCalRun iss arg
   else if op = 0x18 then run fun s => s.regCalRun iss arg
   else if op = 0x19 then run fun s => s.selftestRun iss arg
   else run fun s => s.ptcEnd iss op arg .badarg 0).settle

/-- R483, R488: the staging window. -/
def State.stageWrite (s : State) (off len : Nat) (v : BitVec 64) : State :=
  s.modPtc fun p => { p with stage := Mem.write p.stage (off - 0xA0000) (toLE len v.toNat) }

/-- R473: while a switch-over is under way the PTC window takes no write but those that end BUSY. -/
def State.cwPower (s : State) (fn off len : Nat) (v : BitVec 64) : State :=
  let b := off / 8 * 8
  let w := fun old : Nat => (cwMerge (BitVec.ofNat 64 old) off len v).toNat
  let d := s.draw
  s.gated fn off fun s =>
    if b = 0x80020 then s.ptcOp fn v.toNat
    else if s.ptc.switching && decide (b ≠ 0x86018) then s
    else if b = 0x82000 then s.writeDrawCfg (w d.cfgWord) (cwLow off len)
    else if b = 0x82010 then s.writeDampCfg (w (field d.fMax 6 0 + field d.vfLo 8 6 + field d.vfHi 8 14))
    else if b = 0x84080 then s.writeModel (w s.pwr.words.1)
    else if b = 0x84088 then s.setModel s.pwr.words.1 (w s.pwr.words.2)
    else if b = 0x86000 then s.writeFeedCfg (w s.feed.cfgWord)
    else if b = 0x86010 then (if cwLow off len then s.setSlotPh (bits v.toNat 2 0) false else s)
    else if b = 0x86018 then s.coefWrite (bits v.toNat 2 0) (bits v.toNat 5 3) (bits v.toNat 26 16)
    else if b = 0x88000 then { s with reg := { s.reg with calDays := bits (w s.reg.calDays) 7 0 } }
    else if b = 0x80008 then s.writePtcCfg (w (field s.ptc.proveH 8 0 + field s.ptc.safeCode 8 8))
    else if b = 0x80018 then s.modPtc fun p => { p with arg := cwMerge p.arg off len v }
    else if b = 0x8C000 then s.writeCartCfg (w s.carts.cfgWord)
    else if 0xA0000 ≤ b then s.stageWrite off len v
    else s

/-! Memory and fabric registers (R276, R297, R321). -/

def MemSys.hotWord (m : MemSys) : Nat := field m.hotRatio 4 0 + field m.hotFloor 20 4 + field m.hotWindows 8 24 + field m.hotHoldS 16 32

def MemSys.writeHot (m : MemSys) (w : Nat) : MemSys :=
  { m with hotRatio := max 2 (bits w 3 0), hotFloor := bits w 23 4, hotWindows := max 1 (bits w 31 24), hotHoldS := bits w 47 32 }

def MemSys.eccWord (m : MemSys) : Nat :=
  field m.t1ScrubH 8 0 + field m.t2ScrubH 8 8 + field m.rowLimit 8 16 + flag1 m.autoRepair 24 + field m.ceIrq 32 32

def MemSys.writeEcc (m : MemSys) (w : Nat) : MemSys :=
  { m with t1ScrubH := min 168 (bits w 7 0), t2ScrubH := min 168 (bits w 15 8), rowLimit := max 1 (bits w 23 16), autoRepair := bit w 24,
           ceIrq := bits w 63 32 }

def MemSys.injectWord (m : MemSys) : Nat := m.injAddr.toNat + field m.injNsym.toNat 5 42 + flag1 m.injArm 63

/-- A write of PORT_CTRL: a change of DISABLE, then RETRAIN and RESTORE where they are written 1. -/
def State.writePort (s : State) (k : Nat) (w : Nat) : State :=
  let v := bit w 0
  let s := if v = (s.port k).disable then s else s.portDisable k v
  let s := if bit w 1 then s.portRetrain k else s
  if bit w 2 then s.restoreLanes k else s

def State.cwMem (s : State) (fn off len : Nat) (v : BitVec 64) : State :=
  let b := off / 8 * 8
  let w := fun old : Nat => (cwMerge (BitVec.ofNat 64 old) off len v).toNat
  if b = 0x70018 then s.saltRot fn (bits v.toNat 9 0) (v.extractLsb' 32 32)
  else if b = 0x74018 then s.repairReq fn v
  else if b = 0x74028 then s.memInject fn (BitVec.ofNat 64 (w s.mem.injectWord))
  else s.memGated fn off fun s =>
    if b = 0x70008 then s.modMem fun m => m.writeHot (w m.hotWord)
    else if b = 0x74000 then s.modMem fun m => m.writeEcc (w m.eccWord)
    else s

def State.cwPort (s : State) (fn off len : Nat) (v : BitVec 64) : State :=
  let k := (off - 0x61000) / 0x40
  if off % 0x40 / 8 * 8 = 8 then s.portCtrl fn k fun s => s.writePort k (cwMerge (BitVec.ofNat 64 (flag1 (s.port k).disable 0)) off len v).toNat
  else s.gated fn off id

/-! Resets (R497, R521). -/

/-- A write of RST_CMD. -/
def State.rstOp (s : State) (fn : Fin 64) (w : Nat) : State :=
  let op := bits w 3 0
  let t := bits w 26 16
  (if op = 1 then s.resetOrder (.host fn) (bits w 6 4) t
   else if op = 2 ∧ t < 1024 then s.dumpOrder fn t
   else if op = 3 then s.copyOrder fn t
   else if op = 4 then s.freeOrder fn t
   else if op = 5 then s.benchOrder (.host fn)
   else if op = 6 then s.replayOrder fn t
   else s.rstOrder (.host fn) 0 (s.notBenched 5) id).settle

def State.cwReset (s : State) (fn off len : Nat) (v : BitVec 64) : State :=
  let b := off / 8 * 8
  let w := fun old : Nat => (cwMerge (BitVec.ofNat 64 old) off len v).toNat
  if b = 0xA008 then s.rstOp (Fin.ofNat 64 fn) v.toNat
  else if b = 0xA030 then s.saveListWrite fn (BitVec.ofNat 48 (w s.rst.saveAddr.toNat))
  else s.gated fn off fun s =>
    if b = 0xA000 then
      let k := bits (w s.rst.cfgDump) 1 0
      { s with rst := { s.rst with cfgDump := if k = 3 then 2 else k } }
    else if b = 0xA010 then { s with rst := { s.rst with arg := cwMerge s.rst.arg off len v } }
    else s

/-! Keep registers (R8, R92, R304, R319, R460, R521, R541, R592). -/

/-- R521: KEEP_BENCH: LIMIT 1 to 8, WINDOW_H at least 1, the module's own bits kept. -/
def benchWord (old w : Nat) : Nat :=
  field (max 1 (min 8 (bits w 3 0))) 4 0 + field (max 1 (bits w 15 8)) 8 8 + field (bits old 17 16) 2 16

/-- A host write of a keep register; those that a rule keeps for the module ignore it. -/
def State.cwKeep (s : State) (fn off len : Nat) (v : BitVec 64) : State :=
  let b := off / 8 * 8
  let w := cwMerge (s.keep b) off len v
  if 0xC0800 ≤ b ∧ b < 0xC0980 then s.keepRetireWrite fn ((b - 0xC0800) / 8) (w.extractLsb' 0 36)
  else if b = keepT2Code then s.t2CodeWrite fn (w.extractLsb' 0 2)
  else s.gated fn off fun s =>
    if b = keepBench then s.keepWrite b (BitVec.ofNat 64 (benchWord (s.keep b).toNat w.toNat))
    else if 0xC2000 ≤ b ∧ b < 0xC6000 then s.keepWrite b (w.extractLsb' 0 33 |>.zeroExtend 64)
    else s

/-! The rest of CW. -/

/-- R545: VF_WIN, by word. -/
def State.cwWin (s : State) (fn off len : Nat) (v : BitVec 64) : State :=
  s.gated fn off fun s =>
    let i := (off - 0xB000) / 8
    let w := cwMerge (Tbl.get 0#64 s.host.vfWin i) off len v
    let w := if i % 2 = 0 then w &&& 0x1FFFFFFFFFFFF#64 else w &&& 0xFFFFFFFFFFFF#64
    { s with host := { s.host with vfWin := Tbl.set 0#64 s.host.vfWin i w } }

/-- A write of PART_DEF or PART_STATUS. -/
def State.cwPart (s : State) (fn off len : Nat) (v : BitVec 64) : State :=
  let k := (off - 0x48000) / 16
  if off % 16 < 8 then
    let p := s.part k
    let old := field p.row0 6 0 + field p.nrows 6 8 + field p.col0 5 16 + field p.ncols 5 24 + flag1 p.valid 32 + field p.owner 6 40
    s.partDef fn k (cwMerge (BitVec.ofNat 64 old) off len v)
  else s.gated fn off id

/-- R531: a clear ordered by the host or the rack. -/
def State.recClear (s : State) (by_ : Requester) (key : BitVec 16) (seq : BitVec 32) : State :=
  match by_ with
  | .host fn => s.gated fn 0xD0028 fun s => { s with recorder := s.recorder.clear 0 key seq }
  | .rack q => s.byRack 0x0A q.toNat [] fun s =>
    let s := { s with recorder := s.recorder.clear 1 key seq }
    let r := s.recorder.clrResult.toNat
    if r = 1 then s.tslAnswer 0x0A q.toNat 0 0 [] else s.tslAnswer 0x0A q.toNat 3 (r - 1) []

/-- R533: the recorder's registers. -/
def State.cwRec (s : State) (fn off len : Nat) (v : BitVec 64) : State :=
  let b := off / 8 * 8
  if b = 0xD0028 then s.recClear (.host (Fin.ofNat 64 fn)) (v.extractLsb' 48 16) (v.extractLsb' 0 32)
  else s.gated fn off fun s =>
    let r := s.recorder
    if b = 0xD0018 then
      let w := cwMerge (r.flood ++ r.windowS |>.zeroExtend 64) off len v
      { s with recorder := { r with windowS := w.extractLsb' 0 16, flood := w.extractLsb' 16 16 } }
    else if b = 0xD0020 then { s with recorder := { r with seg := (cwMerge (r.seg.zeroExtend 64) off len v).extractLsb' 0 7 } }
    else s

/-- The first 4 KiB and rack time: GLB_SCRATCH, SVC_CMD, SVC_JOIN, RT_STATUS, RT_OFFSET, RT_CONFIG. -/
def State.cwGlobal (s : State) (fn off len : Nat) (v : BitVec 64) : State :=
  let b := off / 8 * 8
  let low := cwLow off len
  if b = 0 ∨ b = 8 ∨ b = 0x20 ∨ b = 0x1008 then s
  else if b = 0x208 ∧ low then
    (if bits v.toNat 3 0 = 1 then s.drainCmd fn else if bits v.toNat 3 0 = 2 then s.undrainCmd fn else s.gated fn off fun s => s.svcResult 3)
  else if b = 0x210 ∧ low then s.svcJoin fn (v.extractLsb' 0 24)
  else s.gated fn off fun s =>
    if b = 0x28 then { s with host := { s.host with scratch := cwMerge s.host.scratch off len v } }
    else if b = 0x1000 ∧ low then { s with rt := { s.rt with jump := s.rt.jump && !v.getLsbD 5 } }
    else if b = 0x1010 ∧ low then s.setOffset (bits v.toNat 10 0) false
    else if b = 0x1018 ∧ low then s.setHoldLimit (bits v.toNat 9 0)
    else s

/-- The ranges of CW that a chapter assigns and whose registers take no write of a function but under R343. -/
def cwReadOnly : List (Nat × Nat) :=
  [(0x40000, 0x40010), (0x41000, 0x41180), (0x41200, 0x41380), (0x42000, 0x426C0), (0x43000, 0x431B0), (0x60000, 0x60020), (0xD8000, 0xE0000)]

/-- A virtual function reaches STEP_STATUS and CTX_PROGRESS of its own slots, and the windows of SERVING cores of its partitions
(R343, R550). -/
def State.vfReaches (s : State) (fn b : Nat) : Bool :=
  if 0x2000 ≤ b ∧ b < 0xA000 then decide ((s.slot ((b - 0x2000) / 32)).owner.toNat = fn)
  else if 0xC000 ≤ b ∧ b < 0xE000 then decide ((s.slot ((b - 0xC000) / 8)).owner.toNat = fn)
  else if 0x100000 ≤ b then
    let k := (b - 0x100000) / 0x1000
    decide (s.winState k = 0) && s.ownsCore fn (k / 36, (logicalCol (s.activeMask (k / 36)) (k % 36)).getD 0)
  else false

/-- A write to a register that is read only, or to no register: ignored, and counted where R343 does not authorise it. -/
def State.cwOther (s : State) (fn off : Nat) : State :=
  let b := off / 8 * 8
  let known := (decide (0x2000 ≤ b) && decide (b < 0xA000)) || (decide (0xC000 ≤ b) && decide (b < 0xE000)) ||
    (decide (0x100000 ≤ b) && decide (b < 0x7C0000)) || cwReadOnly.any fun r => decide (r.1 ≤ b) && decide (b < r.2)
  if fn ≠ 0 ∧ known = true ∧ s.vfReaches fn b = false then s.deny fn 0 0 off true else s

/-- The offset ranges of R538 and the registers each holds, where a chapter assigns the offset. -/
def State.cwRoute (s : State) (fn off len : Nat) (v : BitVec 64) : State :=
  let b := off / 8 * 8
  let in_ := fun lo hi => decide (lo ≤ b) && decide (b < hi)
  if in_ 0 0x10 || in_ 0x20 0x48 || in_ 0x100 0x108 || in_ 0x200 0x218 || in_ 0x300 0x308 || in_ 0x1000 0x1028 then s.cwGlobal fn off len v
  else if in_ 0xA000 0xA040 || in_ 0xA100 0xA300 then s.cwReset fn off len v
  else if in_ 0xB000 0xBFC0 then s.cwWin fn off len v
  else if in_ 0xE000 0x10000 then s.cwWatch fn off len v
  else if in_ 0x10000 0x20000 then s.cwInt fn off len v
  else if in_ 0x20000 0x40000 then s.cwSlot fn off len v
  else if in_ 0x48000 0x48100 then s.cwPart fn off len v
  else if in_ 0x61000 0x61480 && decide (b % 0x40 < 0x20) then s.cwPort fn off len v
  else if in_ 0x70000 0x70028 || in_ 0x70100 0x70140 || in_ 0x71000 0x72000 || in_ 0x72000 0x72400 || in_ 0x74000 0x74038 || in_ 0x74100 0x74140 ||
      in_ 0x74200 0x74240 || in_ 0x75000 0x75800 || in_ 0x76000 0x76200 then s.cwMem fn off len v
  else if in_ 0x80000 0x80040 || in_ 0x82000 0x82050 || in_ 0x82800 0x83800 || in_ 0x84000 0x84060 || in_ 0x84080 0x84090 || in_ 0x86000 0x86028 ||
      in_ 0x86100 0x86170 || in_ 0x86200 0x86460 || in_ 0x88000 0x88010 || in_ 0x89000 0x89D80 || in_ 0x8A000 0x8AD80 || in_ 0x8C000 0x8C020 ||
      in_ 0x8C100 0x8C138 || in_ 0x8C140 0x8C178 || in_ 0xA0000 0xB0000 then s.cwPower fn off len v
  else if in_ 0xC0800 0xC0980 || in_ 0xC0A00 0xC0A08 || in_ 0xC0B00 0xC0B20 || in_ 0xC0C00 0xC0C48 || in_ 0xC0D00 0xC0D08 || in_ 0xC2000 0xC6000 ||
      in_ 0xC8800 0xC8980 || in_ 0xC8A00 0xC8A08 || in_ 0xC8B00 0xC8B20 || in_ 0xC8C00 0xC8C48 || in_ 0xC8D00 0xC8D08 || in_ 0xCA000 0xCE000 then
    s.cwKeep fn off len v
  else if in_ 0xD0000 0xD0038 then s.cwRec fn off len v
  else s.cwOther fn off

/-- A host write to CW (R537, R539). -/
def State.cwWrite (s : State) (fn off len : Nat) (v : BitVec 64) : State :=
  s.byHost fn fun s =>
    if cwAligned off len = false ∨ (len = 4 ∧ cwWhole (off / 8 * 8) = true) then s.badAcc else s.cwRoute fn off len v

end Sys2Proof.Machine
end

