-- ==== Sys2Proof/Machine/RegRead.lean ====
section
/-! DEFINITION. What the registers of CW read (R539, with the register tables of every chapter), and the host's reads of CW and DW
(R343, R345, R496, R537, R540). -/

namespace Sys2Proof.Machine

def countOf (n : Nat) (p : Nat → Bool) : Nat := (List.range n).countP p

/-- A signed quantity in a field of n bits, clamped at 0 and at the field's end. -/
def clampField (x : Int) (n lo : Nat) : Nat := field (min (2 ^ n - 1) (max 0 x).toNat) n lo

/-! The first 4 KiB (R276, R551, R576, R592, R614). -/

def idPart : Nat := 0x1F3C + field 0xD200 16 16 + field 0xB1 8 32 + field 0x01 8 40

def State.globalWord (s : State) (b : Nat) : Nat :=
  let h := s.host
  if b = 0 then idPart
  else if b = 8 then h.serial.toNat
  else if b = 0x20 then s.svc.code + field s.degrade.toNat 5 8 + field h.changes.toNat 32 16
  else if b = 0x28 then h.scratch.toNat
  else if b = 0x30 then field h.denyCw 16 0 + field h.denyDw 16 16 + field h.denyMw 16 32
  else if b = 0x38 then h.denyLast.toNat
  else if b = 0x40 then h.badAcc.toNat
  else if b = 0x100 then
    let t := s.tray
    field t.slotId 3 0 + flag1 t.link 3 + flag1 s.draw.brake 4 + flag1 t.dlPresent 5 + flag1 t.pwrReq 6 + satField t.linkLosses 16 16 +
    satField t.badFrames 16 32 + field t.rtDelay 16 48
  else if b = 0x200 then
    let u := s.up
    u.epoch.toNat + flag1 u.joined 24 + flag1 u.drained 25 + flag1 u.moved 26 + flag1 u.renumbered 27 + field u.phase 3 28 + field u.result 3 32 +
    satField u.upMs 16 48
  else if b = 0x300 then flag1 s.cool.noFlow 0 + flag1 s.cool.stackTrip 1 + satField s.cool.dp 16 8 + satField s.cool.losses 16 32
  else 0

/-! Rack time and steps (R236, R237). -/

def State.rtWord (s : State) (b : Nat) : Nat :=
  let r := s.rt
  if b = 0x1000 then field r.state.code 3 0 + flag1 r.tickOk 3 + flag1 r.timeOk 4 + flag1 r.jump 5 + satField r.holdMs 16 16 + field r.losses.toNat 32 32
  else if b = 0x1008 then s.rtReading.toNat
  else if b = 0x1010 then r.offset.toNat
  else if b = 0x1018 then r.holdLimit.toNat
  else if b = 0x1020 then r.err.toNat
  else 0

/-- STEP_STATUS. WAIT_RT: every arrival is held and R203 forbids the release. -/
def State.stepWord (s : State) (n w : Nat) : Nat :=
  let x := s.slot n
  let st := x.step
  let held := st.arrivals.length
  if w = 0 then st.index % 2 ^ 64
  else if w = 1 then st.rel % 2 ^ 64
  else if w = 2 then
    field st.beatLen 24 0 + field st.pace 13 24 + flag1 st.atBarrier 37 +
    flag1 (st.atBarrier && decide (x.members.length ≤ held) && !s.rt.state.releases) 38 + flag1 st.missed 39
  else field ((s.coresOf n).foldl (fun a k => a + (s.core k).late.toNat) 0) 32 0 + field held 9 32 + satField st.lateRel 16 48

/-! Grid, partitions and contexts (R94, R335, R346). -/

/-- REGION_STATE and CLUSTER_STATE, 32 bits each. -/
def Region.stateWord (x : Region) : Nat := x.mode.code + flag1 x.cal 3 + flag1 x.regfail 4

def State.clusterWord (s : State) (j : Nat) : Nat :=
  let c := s.cluster j
  let rs := regionsOfCluster j
  (if c.dark then 2 else if rs.any fun i => (s.region i).mode.railed then 0 else 1) + flag1 c.guard 2 +
  field (rs.countP fun i => decide ((s.region i).mode = .carried)) 2 3

def popCount (n : Nat) (v : Nat) : Nat := countOf n fun i => v.testBit i

def State.gridWord (s : State) (b : Nat) : Nat :=
  let absent := 48 - popCount 48 s.grid.present.toNat
  if b = 0x40000 then
    flag1 (decide (absent ≠ 0)) 0 + flag1 ((List.range 48).any fun r => decide (s.activeMask r ≠ s.targetMask r)) 1 + field absent 6 8 +
    field (countOf 108 fun j => (s.cluster j).dark) 7 16
  else if b = 0x40008 then s.grid.present.toNat
  else if 0x41000 ≤ b ∧ b < 0x41180 then
    let r := (b - 0x41000) / 8
    (s.activeMask r).toNat + field (4 - popCount 36 (s.targetMask r).toNat) 3 36 + flag1 (s.isShort r) 39 +
    flag1 (decide (s.activeMask r ≠ s.targetMask r)) 40
  else if 0x41200 ≤ b ∧ b < 0x41380 then (Tbl.get 0#36 s.grid.fuse ((b - 0x41200) / 8)).toNat
  else if 0x42000 ≤ b ∧ b < 0x426C0 then
    let i := (b - 0x42000) / 4
    (s.region i).stateWord + field (s.region (i + 1)).stateWord 32 32
  else if 0x43000 ≤ b ∧ b < 0x431B0 then
    let j := (b - 0x43000) / 4
    s.clusterWord j + field (s.clusterWord (j + 1)) 32 32
  else 0

/-- PART_DEF and PART_STATUS. -/
def Part.word (p : Part) : Nat :=
  field p.row0 6 0 + field p.nrows 6 8 + field p.col0 5 16 + field p.ncols 5 24 + flag1 p.valid 32 + field p.owner 6 40

def State.partWord (s : State) (k w : Nat) : Nat :=
  let p := s.part k
  if w = 0 then p.word
  else
    let o := s.occupant k
    field p.result 3 0 + flag1 (p.valid && s.partAbsent p) 3 + flag1 o.isSome 4 + field (o.getD 0) 10 16

def State.ctxWord (s : State) (n o : Nat) : Nat :=
  let x := s.slot n
  if o = 0 then
    x.state.code + flag1 x.done 3 + flag1 x.parkPend.isSome 4 + field x.gen.toNat 8 8 + field x.nextGen.toNat 8 16 + field x.part.toNat 4 24 +
    field x.cause.toNat 8 32
  else if o < 0x40 then (x.entryWord o).toNat
  else if o = 0x48 then x.result.code + field x.reason.toNat 8 8 + satField x.lost 16 16 + field x.check.toNat 32 32
  else 0

/-- R490: the first code that applies; where none does the reading is open (log entry 1). -/
def State.waitCode (s : State) (n : Nat) : Nat :=
  let x := s.slot n
  let ks := s.coresOf n
  let c := fun k => s.core k
  let held := fun k => if (c k).holding then (c k).stallCause (s.env k) (c k).syls else none
  let pacing := fun k => ((c k).able (s.env k) (c k).syls).any fun y => decide (y.group = 5) && y.wait (s.env k) (c k)
  if x.state ≠ .running then 8
  else if ks.any fun k => decide ((c k).idleUs = 0) then 0
  else if ks.all fun k => (c k).ended then (if x.step.arrivals.length < x.members.length then 1 else 2)
  else if ks.any fun k => (c k).recvWait.isSome then 3
  else if ks.any fun k => (c k).sendWait.credit || (c k).sendWait.noGrant then 4
  else if ks.any fun k => decide (held k = some 3) && pacing k then 5
  else if ks.any fun k => decide (held k = some 3) || decide (held k = some 4) then 6
  else if ks.any fun k => decide (held k = some 0) || decide (held k = some 1) then 7
  else Config.freeNat s.free % 16

/-- CTX_PROGRESS and CTX_WATCH (R521). -/
def State.progressWord (s : State) (n : Nat) : Nat :=
  let w := (s.slot n).pw
  satField w.idleMs 16 0 + field (s.waitCode n) 4 16 + flag1 w.expired 20 + field w.fcore 11 21 + field (w.bundles / 65536) 32 32

def Progress.watchWord (w : Progress) : Nat := field w.limit 16 0 + flag1 w.snapOn 16 + field w.replays 2 20 + flag1 w.snapValid 22

/-! The fabric (R276). -/

/-- A port that runs on three lanes (R259, R276). -/
def Port.spared (p : Port) : Bool := decide (popCount 4 p.lanes.toNat = 3)

def State.fabWord (s : State) (b : Nat) : Nat :=
  let f := s.fab
  let ports := fun p : Port → Bool => (List.range 18).foldl (fun a k => a + flag1 (p (s.port k)) k) 0
  if b = 0x60000 then
    ports (fun p => decide (p.state = .up)) + field (ports Port.spared) 18 24 + field f.chipId.toNat 8 48 + flag1 f.chipValid 56
  else if b = 0x60008 then satField f.winmis 16 0 + satField f.redStale 16 16 + field f.insts.length 13 32 + satField f.redCredit 16 45
  else if b = 0x60010 then satField f.sent 16 0 + satField f.received 16 16 + satField f.dup 16 32 + satField f.stale 16 48
  else if b = 0x60018 then satField f.barStale 16 0 + satField f.barDup 16 16 + satField f.barLater 16 32
  else 0

def Port.word (p : Port) (o : Nat) : Nat :=
  if o = 0 then p.state.code + field p.lanes.toNat 4 2 + flag1 p.spared 6 + field p.failed.toNat 4 8 + satField p.downs 16 16
  else if o = 8 then flag1 p.disable 0
  else if o = 0x10 then satField p.crc 16 0 + satField p.replays 16 16 + satField p.badFrame 16 32 + satField p.misroute 16 48
  else field p.corr.toNat 32 0 + satField p.uncorr 16 32

/-! Memory (R297, R321). -/

/-- A slot with its valid bit above it. -/
def slotField (o : Option Nat) (lo : Nat) : Nat :=
  match o with
  | some n => field n 10 lo + flag1 true (lo + 10)
  | none => 0

def State.hotStatus (s : State) : Nat :=
  match (List.range 256).find? fun c => (s.chan c).hot with
  | some c => 1 + field c 8 8 + slotField (s.chan c).top 16 + satField s.mem.hotEvents 16 32
  | none => satField s.mem.hotEvents 16 32

def State.chanWord (s : State) (c w : Nat) : Nat :=
  let x := s.chan c
  if w = 0 then x.rd.toNat + field x.wr.toNat 32 32
  else satField x.load 20 0 + field x.busyPct 7 20 + flag1 x.hot 27 + flag1 (s.capped c) 28 + satField x.hotWin 16 32 + slotField x.top 48

def MemSys.eccStatus (m : MemSys) (next : Nat) : Nat :=
  field (m.t1Pass.pos * 100 / t1Words) 7 0 + field (m.t2Pass.pos * 100 / t2Pages) 7 8 + field m.t2Code 2 16 + field next 2 18 +
  flag1 (decide (next ≠ m.t2Code)) 20 + satField m.overruns 16 24

def UeLast.word (u : UeLast) : Nat :=
  field u.addr 48 0 + flag1 u.tier2 48 + flag1 u.scrub 49 + flag1 u.addrFault 50 + 2 ^ 51 + slotField u.slot 52

def LogEntry.word (e : LogEntry) : Nat :=
  e.row.toNat + satField e.count 16 32 + flag1 e.valid 48 + flag1 e.pending 49 + flag1 e.repaired 50 + flag1 e.ue 51 + flag1 e.noSpare 52

def T2Log.word (e : T2Log) : Nat := field e.page 29 0 + field e.maxSym 5 29 + satField e.count 14 34 + flag1 e.valid 48 + flag1 e.ue 49

def State.spareWord (s : State) (k : Nat) : Nat :=
  let x := s.stack k
  256 + field x.fused 9 9 + field x.kept 9 18 + field (countOf 256 fun i => (Tbl.get none s.mem.remap (256 * k + i)).isNone) 9 27

def State.memWord (s : State) (b : Nat) : Nat :=
  let m := s.mem
  if b = 0x70000 then field m.fill 2 0 + field m.t1Pct 7 8 + field m.t2Pct 7 16 + flag1 m.t2Kept 23 + satField m.fillMs 32 32
  else if b = 0x70008 then m.hotWord
  else if b = 0x70010 then s.hotStatus
  else if b = 0x70020 then field m.saltResult 3 0 + field m.saltSlot 10 16 + field m.saltDone.toNat 32 32
  else if 0x70100 ≤ b ∧ b < 0x70140 then
    let k := (b - 0x70100) / 8
    let x := s.stack k
    satField x.temp 8 0 + field x.throt 2 8 + flag1 ((List.range 32).any fun i => (s.chan (k + 8 * i)).hot) 10 + satField x.throtMs 32 16
  else if 0x71000 ≤ b ∧ b < 0x72000 then s.chanWord ((b - 0x71000) / 16) (b / 8 % 2)
  else if 0x72000 ≤ b ∧ b < 0x72400 then
    let p := Tbl.get (0#32, 0#32) m.t2ch ((b - 0x72000) / 8)
    p.1.toNat + field p.2.toNat 32 32
  else if b = 0x74000 then m.eccWord
  else if b = 0x74008 then m.eccStatus (bits (s.keep keepT2Code).toNat 1 0)
  else if b = 0x74010 then (m.ueLast.map UeLast.word).getD 0
  else if b = 0x74020 then field m.repairResult 3 0 + field m.repairRow.toNat 32 16 + field m.repairStack 3 48
  else if b = 0x74028 then m.injectWord
  else if b = 0x74030 then satField m.t2Ce 32 0 + satField m.t2Ue 16 32 + field m.t2Passes.toNat 16 48
  else if 0x74100 ≤ b ∧ b < 0x74140 then
    let x := s.stack ((b - 0x74100) / 8)
    satField x.ce 32 0 + satField x.ue 16 32 + field x.passes.toNat 16 48
  else if 0x74200 ≤ b ∧ b < 0x74240 then s.spareWord ((b - 0x74200) / 8)
  else if 0x75000 ≤ b ∧ b < 0x75800 then (s.logEntry ((b - 0x75000) / 0x100) (b % 0x100 / 8)).word
  else if 0x76000 ≤ b ∧ b < 0x76200 then (Tbl.get T2Log.reset m.t2log ((b - 0x76000) / 8)).word
  else 0

/-! Power, regulators, feed stage, damper (R359, R385, R413, R439). -/

def Rail.word (r : Rail) : Nat :=
  satField r.mv 16 0 + satField r.cur 20 16 + field r.state 2 36 + satField r.faults 8 40 + field r.units.toNat 8 48

def State.regStatus (s : State) : Nat :=
  let g := s.reg
  field (countOf 432 fun i => (s.region i).regfail) 9 0 + field (countOf 432 fun i => decide ((s.region i).mode = .carried)) 9 9 +
  field (countOf 108 fun j => (s.cluster j).guard) 7 18 + flag1 g.calActive 25 + field g.calRegion 9 26 + satField g.ringTo 12 40 +
  satField g.flueErr 12 52

/-- REG_SET: GROUP is the group's set-point code while the region is tied. -/
def State.regSet (s : State) (i : Nat) : Nat :=
  let x := s.region i
  field x.setpt 8 0 + field x.target 8 8 + field x.slew 3 16 + flag1 (!x.sent.isEmpty) 19 + field x.resp 3 20 + field x.seq 8 24 + field x.bias 6 32 +
  field (if x.tie then s.groupCode (clusterOfRegion i) else x.setpt) 8 38

def Region.telWord (x : Region) : Nat :=
  satField x.vout 10 0 + satField x.iout 8 10 + satField x.temp 7 18 + field x.telBellows.code 2 25 + flag1 x.stale 27 + satField x.holds 16 32 +
  satField x.releases 16 48

def Phase.word (p : Phase) : Nat :=
  satField p.iph 10 0 + satField p.duty 10 10 + satField p.temp 7 20 + field p.telMode 3 27 + flag1 p.sense 30 + flag1 p.stale 31 + field p.cause 3 32 +
  field p.slot 6 35

def Coef.word (c : Coef) (w : Nat) : Nat :=
  if w = 0 then field c.kp 11 0 + field c.ki 11 11 + field c.kd 11 22 + field c.kffPlan 9 33 + field c.kffFlue 9 42
  else field c.rll 7 0 + field c.accLim 6 7 + field c.ffLead 8 13

def State.feedWord (s : State) (b : Nat) : Nat :=
  let f := s.feed
  if b = 0x86000 then f.cfgWord
  else if b = 0x86008 then
    field (f.nAct 0) 6 0 + field f.nReq 6 6 + field (f.working 0).length 6 12 + flag1 f.forced 18 +
    flag1 ((List.range 7).any fun r => (f.loop r).capped) 19 + satField f.unplanned 12 20 + satField f.sags 12 32 + satField f.flueErr 12 44
  else if b = 0x86010 then field f.slotPh 3 0 + flag1 f.lock 3 + satField f.losses 16 32
  else if b = 0x86020 then field f.result 3 0 + field f.resRail 3 3 + field f.resCoef 3 6 + field f.constraint 2 9 + field f.reverted.toNat 7 11
  else if 0x86100 ≤ b ∧ b < 0x86170 then (f.coef ((b - 0x86100) / 16)).word (b / 8 % 2)
  else if 0x86200 ≤ b ∧ b < 0x86460 then (f.phase ((b - 0x86200) / 8)).word
  else 0

def TelAvg.word (a : TelAvg) : Nat := satField a.v 16 0 + satField a.i 16 16 + satField a.p 16 32 + satField a.t 8 48

def State.drawWord (s : State) (b : Nat) : Nat :=
  let d := s.draw
  if b = 0x82000 then d.cfgWord
  else if b = 0x82008 then
    satField (openDiv d.rampMw 1000) 12 0 + field d.bind 4 12 + flag1 d.lag 16 + flag1 d.overDraw 17 + flag1 d.under 18 + flag1 d.brake 19 +
    flag1 d.distrust 20 + flag1 d.suspect 21 + satField d.limit 12 24 + field d.source 3 36 + satField d.overEvents 16 48
  else if b = 0x82010 then field d.fMax 6 0 + field d.vfLo 8 6 + field d.vfHi 8 14
  else if b = 0x82018 then
    field d.level0 5 0 + field d.level1 5 5 + field d.phiM 4 10 + field d.phiL 4 14 + satField d.repaces 18 18 + field d.pace 13 36
  else if b = 0x82020 then
    satField (openDiv d.estMw 1000) 16 0 + satField (openDiv d.measMw 1000) 16 16 + satField (openDiv d.chkMw 1000) 16 32 + satField d.distrusts 8 48 +
    satField (d.forced.countP fun t => decide (s.lt < t + 10000000)) 8 56
  else if b = 0x82028 then
    (match d.traj with
     | some t => field t.id 16 0 + field t.points.length 6 16 + 2 ^ 22
     | none => 0) +
    (match d.pend with
     | some t => 2 ^ 23 + field t.id 16 40
     | none => 0) + satField d.refused 16 24
  else if b = 0x82030 then field d.telLast 8 0 + field d.telCount 56 8
  else if b = 0x82038 then d.avgMs.word
  else if b = 0x82040 then d.avgS.word
  else if b = 0x82048 then d.peaks.word
  else if 0x82800 ≤ b ∧ b < 0x83800 then
    let e := Tbl.get TelFast.reset d.tel ((b - 0x82800) / 16)
    if b % 16 = 0 then e.rt.toNat
    else satField e.meas 16 0 + satField e.tgt 16 16 + field (BitVec.ofInt 16 e.store).toNat 16 32 + satField e.fwd 16 48
  else 0

/-! Cartridges and the PTC pair (R448, R462, R488). -/

/-- R448: (E_low − 3.0 kJ) × 0.96 ÷ 2.9 kW in 10 ms units. -/
def Carts.ride (c : Carts) : Int := openDivInt ((c.eLow - joule 3000) * 96) (29 * (joule 100).toNat)

/-- A whole number of joules. -/
def wholeJ (e : Int) : Int := openDivInt e (joule 1).toNat

def Bay.statusWord (x : Bay) : Nat :=
  field x.state.code 3 0 + flag1 x.stale 3 + flag1 x.suspect 4 + flag1 x.worn 5 + flag1 x.ind 6 + field x.cause 4 8 + field x.soc 7 12 +
  satField x.pack 16 32 + field (BitVec.ofInt 16 x.cur).toNat 16 48

def State.bayWord (s : State) (k o : Nat) : Nat :=
  let x := s.bay k
  let byte := fun t : Int => (BitVec.ofInt 8 t).toNat
  if o = 0 then x.statusWord
  else if o = 8 then
    field x.cap 16 0 + field x.esr 16 16 + field x.rejects 8 32 + satField x.suspects 8 40 + satField ((s.lt - x.refAt) / 60000000000) 16 48
  else if o < 0x30 then
    let j := 4 * ((o - 0x10) / 8)
    (List.range 4).foldl (fun a i => a + field (x.cells.getD (j + i) 0) 16 (16 * i)) 0
  else if o = 0x30 then
    (List.range 4).foldl (fun a i => a + field (byte (x.temps.getD i 0)) 8 (8 * i)) 0 + field (byte (x.temps.foldl max (x.temps.headD 0))) 8 32
  else 0

def State.cartWord (s : State) (b : Nat) : Nat :=
  let c := s.carts
  if b = 0x8C000 then c.cfgWord
  else if b = 0x8C008 then
    clampField (wholeJ c.eNow) 16 0 + clampField (wholeJ c.eLow) 16 16 + clampField (wholeJ c.eFull) 16 32 + clampField (wholeJ c.eSet) 16 48
  else if b = 0x8C010 then satField c.dAvail 12 0 + satField c.cAvail 12 12 + flag1 c.taper 24 + clampField c.ride 16 32
  else if b = 0x8C018 then
    field c.calResult 3 0 + field c.calBay 1 3 + field c.calReason 4 4 + satField c.qMeas 16 16 + satField c.cMeas 16 32 + satField c.rMeas 16 48
  else s.bayWord ((b - 0x8C100) / 0x40) (b % 0x40)

def State.ptcWord (s : State) (b : Nat) : Nat :=
  match s.ptc.newest with
  | some c => if s.ptc.switching then c.words.getD ((b - 0x80000) / 8) 0 else s.ptc.word b
  | none => s.ptc.word b

/-- The registers from CW 0x008_0000 to 0x00B_FFFF; the staging window reads zero. -/
def State.powerWord (t : State) (b : Nat) : Nat :=
  let s := t.ptcView
  if b < 0x82000 then t.ptcWord b
  else if b < 0x84000 then s.drawWord b
  else if b < 0x84060 then (s.rail ((b - 0x84000) / 8)).word
  else if b = 0x84080 then s.pwr.words.1
  else if b = 0x84088 then s.pwr.words.2
  else if b < 0x86000 then 0
  else if b < 0x88000 then s.feedWord b
  else if b = 0x88000 then field s.reg.calDays 8 0
  else if b = 0x88008 then s.regStatus
  else if 0x89000 ≤ b ∧ b < 0x89D80 then s.regSet ((b - 0x89000) / 8)
  else if 0x8A000 ≤ b ∧ b < 0x8AD80 then (s.region ((b - 0x8A000) / 8)).telWord
  else if 0x8C000 ≤ b ∧ b < 0x8C020 ∨ 0x8C100 ≤ b ∧ b < 0x8C138 ∨ 0x8C140 ≤ b ∧ b < 0x8C178 then s.cartWord b
  else 0

/-! Resets, dumps, the recorder (R521, R533). -/

def Dump.dirWord (d : Dump) : Nat :=
  1 + flag1 (d.recs.any DumpRec.full) 1 + field d.cause 8 8 + field d.level 8 16 + satField ((d.size + 0xFFFFF) / 0x100000) 16 24 + field d.seq 24 40

def State.rstWord (s : State) (b : Nat) : Nat :=
  let r := s.rst
  if b = 0xA000 then field r.cfgDump 2 0
  else if b = 0xA010 then r.arg.toNat
  else if b = 0xA018 then field r.result 3 0 + field r.active 3 3 + field r.detail 8 8
  else if b = 0xA020 then r.lastWord
  else if b = 0xA028 then (List.range 4).foldl (fun a i => a + satField (Tbl.get 0 r.count i) 16 (16 * i)) 0
  else if b = 0xA030 then r.saveAddr.toNat
  else if b = 0xA038 then
    field r.listState 2 0 + flag1 r.saveValid 2 + flag1 r.saveComplete 3 + field r.saveParts 7 4 +
    satField (openDiv (r.saveList.foldl (fun n e => n + e.len) 0) 0x100000) 16 12 +
    field (countOf 64 fun i => (Tbl.get none r.dumps i).isSome) 7 32
  else if 0xA100 ≤ b ∧ b < 0xA300 then ((s.dumpAt ((b - 0xA100) / 8)).map Dump.dirWord).getD 0
  else 0

def Recorder.word (r : Recorder) (b : Nat) : Nat :=
  if b = 0xD0000 then field r.head 22 0 + field r.nextSeq.toNat 32 32
  else if b = 0xD0008 then field r.tail 22 0 + field r.tailSeq.toNat 32 32
  else if b = 0xD0010 then
    field r.mod.toNat 16 0 + satField r.lost 16 16 + satField r.floods 16 32 + flag1 r.wrapped 48 + field r.clrResult.toNat 2 49
  else if b = 0xD0018 then r.windowS.toNat + field r.flood.toNat 16 16
  else if b = 0xD0020 then r.seg.toNat
  else if b = 0xD0030 then r.opsec.toNat + field r.pcyc.toNat 24 40
  else if 0xD8000 ≤ b ∧ b < 0xE0000 then (r.wordAt (r.seg.toNat * 0x8000 + (b - 0xD8000))).toNat
  else 0

/-! Keep registers and the interrupt blocks (R541, R542, R548). -/

/-- R538: the keep registers that exist. -/
def isKeep (b : Nat) : Bool :=
  [(0xC0800, 0xC0980), (0xC0A00, 0xC0A08), (0xC0B00, 0xC0B20), (0xC0C00, 0xC0C48), (0xC0D00, 0xC0D08), (0xC2000, 0xC6000)].any fun r =>
    decide (r.1 ≤ b) && decide (b < r.2)

def State.keepReads (s : State) (b : Nat) : Nat :=
  if isKeep b then (s.keep b).toNat
  else if 0xC8000 ≤ b ∧ isKeep (b - 0x8000) = true then
    let n := Tbl.get 0 s.host.keepCount (b - 0x8000)
    field n 32 0 + flag1 (decide (200000 ≤ n)) 32
  else 0

def State.intWord (s : State) (f o : Nat) : Nat :=
  let x := s.host.int f
  if o = 0 then x.cause.toNat
  else if o = 8 then x.mask.toNat
  else if o = 0x10 then x.vec.toNat
  else if 0x80 ≤ o ∧ o < 0x100 then (List.range 64).foldl (fun a i => a + flag1 (Tbl.get false x.slots (8 * (o - 0x80) + i)) i) 0
  else 0

/-! Reads. -/

/-- The word at an 8-byte-aligned offset of CW as the physical function reads it: zero where no chapter assigns the offset (R538), and in
the ranges of the grid, the ports and the memory controllers while an L3 or L4 reset holds them (R496). -/
def State.cwWord (s : State) (b : Nat) : Nat :=
  let in_ := fun lo hi => decide (lo ≤ b) && decide (b < hi)
  if b < 0x1000 then s.globalWord b
  else if b < 0x2000 then s.rtWord b
  else if b < 0xA000 then s.stepWord ((b - 0x2000) / 32) (b / 8 % 4)
  else if b < 0xB000 then s.rstWord b
  else if b < 0xC000 then (if b < 0xBFC0 then (Tbl.get 0#64 s.host.vfWin ((b - 0xB000) / 8)).toNat else 0)
  else if b < 0xE000 then s.progressWord ((b - 0xC000) / 8)
  else if b < 0x10000 then (s.slot ((b - 0xE000) / 8)).pw.watchWord
  else if b < 0x20000 then s.intWord ((b - 0x10000) / 0x400) (b % 0x400)
  else if b < 0x40000 then s.ctxWord ((b - 0x20000) / 128) (b % 128)
  else if b < 0x48000 then (if s.l3Runs then 0 else s.gridWord b)
  else if in_ 0x48000 0x48100 then s.partWord ((b - 0x48000) / 16) (b / 8 % 2)
  else if in_ 0x60000 0x61000 then s.fabWord b
  else if in_ 0x61000 0x61480 && decide (b % 0x40 < 0x20) then (if s.l3Runs then 0 else (s.port ((b - 0x61000) / 0x40)).word (b % 0x40))
  else if in_ 0x70000 0x80000 then (if s.l3Runs then 0 else s.memWord b)
  else if in_ 0x80000 0xC0000 then s.powerWord b
  else if in_ 0xC0000 0xD0000 then s.keepReads b
  else if in_ 0xD0000 0xE0000 then s.recorder.word b
  else if in_ 0x100000 0x7C0000 then s.winWord ((b - 0x100000) / 0x1000) (b % 0x1000)
  else 0

/-- Whether a virtual function may read a word (R343, R548 to R551): the identity, GLB_STATE and RT_NOW, what R343 gives it of its slots, its
partitions and their cores, and its own interrupt block. PART_DEF is GATED. -/
def State.vfReads (s : State) (fn b : Nat) : Bool :=
  if b = 0 ∨ b = 8 ∨ b = 0x20 ∨ b = 0x1008 then true
  else if 0xE000 ≤ b ∧ b < 0x10000 then decide ((s.slot ((b - 0xE000) / 8)).owner.toNat = fn)
  else if 0x10000 ≤ b ∧ b < 0x20000 then decide ((b - 0x10000) / 0x400 = fn)
  else if 0x20000 ≤ b ∧ b < 0x40000 then decide ((s.slot ((b - 0x20000) / 128)).owner.toNat = fn)
  else if 0x48000 ≤ b ∧ b < 0x48100 then decide (b % 16 = 8) && decide ((s.part ((b - 0x48000) / 16)).owner = fn)
  else s.vfReaches fn b

/-- The offsets at which a register or a window lies (R538). -/
def cwAssigned (b : Nat) : Bool :=
  [(0, 0x10), (0x20, 0x48), (0x100, 0x108), (0x200, 0x218), (0x300, 0x308), (0x1000, 0x1028), (0x2000, 0xA040), (0xA100, 0xA300), (0xB000, 0xBFC0),
   (0xC000, 0x40010), (0x41000, 0x41180), (0x41200, 0x41380), (0x42000, 0x426C0), (0x43000, 0x431B0), (0x48000, 0x48100), (0x60000, 0x60020),
   (0x61000, 0x61480), (0x70000, 0x70028), (0x70100, 0x70140), (0x71000, 0x72400), (0x74000, 0x74038), (0x74100, 0x74140), (0x74200, 0x74240),
   (0x75000, 0x75800), (0x76000, 0x76200), (0x80000, 0x80040), (0x82000, 0x82050), (0x82800, 0x83800), (0x84000, 0x84060), (0x84080, 0x84090),
   (0x86000, 0x86028), (0x86100, 0x86170), (0x86200, 0x86460), (0x88000, 0x88010), (0x89000, 0x89D80), (0x8A000, 0x8AD80), (0x8C000, 0x8C020),
   (0x8C100, 0x8C138), (0x8C140, 0x8C178), (0xA0000, 0xB0000), (0xD0000, 0xD0038), (0xD8000, 0xE0000), (0x100000, 0x7C0000)].any
    (fun r => decide (r.1 ≤ b) && decide (b < r.2)) || isKeep b || (decide (0xC8000 ≤ b) && isKeep (b - 0x8000))

/-- One 8-byte read: its value, and what the access changes. A read of TEL_PEAK starts a new hold (R438). -/
def State.cwReadWord (s : State) (fn b : Nat) : Nat × State :=
  if fn ≠ 0 ∧ cwAssigned b = true ∧ s.vfReads fn b = false then (0, s.deny fn 0 0 b false)
  else if b = 0x82048 then (s.cwWord b, s.newPeaks)
  else (s.cwWord b, s)

/-- Successive 8-byte reads of n words from b (R537). -/
def State.cwReadWords (s : State) (fn b : Nat) : Nat → List Byte × State
  | 0 => ([], s)
  | n + 1 =>
    let r := s.cwReadWord fn b
    let t := r.2.cwReadWords fn (b + 8) n
    (toLE 8 r.1 ++ t.1, t.2)

/-- R537: a read of 4 or 8 aligned bytes, or of up to 64 bytes within one 64-byte block; another one reads zero and counts. A 4-byte read of
RT_NOW has its latch (R236). -/
def State.cwRead (s : State) (fn off len : Nat) : State :=
  s.byHost fn fun s =>
    if len = 0 ∨ 64 < off % 64 + len then (s.badAcc).emit (.hostRead fn (List.replicate len 0#8) false)
    else if len = 4 ∧ (off = 0x1008 ∨ off = 0x100C) then s.readRtNow fn (if off = 0x1008 then 1 else 2)
    else
      let b := off / 8 * 8
      let r := ({ s with free := s.free + 1 }).cwReadWords fn b ((off + len - b + 7) / 8)
      r.2.emit (.hostRead fn ((r.1.drop (off - b)).take len) false)

/-- A read of DW: doorbells read zero, one of a slot that the function does not own counts (R540, R546); the MSI-X table and its pending bits. -/
def State.dwRead (s : State) (fn off len : Nat) : State :=
  s.byHost fn fun s =>
    let give := fun (s : State) (v : Nat) => s.emit (.hostRead fn (((toLE 8 v).drop (off % 8)).take len) false)
    if cwAligned off len = false then (s.badAcc).emit (.hostRead fn (List.replicate len 0#8) false)
    else if off < 0x2000 then
      give (if fn ≠ 0 ∧ fn ≠ (s.slot (off / 8)).owner.toNat then s.deny fn 1 0 off false else s) 0
    else if off < 0x3000 then
      let i := (off - 0x2000) / 16
      let e := Tbl.get msixMasked s.host.msixTab (16 * fn + i)
      give s (if vectorsOf fn ≤ i then 0 else if off % 16 < 8 then bits e.toNat 63 0 else bits e.toNat 127 64)
    else if off / 8 * 8 = 0x3000 then
      give s ((List.range (vectorsOf fn)).foldl (fun a i => a + flag1 (Tbl.get false s.host.msixPend (16 * fn + i)) i) 0)
    else give s 0

end Sys2Proof.Machine
end

