-- ==== Sys2Proof/Machine/HostExec.lean ====
section
/-! DEFINITION. The commands of the event recorder (R522 to R531) and of the host interface (R534 to R548, R598). -/

namespace Sys2Proof.Machine

/-! The recorder. -/

/-- R525: the TYPEs that units submit. -/
def submitted (ty : Nat) : Bool :=
  [0x001, 0x002, 0x003, 0x004, 0x005, 0x006, 0x010, 0x011, 0x012, 0x013, 0x020, 0x021, 0x022, 0x030, 0x040, 0x050, 0x051, 0x052, 0x053, 0x060, 0x061,
   0x062, 0x070, 0x080, 0x090, 0x0A0].contains ty

/-- R526, R527: a submission; `full` says that it meets a full queue. -/
def State.submit (s : State) (ty key : Nat) (vals : List Nat) (full : Bool) : State :=
  if submitted ty = false ∨ s.svc = .off then s
  else if full then { s with recorder := s.recorder.lose }
  else s.record ty key (vals.take (valueCount ty))

def execRecordSubmit (type : BitVec 10) (key : BitVec 64) (vals : List (BitVec 64)) (full : Bool) (s : State) : Host.Outcome State Fault Refusal :=
  .next (s.submit type.toNat key.toNat (vals.map BitVec.toNat) full)

def execFloodSecondEnd (s : State) : Host.Outcome State Fault Refusal := .next (if s.svc = .off then s else { s with recorder := s.recorder.secondEnd })

def execRecClear (by_ : Requester) (key : BitVec 16) (seq : BitVec 32) (s : State) : Host.Outcome State Fault Refusal := .next (s.recClear by_ key seq)

/-- R523: 1 ms LT more of VAUX. -/
def State.opsecTick (s : State) : State :=
  if s.svc = .off ∨ s.lt < s.recorder.tickAt + 1000000 then s
  else { s with recorder := { s.recorder with opMs := s.recorder.opMs + 1, tickAt := s.lt } }

def execOpsecTick (s : State) : Host.Outcome State Fault Refusal := .next s.opsecTick

/-! The port and its functions. -/

/-- The link is up: a request to a function's configuration space arrives. -/
def State.linkUp (s : State) : Bool := decide (s.svc ≠ .off) && !s.tray.pwrReq && !s.host.perst

/-- The MSI-X table and D-state of a function at their reset values (PCI Express 6.0). -/
def HostIf.clearFn (h : HostIf) (f : Nat) : HostIf :=
  let h := (List.range 16).foldl (fun (h : HostIf) v =>
    { h with msixTab := Tbl.set msixMasked h.msixTab (16 * f + v) msixMasked, msixPend := Tbl.set false h.msixPend (16 * f + v) false }) h
  { h.setInt f IntBlock.reset with d3hot := Tbl.set false h.d3hot f false }

/-- R536: a function level reset: teardowns, then the interrupt blocks. -/
def State.flr (s : State) (fn : Nat) : State :=
  if s.linkUp = false then s
  else
    let mine := s.liveSlots.filter fun n => (s.slot n).tearable && (decide (fn = 0) || decide ((s.slot n).owner.toNat = fn))
    let s := mine.foldl State.tear s
    if fn = 0 then { s with host := { s.host with ints := [], msixTab := [], msixPend := [], d3hot := [] } }
    else { s with host := s.host.clearFn fn }

def execFunctionLevelReset (fn : Fin 64) (s : State) : Host.Outcome State Fault Refusal := .next (s.flr fn)

/-- R598: the link drops, and configuration state returns to its reset values (PCI Express 6.0). -/
def execPerstAssert (s : State) : Host.Outcome State Fault Refusal :=
  .next { s with host := { s.host with perst := true, msixTab := [], msixPend := [], d3hot := [] } }

def execPerstRelease (s : State) : Host.Outcome State Fault Refusal := .next { s with host := { s.host with perst := false } }

/-- R534: a function enters or leaves D3hot. -/
def State.setD3hot (s : State) (fn : Nat) (on : Bool) : State :=
  if s.linkUp then { s with host := { s.host with d3hot := Tbl.set false s.host.d3hot fn on } } else s

def execD3hot (fn : Fin 64) (enter : Bool) (s : State) : Host.Outcome State Fault Refusal := .next (s.setD3hot fn enter)

/-! Register writes. -/

def execIntMaskWrite (fn block : Fin 64) (mask : BitVec 8) (s : State) : Host.Outcome State Fault Refusal := .next (s.maskWrite fn block mask)

/-- A write of `len` bytes at an offset of CW 0x00C_0000. -/
def execKeepWrite (fn : Fin 64) (off : BitVec 16) (len : BitVec 13) (v : BitVec 64) (s : State) : Host.Outcome State Fault Refusal :=
  .next (s.cwWrite fn (0xC0000 + off.toNat) len.toNat v)

/-- A write of `len` bytes to CW or to DW, or with no value a read of them (log entry 151). -/
def State.access (s : State) (fn : Nat) (dw : Bool) (off len : Nat) (v : Option (BitVec 64)) : State :=
  match v with
  | some v => if dw then s.dwWrite fn (off % 0x4000) len v else s.cwWrite fn off len v
  | none => if dw then s.dwRead fn (off % 0x4000) len else s.cwRead fn off len

def execRegisterWrite (fn : Fin 64) (dw : Bool) (off : BitVec 26) (len : BitVec 13) (v : Option (BitVec 64)) (s : State) :
    Host.Outcome State Fault Refusal :=
  .next (s.access fn dw off.toNat len.toNat v)

end Sys2Proof.Machine
end

