-- ==== Sys2Proof/Machine/RegExec.lean ====
section
/-! DEFINITION. The commands of the region regulators (R360 to R385, R617): HOLD, bellows, ring commands, flue, failures,
guards, calibrations. -/

namespace Sys2Proof.Machine

/-! HOLD and the bellows (R362, R364). -/

def State.holdAssert (s : State) (i : Nat) : State :=
  s.modRegion i fun x => if x.mode.railed then { x with hold := true, holdsNow := if x.hold then x.holdsNow else satAdd 63 x.holdsNow 1 } else x

def execHoldAssert (region : Fin 432) (s : State) : Host.Outcome State Fault Refusal := .next (s.holdAssert region)

def State.holdRelease (s : State) (i : Nat) : State := s.modRegion i fun x => { x with hold := false }

def execHoldRelease (region : Fin 432) (s : State) : Host.Outcome State Fault Refusal := .next (s.holdRelease region)

/-- R364: a full or recharging bellows releases; the release is counted. -/
def Region.release (x : Region) : Region :=
  match x.bellows with
  | .full | .recharging => { x with bellows := .releasing, releases := satAdd 0xFFFF x.releases 1 }
  | _ => x

def execBellowsRelease (region : Fin 432) (s : State) : Host.Outcome State Fault Refusal :=
  .next (s.modRegion region Region.release)

def Region.stopRelease (x : Region) : Region := if x.bellows = .releasing then { x with bellows := .recharging } else x

def execBellowsStop (region : Fin 432) (s : State) : Host.Outcome State Fault Refusal :=
  .next (s.modRegion region Region.stopRelease)

def Region.recharged (x : Region) : Region := if x.bellows = .recharging then { x with bellows := .full } else x

def execBellowsRechargeDone (region : Fin 432) (s : State) : Host.Outcome State Fault Refusal :=
  .next (s.modRegion region Region.recharged)

/-! Ring commands (R368 to R371). -/

/-- R368, R370: the PTC sends the frame of a row, with the row's OP. -/
def State.ringRow (s : State) (op : Nat) (f : RingFrame) : State :=
  s.ringSend f.die f.dst.toNat { op, seq := f.seq.toNat, arg := f.arg.toNat, slew := f.slew.toNat } f.flip

def execSet (f : RingFrame) (s : State) : Host.Outcome State Fault Refusal := .next (s.ringRow opSet f)
def execBiasLoad (f : RingFrame) (s : State) : Host.Outcome State Fault Refusal := .next (s.ringRow opBias f)
def execWave (f : RingFrame) (s : State) : Host.Outcome State Fault Refusal := .next (s.ringRow opWave f)
def execTie (f : RingFrame) (s : State) : Host.Outcome State Fault Refusal := .next (s.ringRow opTie f)
def execUntie (f : RingFrame) (s : State) : Host.Outcome State Fault Refusal := .next (s.ringRow opUntie f)
def execCal (f : RingFrame) (s : State) : Host.Outcome State Fault Refusal := .next (s.ringRow opCal f)
def execQuery (op : BitVec 4) (f : RingFrame) (s : State) : Host.Outcome State Fault Refusal := .next (s.ringRow op.toNat f)
def execGate (f : RingFrame) (s : State) : Host.Outcome State Fault Refusal := .next (s.ringRow opGate f)
def execRegionStart (f : RingFrame) (s : State) : Host.Outcome State Fault Refusal := .next (s.ringRow opStart f)

def execSetpointSettled (region : Fin 432) (limit : Option (Fin 161)) (s : State) : Host.Outcome State Fault Refusal :=
  .next (s.settleSetpoint region (limit.map Fin.val))

/-- R370, R374: a response to a command that awaits one. The answer of a QUERY to a regulator whose flue is silent is its telemetry. -/
def Region.answered (x : Region) (op seq resp vcode iout : Nat) : Region :=
  match x.sent.find? fun e => e.cmd.seq = seq && e.cmd.op = op with
  | none => x
  | some e =>
    let y := { x with sent := x.sent.erase e, resp := resp + 1,
                      setpt := if resp = 1 ∧ (op = opSet ∨ op = opStart) then vcode else x.setpt }
    if op = opQuery ∧ x.stale then { y with iout, vout := if vcode ≤ 160 then 500 + openDiv (vcode * 5) 2 else x.vout } else y

/-- R367, R368: a response frame at the PTC; a bad CRC is discarded and counted; RESP 4 to 7 are not used. -/
def State.ringResponse (s : State) (die : Nat) (w : BitVec 64) : State :=
  let n := w.toNat
  let i := bits n 8 0
  if !s.ptc.hasActive then s
  else if !ringOk w then s.countRingTo
  else if i < 432 ∧ dieOfRegion i = die ∧ bits n 23 21 ≤ 3 then
    s.modRegion i fun x => x.answered (bits n 12 9) (bits n 20 13) (bits n 23 21) (bits n 31 24) (bits n 39 32)
  else s

def execRingResponse (die : Fin 2) (w : BitVec 64) (s : State) : Host.Outcome State Fault Refusal := .next (s.ringResponse die w)

/-- R370, R375 condition 4: past the deadline of the oldest command without a response, the first timeout repeats it with its SEQ, the
second starts the check, and an unanswered check fails the regulator. -/
def State.ringTimeout (s : State) (i : Nat) : State :=
  let x := s.region i
  match x.sent with
  | [] => s
  | e :: rest =>
    if !s.ptc.hasActive ∨ s.lt < e.due then s
    else
      let s := s.countRingTo
      if e.check then (s.setRegion i { x with sent := rest, resp := 5 }).failRegulator i 4
      else if e.timeouts = 0 then
        let w := e.cmd.word i
        ((s.setRegion i { x with sent := { e with timeouts := 1, due := s.lt + e.cmd.span x.setpt + 2000 } :: rest }).emit (.ring (dieOfRegion i) w)).ringArrive
          (dieOfRegion i) w
      else
        let q : RingCmd := { op := opQuery, seq := s.nextSeq i, arg := 0, slew := 0 }
        let w := q.word i
        (((s.setRegion i { x with sent := rest, resp := 5 }).awaits i q true).emit (.ring (dieOfRegion i) w)).ringArrive (dieOfRegion i) w

def execRingCommandTimeout (region : Fin 432) (s : State) : Host.Outcome State Fault Refusal :=
  .next (s.ringTimeout region).settle

/-- R372, R492: a broken ring leads to an L3 reset. -/
def State.ringBroken (s : State) (die : Nat) : State :=
  { s with reg := { s.reg with broken := Tbl.set false s.reg.broken die true, brokenAt := Tbl.set 0 s.reg.brokenAt die s.lt } }.ownReset 3 0 0x0B

def execRingBroken (die : Fin 2) (s : State) : Host.Outcome State Fault Refusal := .next (s.ringBroken die)

/-- R474: the ACTIVE PTC keeps each ring alive with a QUERY in region order. -/
def State.ringKeepalive (s : State) (i : Nat) : State :=
  if s.ptc.hasActive then s.ringCommand i { op := opQuery, seq := ((s.region i).seq + 1) % 256, arg := 0, slew := 0 } else s

def execRingKeepalive (region : Fin 432) (s : State) : Host.Outcome State Fault Refusal := .next (s.ringKeepalive region)

/-! The flue (R373, R374). -/

def bellowsOf (x : Nat) : Bellows := if x = 0 then .full else if x = 1 then .releasing else if x = 2 then .recharging else .off

/-- R132, R374: the hint of the region whose turn it is: of the cores with one that has stood for 256 cc, the next after the last. -/
def Region.nextHint (x : Region) : Option NodeHint :=
  let ripe := x.hints.filter fun h => decide (h.since + 1024 ≤ x.quarters)
  ([1, 2, 3, 4].map fun k => (x.hintTurn + k) % 4).findSome? fun q => ripe.find? fun h => h.core = q

/-- R373: the bits [71:0] of the frame a regulator sends, at rack time `now`. -/
def Region.flueBody (x : Region) (i now : Nat) (m : FlueSample) : Nat :=
  let h := x.nextHint
  let on := x.mode.railed
  field i 9 0 + field m.vout.toNat 10 9 + field (if on then m.iout.toNat else 0) 8 19 + field m.temp.toNat 7 27 +
  field (if on then x.bellows.code else Bellows.off.code) 2 34 + field x.holdsNow 6 36 + flag1 m.oc 42 + flag1 x.tie 43 +
  flag1 (decide (x.cond ≠ 0) || x.regfail) 44 + flag1 h.isSome 45 +
  (match h with
   | some h => field h.core 2 46 + field h.level 4 48 + field (h.lead - openDiv (now - h.at_) 64) 14 52
   | none => 0) + field x.frames 6 66

/-- R373, R374: the regulator has sent its frame of the period: the hint it carried is delivered. -/
def Region.flueSent (x : Region) : Region :=
  let y := { x with frames := (x.frames + 1) % 64, holdsNow := 0 }
  match x.nextHint with
  | some h => { y with hints := x.hints.erase h, hintTurn := h.core }
  | none => y

/-- R374, R376: a frame as the PTC receives it in the slot of region i: a bad CRC or an unexpected REGION or FSEQ is discarded and
counted, and the count of the slot goes on (log entry 144). A hint joins the forecast (R428); a fault it reports is handled. -/
def State.flueTake (s : State) (i : Nat) (w : BitVec 80) : State :=
  let n := w.toNat
  let x := s.region i
  let q := bits n 71 66
  let expected := match x.fseq with
    | some p => decide (q = (p + 1) % 64)
    | none => true
  if !flueOk w || decide (bits n 8 0 ≠ i) || !expected then
    { s with reg := { s.reg with flueErr := satAdd 0xFFF s.reg.flueErr 1 } }.setRegion i { x with fseq := x.fseq.map fun p => (p + 1) % 64 }
  else
    let s := s.setRegion i { x with
      vout := bits n 18 9, iout := bits n 26 19, temp := bits n 33 27, telBellows := bellowsOf (bits n 35 34), stale := false,
      holds := satAdd 0xFFFF x.holds (bits n 41 36), fseq := some q }
    let now := s.rt.now.toNat
    let s := (s.laneHeard (laneOf i)).modDraw fun d =>
      { d with tMax := max d.tMax (bits n 33 27),
               hints := (if bit n 45 then [{ region := i, level := bits n 51 48, at_ := now + 64 * bits n 65 52 }] else []) ++
                 d.hints.filter fun h => decide (now ≤ h.at_) }
    if n.testBit 44 ∧ ¬ x.regfail then s.failRegulator i (if x.cond = 0 then s.recordValue 0x061 1 else x.cond) else s

/-- R373: a regulator sends the frame of its period, and the PTC, where one is ACTIVE, takes it as it arrives. -/
def State.flueFrame (s : State) (i : Nat) (m : FlueSample) : State :=
  let w := flueSeal ((s.region i).flueBody i s.rt.now.toNat m) ^^^ m.flip
  let s := s.modRegion i Region.flueSent
  if s.ptc.hasActive then s.flueTake i w else s

def execFlueFrame (region : Fin 432) (m : FlueSample) (s : State) : Host.Outcome State Fault Refusal := .next (s.flueFrame region m).settle

/-- R374, R412: a lane that has delivered no valid frame for 10 µs LT: a record, and its regulators or phases STALE. -/
def State.flueSilent (s : State) (lane : Nat) : State :=
  if !s.ptc.hasActive ∨ s.lt < Tbl.get 0 s.reg.heardAt lane + 10000 then s
  else
    let s := { s with reg := { s.reg with silent := Tbl.set false s.reg.silent lane true } }
    if lane < 12 then
      (s.record 0x061 (field lane 9 2) [lane]).modRegions ((List.range 432).filter fun i => laneOf i = lane) fun x => { x with stale := true, fseq := none }
    else
      let s := s.recordOpen [lane]
      ((List.range 76).filter fun k => phaseLane k = lane - 12).foldl (fun a k => a.modPhase k fun p => { p with stale := true, fseq := none }) s

def execFlueLaneSilent (lane : Fin 16) (s : State) : Host.Outcome State Fault Refusal := .next (s.flueSilent lane)

def execFluePoll (region : Fin 432) (s : State) : Host.Outcome State Fault Refusal :=
  .next (if (s.region region).stale then
    s.ringCommand region { op := opQuery, seq := ((s.region region).seq + 1) % 256, arg := 0, slew := 0 } else s)

/-! Failures and guards (R375 to R380). -/

/-- R375 conditions 1 to 3: the region closes its own tie, and reports it on the flue; under condition 3 it also opens its output. A gated
region has no output and nothing to carry (R376). -/
def State.localFail (s : State) (i cond : Nat) : State :=
  let x := s.region i
  if x.regfail ∨ x.cond ≠ 0 ∨ x.mode = .dark then s
  else if x.mode.railed then
    (s.setRegion i { x with tie := true, cond, enabled := x.enabled && decide (cond ≠ 3), opened := decide (cond = 3) }).groupRefs (clusterOfRegion i)
  else s.setRegion i { x with cond }

def execStageFault (region : Fin 432) (s : State) : Host.Outcome State Fault Refusal := .next (s.localFail region 1)
def execRailUndervoltFail (region : Fin 432) (s : State) : Host.Outcome State Fault Refusal := .next (s.localFail region 2)
def execRailOvervoltFail (region : Fin 432) (s : State) : Host.Outcome State Fault Refusal := .next (s.localFail region 3)

/-- R378: the sum of the cluster's flue currents and the guard, both in 62.5 mA. -/
def State.flueSum (s : State) (j : Nat) : Nat := (regionsOfCluster j).foldl (fun a i => a + (s.region i).iout) 0
def State.guardG (s : State) (j : Nat) : Nat := 128 * (s.working j).length - 32
def State.carried (s : State) (j : Nat) : Bool := (regionsOfCluster j).any fun i => decide ((s.region i).mode = .carried)

/-- R378: the first sum above G sets the level to at most 8. -/
def State.guardSum (s : State) (j : Nat) : State :=
  let x := s.cluster j
  if s.ptc.absent = false ∧ s.carried j ∧ ¬ x.guard ∧ s.guardG j < s.flueSum j then s.setCluster j { x with guard := true, level := 8 } else s

def execGuardSum (cluster : Fin 108) (s : State) : Host.Outcome State Fault Refusal := .next (s.guardSum cluster)

/-- R378: up by 1 below G − 2 A, down by 2 above G; the cap ends with the last carried region. -/
def State.guardAdjust (s : State) (j : Nat) : State :=
  let x := s.cluster j
  if ¬ x.guard ∨ s.ptc.absent then s
  else if !s.carried j then s.setCluster j { x with guard := false, level := 16 }
  else if s.flueSum j + 32 < s.guardG j then s.setCluster j { x with level := min 16 (x.level + 1) }
  else if s.guardG j < s.flueSum j then s.setCluster j { x with level := max 1 (x.level - 2) }
  else s

def execGuardAdjust (cluster : Fin 108) (s : State) : Host.Outcome State Fault Refusal := .next (s.guardAdjust cluster)

/-- R380: the cluster is lost while its cap holds level 1. -/
def State.clusterLoss (s : State) (j : Nat) : State :=
  let x := s.cluster j
  if x.guard ∧ x.level = 1 ∧ ¬ x.dark ∧ s.ptc.absent = false then s.loseCluster j else s

def execClusterLoss (cluster : Fin 108) (s : State) : Host.Outcome State Fault Refusal := .next (s.clusterLoss cluster).settle

/-! Calibrations (R381 to R384). -/

/-- The two's complement word of a signed trim. -/
def signedWord (x : Int) : Nat := (BitVec.ofInt 64 x).toNat

/-- R381: gain error in 0.1%, offset in 0.1 mV; beyond ±5% or ±15 mV the regulator is failed. -/
def State.calDone (s : State) (gain offset : Int) : State :=
  s.endRegCal (decide (gain.natAbs ≤ 50) && decide (offset.natAbs ≤ 150)) (signedWord gain) (signedWord offset)

def execCalibrationDone (gain offset : Int) (s : State) : Host.Outcome State Fault Refusal := .next (s.calDone gain offset).settle

def execCalibrationAbandon (s : State) : Host.Outcome State Fault Refusal := .next s.dropCal

/-- R383: the next powered regulator in ascending order, when R382 allows. -/
def State.autoCal (s : State) : State :=
  let order := (List.range 432).map fun k => (s.reg.calNext + k) % 432
  match order.find? fun i => decide ((s.region i).mode = .powered) with
  | none => s
  | some i =>
    if s.reg.calDays = 0 ∨ s.ptc.hasActive = false ∨ s.calRefusal i ≠ 0 then s
    else let s := s.startRegCal i false
         { s with reg := { s.reg with calNext := (i + 1) % 432 } }

def execAutoCalibration (s : State) : Host.Outcome State Fault Refusal := .next s.autoCal

/-! The self-limit of a tied regulator (R617). -/

/-- A working regulator of a tied group limits itself; what HOLD then stalls is State.held. -/
def State.selfLimit (s : State) (i : Nat) : State :=
  let x := s.region i
  if s.inGroup (clusterOfRegion i) i && x.enabled && !x.regfail && !x.opened then s.setRegion i { x with limited := true } else s

def execRegulatorSelfLimit (region : Fin 432) (s : State) : Host.Outcome State Fault Refusal := .next (s.selfLimit region)

def execRegulatorLimitRelease (region : Fin 432) (s : State) : Host.Outcome State Fault Refusal :=
  .next (s.modRegion region fun x => { x with limited := false })

end Sys2Proof.Machine
end

