-- ==== Sys2Proof/Machine/SaveExec.lean ====
section
/-! DEFINITION. Ember save (R447, R512 to R517, R579, R589): trigger, parts, end. -/

namespace Sys2Proof.Machine

/-- A cartridge is in service. -/
def State.anyCart (s : State) : Bool := s.carts.a.state.serves || s.carts.b.state.serves

/-- R447, R512, R563, R588: an ember save can start. -/
def State.maySave (s : State) : Bool :=
  decide (s.pwr.closed = false) && !s.up.drained && !s.tray.pwrReq && decide (s.svc ≠ .off) && decide (s.svc ≠ .saving) && s.ptc.hasActive &&
  s.anyCart

/-- R514 step 1, R512: the save starts; one in INIT or FILLING writes no part (R579). Running resets are over (R499). -/
def State.saveStart (s : State) : State :=
  let parts := decide (s.svc ≠ .init) && decide (s.svc ≠ .filling) && decide (s.svc ≠ .benched)
  let s := (s.ctxs fun x => decide (1 < x.members.length)).foldl (fun a n => a.abortCtx n 0x0A 0xFF) s
  let s := s.modCores (s.cores.map Prod.fst) Core.stop
  let run : SaveRun := { step := if parts then 1 else 6, rest := if parts then s.rst.saveList else [] }
  let s := { s with rst := { s.rst with save := some run, drain := some 5, drainAt := s.lt, runs := [], busyCmd := none } }
  s.setService .saving s.degradeNow

/-- EMBER_SAVE_TRIGGER: E_low stands at the reserve, or the stage has been open for RIDE_S seconds LT (R447). -/
def State.saveTrigger (s : State) : State :=
  if s.maySave ∧ (s.carts.eLow ≤ joule 3000 ∨
      (s.carts.rideS ≠ 0 ∧ s.carts.openAt.any fun t => decide (t + 1000000000 * s.carts.rideS ≤ s.lt))) then s.saveStart else s

def execEmberSaveTrigger (s : State) : Host.Outcome State Fault Refusal := .next s.saveTrigger

/-- R589: the stage opened and TICK went missing within 1 ms of each other. -/
def State.trayLoss (s : State) : State :=
  match s.tray.openedAt, s.tray.tickAt with
  | some a, some b => if s.maySave ∧ a ≤ b + 1000000 ∧ b ≤ a + 1000000 then s.saveStart else s
  | _, _ => s

def execTrayLoss (s : State) : Host.Outcome State Fault Refusal := .next s.trayLoss

/-- A part is in the image: the first one of a save replaces the image before it (R516). -/
def State.countPart (s : State) (first : Bool) : State :=
  { s with rst := { s.rst with saveValid := true, saveComplete := false, saveParts := if first then 1 else s.rst.saveParts + 1 } }

/-- R514 steps 3 to 5. Steps: 2 the STATE records, 3 the FULL records, 5 the extents. -/
def State.savePart (s : State) : State :=
  if s.rst.drain.isSome then s
  else match s.rst.save with
    | none => s
    | some v =>
      let at_ := fun (k : Nat) (rest : List Extent) (s : State) => { s with rst := { s.rst with save := some { step := k, rest } } }
      let gate := fun s : State => s.modRegions (List.range 432) fun x => x.gate false
      if v.step = 2 then
        if s.rst.cfgDump = 2 then at_ 3 v.rest (s.countPart true) else at_ 5 v.rest (gate (s.countPart true))
      else if v.step = 3 then at_ 5 v.rest (gate (s.countPart false))
      else if v.step = 5 then
        match v.rest with
        | [] => s
        | e :: t => if s.blocked e.base e.len then s else at_ 5 t (((s.countPart false).touch e.base e.len 0).2)
      else s

def execEmberSavePartDone (s : State) : Host.Outcome State Fault Refusal := .next s.savePart

/-- R514 steps 6 and 7: the save ends in INIT where the bus, at `mv`, is within its range, else in OFF (R23). -/
def State.saveDone (s : State) (mv : Nat) : State :=
  if s.rst.drain.isSome then s
  else match s.rst.save with
    | none => s
    | some v =>
      if v.step = 6 ∨ (v.step = 5 ∧ v.rest = []) then
        let d := s.draw1
        let s := if v.step = 5 then { d.2 with rst := { d.2.rst with saveComplete := true, saveSize := d.1 % 0xA00000000 } } else s
        if busOk mv then
          let t := s.startInit
          { t with pwr := { t.pwr with busMv := mv } }
        else s.goOff
      else s

def execEmberSaveDone (mv : BitVec 16) (s : State) : Host.Outcome State Fault Refusal := .next (s.saveDone mv.toNat)

end Sys2Proof.Machine
end

