-- ==== Sys2Proof/Machine/SylExec.lean ====
section
/-! DEFINITION. The syllables of Lemran as commands (R98 to R171, R623): each is presented to the core it names, whose issue logic
gathers bundles and issues them (Bundle.lean); what a syllable does stands at its `syl…` definition. -/

namespace Sys2Proof.Machine

def execNop (iss : Issue) (grp : BitVec 4) (op : BitVec 6) (ops : BitVec 18) (s : State) : Host.Outcome State Fault Refusal :=
  .next (s.syllable (Instr.decoded (.nop iss grp op ops)) iss)
def execAdd (iss : Issue) (ops : BitVec 18) (s : State) : Host.Outcome State Fault Refusal := .next (s.syllable (.add iss ops) iss)
def execSub (iss : Issue) (ops : BitVec 18) (s : State) : Host.Outcome State Fault Refusal := .next (s.syllable (.sub iss ops) iss)
def execAnd (iss : Issue) (ops : BitVec 18) (s : State) : Host.Outcome State Fault Refusal := .next (s.syllable (.and iss ops) iss)
def execOr (iss : Issue) (ops : BitVec 18) (s : State) : Host.Outcome State Fault Refusal := .next (s.syllable (.or iss ops) iss)
def execXor (iss : Issue) (ops : BitVec 18) (s : State) : Host.Outcome State Fault Refusal := .next (s.syllable (.xor iss ops) iss)
def execShl (iss : Issue) (ops : BitVec 18) (s : State) : Host.Outcome State Fault Refusal := .next (s.syllable (.shl iss ops) iss)
def execShr (iss : Issue) (ops : BitVec 18) (s : State) : Host.Outcome State Fault Refusal := .next (s.syllable (.shr iss ops) iss)
def execSra (iss : Issue) (ops : BitVec 18) (s : State) : Host.Outcome State Fault Refusal := .next (s.syllable (.sra iss ops) iss)
def execMul (iss : Issue) (ops : BitVec 18) (s : State) : Host.Outcome State Fault Refusal := .next (s.syllable (.mul iss ops) iss)
def execMulh (iss : Issue) (ops : BitVec 18) (s : State) : Host.Outcome State Fault Refusal := .next (s.syllable (.mulh iss ops) iss)
def execMulhu (iss : Issue) (ops : BitVec 18) (s : State) : Host.Outcome State Fault Refusal := .next (s.syllable (.mulhu iss ops) iss)
def execDiv (iss : Issue) (ops : BitVec 18) (s : State) : Host.Outcome State Fault Refusal := .next (s.syllable (.div iss ops) iss)
def execDivu (iss : Issue) (ops : BitVec 18) (s : State) : Host.Outcome State Fault Refusal := .next (s.syllable (.divu iss ops) iss)
def execRem (iss : Issue) (ops : BitVec 18) (s : State) : Host.Outcome State Fault Refusal := .next (s.syllable (.rem iss ops) iss)
def execRemu (iss : Issue) (ops : BitVec 18) (s : State) : Host.Outcome State Fault Refusal := .next (s.syllable (.remu iss ops) iss)
def execMin (iss : Issue) (ops : BitVec 18) (s : State) : Host.Outcome State Fault Refusal := .next (s.syllable (.min iss ops) iss)
def execMax (iss : Issue) (ops : BitVec 18) (s : State) : Host.Outcome State Fault Refusal := .next (s.syllable (.max iss ops) iss)
def execMinu (iss : Issue) (ops : BitVec 18) (s : State) : Host.Outcome State Fault Refusal := .next (s.syllable (.minu iss ops) iss)
def execMaxu (iss : Issue) (ops : BitVec 18) (s : State) : Host.Outcome State Fault Refusal := .next (s.syllable (.maxu iss ops) iss)
def execMov (iss : Issue) (ops : BitVec 18) (s : State) : Host.Outcome State Fault Refusal := .next (s.syllable (.mov iss ops) iss)
def execClz (iss : Issue) (ops : BitVec 18) (s : State) : Host.Outcome State Fault Refusal := .next (s.syllable (.clz iss ops) iss)
def execPopc (iss : Issue) (ops : BitVec 18) (s : State) : Host.Outcome State Fault Refusal := .next (s.syllable (.popc iss ops) iss)
def execCmp (iss : Issue) (ops : BitVec 18) (s : State) : Host.Outcome State Fault Refusal := .next (s.syllable (.cmp iss ops) iss)
def execFadd (iss : Issue) (ops : BitVec 18) (s : State) : Host.Outcome State Fault Refusal := .next (s.syllable (.fadd iss ops) iss)
def execFsub (iss : Issue) (ops : BitVec 18) (s : State) : Host.Outcome State Fault Refusal := .next (s.syllable (.fsub iss ops) iss)
def execFmul (iss : Issue) (ops : BitVec 18) (s : State) : Host.Outcome State Fault Refusal := .next (s.syllable (.fmul iss ops) iss)
def execFma (iss : Issue) (ops : BitVec 18) (s : State) : Host.Outcome State Fault Refusal := .next (s.syllable (.fma iss ops) iss)
def execFmin (iss : Issue) (ops : BitVec 18) (s : State) : Host.Outcome State Fault Refusal := .next (s.syllable (.fmin iss ops) iss)
def execFmax (iss : Issue) (ops : BitVec 18) (s : State) : Host.Outcome State Fault Refusal := .next (s.syllable (.fmax iss ops) iss)
def execFcmp (iss : Issue) (ops : BitVec 18) (s : State) : Host.Outcome State Fault Refusal := .next (s.syllable (.fcmp iss ops) iss)
def execMovi (iss : Issue) (ops : BitVec 18) (s : State) : Host.Outcome State Fault Refusal := .next (s.syllable (.movi iss ops) iss)
def execMovk (iss : Issue) (k : Fin 5) (ops : BitVec 18) (s : State) : Host.Outcome State Fault Refusal := .next (s.syllable (.movk iss k ops) iss)
def execAddi (iss : Issue) (ops : BitVec 18) (s : State) : Host.Outcome State Fault Refusal := .next (s.syllable (.addi iss ops) iss)
def execLdB (iss : Issue) (ops : BitVec 18) (s : State) : Host.Outcome State Fault Refusal := .next (s.syllable (.ldB iss ops) iss)
def execLdH (iss : Issue) (ops : BitVec 18) (s : State) : Host.Outcome State Fault Refusal := .next (s.syllable (.ldH iss ops) iss)
def execLdW (iss : Issue) (ops : BitVec 18) (s : State) : Host.Outcome State Fault Refusal := .next (s.syllable (.ldW iss ops) iss)
def execLdD (iss : Issue) (ops : BitVec 18) (s : State) : Host.Outcome State Fault Refusal := .next (s.syllable (.ldD iss ops) iss)
def execLdBu (iss : Issue) (ops : BitVec 18) (s : State) : Host.Outcome State Fault Refusal := .next (s.syllable (.ldBu iss ops) iss)
def execLdHu (iss : Issue) (ops : BitVec 18) (s : State) : Host.Outcome State Fault Refusal := .next (s.syllable (.ldHu iss ops) iss)
def execLdWu (iss : Issue) (ops : BitVec 18) (s : State) : Host.Outcome State Fault Refusal := .next (s.syllable (.ldWu iss ops) iss)
def execStB (iss : Issue) (ops : BitVec 18) (s : State) : Host.Outcome State Fault Refusal := .next (s.syllable (.stB iss ops) iss)
def execStH (iss : Issue) (ops : BitVec 18) (s : State) : Host.Outcome State Fault Refusal := .next (s.syllable (.stH iss ops) iss)
def execStW (iss : Issue) (ops : BitVec 18) (s : State) : Host.Outcome State Fault Refusal := .next (s.syllable (.stW iss ops) iss)
def execStD (iss : Issue) (ops : BitVec 18) (s : State) : Host.Outcome State Fault Refusal := .next (s.syllable (.stD iss ops) iss)
def execBr (iss : Issue) (ops : BitVec 18) (s : State) : Host.Outcome State Fault Refusal := .next (s.syllable (.br iss ops) iss)
def execCall (iss : Issue) (ops : BitVec 18) (s : State) : Host.Outcome State Fault Refusal := .next (s.syllable (.call iss ops) iss)
def execJmp (iss : Issue) (ops : BitVec 18) (s : State) : Host.Outcome State Fault Refusal := .next (s.syllable (.jmp iss ops) iss)
def execCallr (iss : Issue) (ops : BitVec 18) (s : State) : Host.Outcome State Fault Refusal := .next (s.syllable (.callr iss ops) iss)
def execLoop (iss : Issue) (ops : BitVec 18) (s : State) : Host.Outcome State Fault Refusal := .next (s.syllable (.loop iss ops) iss)
def execBeat (iss : Issue) (ops : BitVec 18) (s : State) : Host.Outcome State Fault Refusal := .next (s.syllable (.beat iss ops) iss)
def execBeatNext (iss : Issue) (ops : BitVec 18) (s : State) : Host.Outcome State Fault Refusal := .next (s.syllable (.beatNext iss ops) iss)
def execBeatR (iss : Issue) (ops : BitVec 18) (s : State) : Host.Outcome State Fault Refusal := .next (s.syllable (.beatR iss ops) iss)
def execKindleArm (iss : Issue) (ops : BitVec 18) (s : State) : Host.Outcome State Fault Refusal := .next (s.syllable (.kindleArm iss ops) iss)
def execKindleDisarm (iss : Issue) (ops : BitVec 18) (s : State) : Host.Outcome State Fault Refusal := .next (s.syllable (.kindleDisarm iss ops) iss)
def execHint (iss : Issue) (ops : BitVec 18) (s : State) : Host.Outcome State Fault Refusal := .next (s.syllable (.hint iss ops) iss)
def execStatRead (iss : Issue) (ops : BitVec 18) (s : State) : Host.Outcome State Fault Refusal := .next (s.syllable (.statRead iss ops) iss)
def execStatClr (iss : Issue) (ops : BitVec 18) (s : State) : Host.Outcome State Fault Refusal := .next (s.syllable (.statClr iss ops) iss)
def execStepend (iss : Issue) (ops : BitVec 18) (s : State) : Host.Outcome State Fault Refusal := .next (s.syllable (.stepend iss ops) iss)
def execBrk (iss : Issue) (ops : BitVec 18) (s : State) : Host.Outcome State Fault Refusal := .next (s.syllable (.brk iss ops) iss)
def execVaddF (iss : Issue) (ops : BitVec 18) (s : State) : Host.Outcome State Fault Refusal := .next (s.syllable (.vaddF iss ops) iss)
def execVsubF (iss : Issue) (ops : BitVec 18) (s : State) : Host.Outcome State Fault Refusal := .next (s.syllable (.vsubF iss ops) iss)
def execVmulF (iss : Issue) (ops : BitVec 18) (s : State) : Host.Outcome State Fault Refusal := .next (s.syllable (.vmulF iss ops) iss)
def execVfmaF (iss : Issue) (ops : BitVec 18) (s : State) : Host.Outcome State Fault Refusal := .next (s.syllable (.vfmaF iss ops) iss)
def execVminF (iss : Issue) (ops : BitVec 18) (s : State) : Host.Outcome State Fault Refusal := .next (s.syllable (.vminF iss ops) iss)
def execVmaxF (iss : Issue) (ops : BitVec 18) (s : State) : Host.Outcome State Fault Refusal := .next (s.syllable (.vmaxF iss ops) iss)
def execVabsF (iss : Issue) (ops : BitVec 18) (s : State) : Host.Outcome State Fault Refusal := .next (s.syllable (.vabsF iss ops) iss)
def execVnegF (iss : Issue) (ops : BitVec 18) (s : State) : Host.Outcome State Fault Refusal := .next (s.syllable (.vnegF iss ops) iss)
def execVaddI (iss : Issue) (ops : BitVec 18) (s : State) : Host.Outcome State Fault Refusal := .next (s.syllable (.vaddI iss ops) iss)
def execVsubI (iss : Issue) (ops : BitVec 18) (s : State) : Host.Outcome State Fault Refusal := .next (s.syllable (.vsubI iss ops) iss)
def execVmulI (iss : Issue) (ops : BitVec 18) (s : State) : Host.Outcome State Fault Refusal := .next (s.syllable (.vmulI iss ops) iss)
def execVmadI (iss : Issue) (ops : BitVec 18) (s : State) : Host.Outcome State Fault Refusal := .next (s.syllable (.vmadI iss ops) iss)
def execVand (iss : Issue) (ops : BitVec 18) (s : State) : Host.Outcome State Fault Refusal := .next (s.syllable (.vand iss ops) iss)
def execVor (iss : Issue) (ops : BitVec 18) (s : State) : Host.Outcome State Fault Refusal := .next (s.syllable (.vor iss ops) iss)
def execVxor (iss : Issue) (ops : BitVec 18) (s : State) : Host.Outcome State Fault Refusal := .next (s.syllable (.vxor iss ops) iss)
def execVshl (iss : Issue) (ops : BitVec 18) (s : State) : Host.Outcome State Fault Refusal := .next (s.syllable (.vshl iss ops) iss)
def execVshr (iss : Issue) (ops : BitVec 18) (s : State) : Host.Outcome State Fault Refusal := .next (s.syllable (.vshr iss ops) iss)
def execVsra (iss : Issue) (ops : BitVec 18) (s : State) : Host.Outcome State Fault Refusal := .next (s.syllable (.vsra iss ops) iss)
def execVminI (iss : Issue) (ops : BitVec 18) (s : State) : Host.Outcome State Fault Refusal := .next (s.syllable (.vminI iss ops) iss)
def execVmaxI (iss : Issue) (ops : BitVec 18) (s : State) : Host.Outcome State Fault Refusal := .next (s.syllable (.vmaxI iss ops) iss)
def execVsel (iss : Issue) (ops : BitVec 18) (s : State) : Host.Outcome State Fault Refusal := .next (s.syllable (.vsel iss ops) iss)
def execVld (iss : Issue) (ops : BitVec 18) (s : State) : Host.Outcome State Fault Refusal := .next (s.syllable (.vld iss ops) iss)
def execVst (iss : Issue) (ops : BitVec 18) (s : State) : Host.Outcome State Fault Refusal := .next (s.syllable (.vst iss ops) iss)
def execVperm (iss : Issue) (ops : BitVec 18) (s : State) : Host.Outcome State Fault Refusal := .next (s.syllable (.vperm iss ops) iss)
def execVrot (iss : Issue) (ops : BitVec 18) (s : State) : Host.Outcome State Fault Refusal := .next (s.syllable (.vrot iss ops) iss)
def execVbcast (iss : Issue) (ops : BitVec 18) (s : State) : Host.Outcome State Fault Refusal := .next (s.syllable (.vbcast iss ops) iss)
def execVredAddF (iss : Issue) (ops : BitVec 18) (s : State) : Host.Outcome State Fault Refusal := .next (s.syllable (.vredAddF iss ops) iss)
def execVredAddI (iss : Issue) (ops : BitVec 18) (s : State) : Host.Outcome State Fault Refusal := .next (s.syllable (.vredAddI iss ops) iss)
def execVredMaxF (iss : Issue) (ops : BitVec 18) (s : State) : Host.Outcome State Fault Refusal := .next (s.syllable (.vredMaxF iss ops) iss)
def execVredMinF (iss : Issue) (ops : BitVec 18) (s : State) : Host.Outcome State Fault Refusal := .next (s.syllable (.vredMinF iss ops) iss)
def execVext (iss : Issue) (ops : BitVec 18) (s : State) : Host.Outcome State Fault Refusal := .next (s.syllable (.vext iss ops) iss)
def execVins (iss : Issue) (ops : BitVec 18) (s : State) : Host.Outcome State Fault Refusal := .next (s.syllable (.vins iss ops) iss)
def execVcmpF (iss : Issue) (ops : BitVec 18) (s : State) : Host.Outcome State Fault Refusal := .next (s.syllable (.vcmpF iss ops) iss)
def execVcmpI (iss : Issue) (ops : BitVec 18) (s : State) : Host.Outcome State Fault Refusal := .next (s.syllable (.vcmpI iss ops) iss)
def execPand (iss : Issue) (ops : BitVec 18) (s : State) : Host.Outcome State Fault Refusal := .next (s.syllable (.pand iss ops) iss)
def execPor (iss : Issue) (ops : BitVec 18) (s : State) : Host.Outcome State Fault Refusal := .next (s.syllable (.por iss ops) iss)
def execPxor (iss : Issue) (ops : BitVec 18) (s : State) : Host.Outcome State Fault Refusal := .next (s.syllable (.pxor iss ops) iss)
def execPandn (iss : Issue) (ops : BitVec 18) (s : State) : Host.Outcome State Fault Refusal := .next (s.syllable (.pandn iss ops) iss)
def execPmovG (iss : Issue) (ops : BitVec 18) (s : State) : Host.Outcome State Fault Refusal := .next (s.syllable (.pmovG iss ops) iss)
def execPmovP (iss : Issue) (ops : BitVec 18) (s : State) : Host.Outcome State Fault Refusal := .next (s.syllable (.pmovP iss ops) iss)
def execMmaKaf (iss : Issue) (ops : BitVec 18) (s : State) : Host.Outcome State Fault Refusal := .next (s.syllable (.mmaKaf iss ops) iss)
def execMmaF32 (iss : Issue) (ops : BitVec 18) (s : State) : Host.Outcome State Fault Refusal := .next (s.syllable (.mmaF32 iss ops) iss)
def execMwin (iss : Issue) (ops : BitVec 18) (s : State) : Host.Outcome State Fault Refusal := .next (s.syllable (.mwin iss ops) iss)
def execMrwin (iss : Issue) (ops : BitVec 18) (s : State) : Host.Outcome State Fault Refusal := .next (s.syllable (.mrwin iss ops) iss)
def execMzeroF (iss : Issue) (ops : BitVec 18) (s : State) : Host.Outcome State Fault Refusal := .next (s.syllable (.mzeroF iss ops) iss)
def execMst (iss : Issue) (ops : BitVec 18) (s : State) : Host.Outcome State Fault Refusal := .next (s.syllable (.mst iss ops) iss)
def execMstk (iss : Issue) (ops : BitVec 18) (s : State) : Host.Outcome State Fault Refusal := .next (s.syllable (.mstk iss ops) iss)
def execMldk (iss : Issue) (ops : BitVec 18) (s : State) : Host.Outcome State Fault Refusal := .next (s.syllable (.mldk iss ops) iss)
def execCvt (iss : Issue) (mods : BitVec 6) (ops : BitVec 18) (s : State) : Host.Outcome State Fault Refusal := .next (s.syllable (.cvt iss mods ops) iss)
def execDmaLd (iss : Issue) (ops : BitVec 18) (s : State) : Host.Outcome State Fault Refusal := .next (s.syllable (.dmaLd iss ops) iss)
def execDmaSt (iss : Issue) (ops : BitVec 18) (s : State) : Host.Outcome State Fault Refusal := .next (s.syllable (.dmaSt iss ops) iss)
def execDmaFence (iss : Issue) (ops : BitVec 18) (s : State) : Host.Outcome State Fault Refusal := .next (s.syllable (.dmaFence iss ops) iss)
def execSend (iss : Issue) (ops : BitVec 18) (s : State) : Host.Outcome State Fault Refusal := .next (s.syllable (.send iss ops) iss)
def execRecv (iss : Issue) (ops : BitVec 18) (s : State) : Host.Outcome State Fault Refusal := .next (s.syllable (.recv iss ops) iss)
def execCredit (iss : Issue) (ops : BitVec 18) (s : State) : Host.Outcome State Fault Refusal := .next (s.syllable (.credit iss ops) iss)
def execRputT (iss : Issue) (ops : BitVec 18) (s : State) : Host.Outcome State Fault Refusal := .next (s.syllable (.rputT iss ops) iss)
def execRputS (iss : Issue) (ops : BitVec 18) (s : State) : Host.Outcome State Fault Refusal := .next (s.syllable (.rputS iss ops) iss)

end Sys2Proof.Machine
end

