-- ==== Sys2Proof/Machine/TrayExec.lean ====
section
/-! DEFINITION. The commands of the tray serial link (R565 to R573), PMBus (R574), I3C (R575) and the test access port (R605, R606). -/

namespace Sys2Proof.Machine

/-! Requests of the rack (R569). -/

/-- A field of a payload: n bytes at an offset, little-endian. -/
def payNat (p : List Byte) (a n : Nat) : Nat := leNat ((p.drop a).take n)

/-- A request whose payload must hold n bytes: a shorter one is answered BADARG (log entry 96). -/
def State.tslPayload (s : State) (type seq n : Nat) (p : List Byte) (act : State → State) : State :=
  s.byRack type seq p fun s => if p.length < n then s.tslAnswer type seq 5 0 [] else act s

def State.tslStatus (s : State) (seq : Nat) : State :=
  s.byRack 0x01 seq [] fun s =>
    let s := s.tslAnswer 0x01 seq 0 0 s.statusPayload
    { s with tray := { s.tray with lostSince := false } }

def execTslStatus (seq : BitVec 16) (s : State) : Host.Outcome State Fault Refusal := .next (s.tslStatus seq.toNat)

/-- R569: why an IDENT is refused: 5 BADARG, 6 REFUSED_STATE, 0 accepted. -/
def State.identRefusal (s : State) (p : List Byte) : Nat :=
  let chip := payNat p 0 1
  if 2000 < payNat p 6 2 ∨ 7 < payNat p 4 1 then 5
  else if bit (payNat p 1 1) 0 = false then 0
  else if s.fab.chipValid then (if chip ≠ s.fab.chipId.toNat ∧ s.liveSlots.any (fun n => (s.slot n).claims) then 6 else 0)
  else if chip ≠ 0 ∧ s.liveSlots.any (fun n => (s.slot n).claims && (s.slot n).noChip) then 6 else 0

/-- R585: the first CHIP_ID after an INIT is compared with the kept one. -/
def State.identKeep (s : State) (chip : Nat) : State :=
  if s.up.identDone then s
  else
    let k := (s.keep keepSvc).toNat
    let was := bit k 27
    let same := was && decide (bits k 35 28 = chip)
    let s := if same then s else s.keepWrite keepSvc (BitVec.ofNat 64 (bits k 26 0 + field 1 1 27 + field chip 8 28))
    { s with up := { s.up with identDone := true, renumbered := s.up.renumbered || (was && !same) } }

/-- R241: with a chip number the ports whose exchange is complete come up. -/
def State.setChip (s : State) (chip : Nat) : State :=
  let s := { s with fab := { s.fab with chipId := BitVec.ofNat 8 chip, chipValid := true } }.identKeep chip
  (List.range 18).foldl (fun a k => a.comeUp k) s

def State.ident (s : State) (seq : Nat) (p : List Byte) : State :=
  s.tslPayload 0x02 seq 8 p fun s =>
    let r := s.identRefusal p
    if r ≠ 0 then s.tslAnswer 0x02 seq r 0 []
    else
      let f := payNat p 1 1
      let s := if bit f 0 then s.setChip (payNat p 0 1) else s
      let s := if bit f 1 then s.setOffset (payNat p 2 2) true else s
      let s := if bit f 2 then s.setSlotPh (payNat p 4 1) true else s
      let s := if bit f 3 then { s with tray := { s.tray with rtDelay := payNat p 6 2 } } else s
      s.tslAnswer 0x02 seq 0 0 []

def execIdent (seq : BitVec 16) (p : List Byte) (s : State) : Host.Outcome State Fault Refusal := .next (s.ident seq.toNat p)

/-- TRAJ (R431). -/
def State.traj (s : State) (seq : Nat) (p : List Byte) : State :=
  s.byRack 0x03 seq p fun s =>
    let n := payNat p 2 1
    if n = 0 ∨ 32 < n ∨ p.length ≠ 4 + 12 * n then s.tslAnswer 0x03 seq 5 0 []
    else
      let ps := (List.range n).map fun i => ({ rt := payNat p (4 + 12 * i) 8, w := payNat p (12 + 12 * i) 2 } : TrajPoint)
      let t := s.takeTraj (payNat p 0 2) ps
      if s.trajOk ps then t.tslAnswer 0x03 seq 0 0 []
      else t.tslAnswer 0x03 seq 3 (if ascending ps then 2 else 1) []

def execTraj (seq : BitVec 16) (p : List Byte) (s : State) : Host.Outcome State Fault Refusal := .next (s.traj seq.toNat p)

/-- CEILING, from the host or the rack (R414, R439). -/
def State.ceilingOrder (s : State) (by_ : Requester) (w : Nat) : State :=
  match by_ with
  | .host fn => s.gated fn 0x82000 fun s => if s.ptc.switching then s else s.setCeiling w false
  | .rack q => s.byRack 0x04 q.toNat [] fun s =>
    if w < 600 ∨ 2900 < w then s.tslAnswer 0x04 q.toNat 5 0 [] else (s.setCeiling w true).tslAnswer 0x04 q.toNat 0 0 []

def execCeiling (by_ : Requester) (w : BitVec 16) (s : State) : Host.Outcome State Fault Refusal :=
  .next (s.ceilingOrder by_ (match by_ with
    | .host _ => w.toNat % 4096
    | .rack _ => w.toNat))

/-- A membership entry as a word (R255). -/
def Member.word (m : Member) : Nat := field m.chip 8 0 + field m.gen 8 8 + m.ports.toNat * 65536

/-- MEMB_READ; a slot that does not exist is BADARG (R4). -/
def State.membRead (s : State) (seq : Nat) (p : List Byte) : State :=
  s.tslPayload 0x07 seq 4 p fun s =>
    let x := s.slot (payNat p 0 2)
    if 1023 < payNat p 0 2 then s.tslAnswer 0x07 seq 5 0 []
    else if x.state = .free then s.tslAnswer 0x07 seq 6 0 []
    else
      let es := (x.members.drop (payNat p 2 2)).take 32
      s.tslAnswer 0x07 seq 0 0 (toLE 1 x.state.code ++ toLE 1 x.gen.toNat ++ toLE 2 x.job.toNat ++ toLE 2 x.members.length ++
        List.replicate 12 0#8 ++ es.flatMap fun m => toLE 8 m.word)

def execMembRead (seq : BitVec 16) (p : List Byte) (s : State) : Host.Outcome State Fault Refusal := .next (s.membRead seq.toNat p)

/-- JOB_ABORT: ABORT for the slot that carries the job. -/
def State.jobAbort (s : State) (seq : Nat) (p : List Byte) : State :=
  s.tslPayload 0x08 seq 2 p fun s =>
    let hit := s.liveSlots.find? fun n =>
      let x := s.slot n
      decide (x.job.toNat = payNat p 0 2) && (decide (x.state = .loaded) || decide (x.state = .running) || decide (x.state = .parked))
    match hit with
    | none => s.tslAnswer 0x08 seq 6 0 []
    | some n => ((s.abortCtx n 0x09 0xFF).settle).tslAnswer 0x08 seq 0 0 []

def execJobAbort (seq : BitVec 16) (p : List Byte) (s : State) : Host.Outcome State Fault Refusal := .next (s.jobAbort seq.toNat p)

/-- REC_READ (R529). -/
def State.recRead (s : State) (seq : Nat) (p : List Byte) : State :=
  s.tslPayload 0x09 seq 6 p fun s =>
    let seg := payNat p 0 1
    let a := payNat p 2 2
    let n := payNat p 4 2
    if 127 < seg ∨ a % 8 ≠ 0 ∨ n % 8 ≠ 0 ∨ n < 8 ∨ 256 < n ∨ 0x8000 < a + n then s.tslAnswer 0x09 seq 5 0 []
    else
      let r := s.recorder
      let base := seg * 0x8000 + a
      s.tslAnswer 0x09 seq 0 0 (toLE 8 (r.head + r.nextSeq.toNat * 2 ^ 32) ++ toLE 8 (r.tail + r.tailSeq.toNat * 2 ^ 32) ++
        (List.range (n / 8)).flatMap fun i => toLE 8 (r.wordAt (base + 8 * i)).toNat)

def execRecRead (seq : BitVec 16) (p : List Byte) (s : State) : Host.Outcome State Fault Refusal := .next (s.recRead seq.toNat p)
def execKeepalive (seq : BitVec 16) (s : State) : Host.Outcome State Fault Refusal := .next (s.byRack 0x0B seq.toNat [] fun s => s.tslAnswer 0x0B seq.toNat 0 0 [])

/-! The link itself (R567, R568, R571, R572). -/

/-- The operations of the PTC command set (R485). -/
def ptcOps : List Nat := [0, 1, 2, 3, 4, 5, 0x10, 0x11, 0x12, 0x18, 0x19]

/-- R567, R568: a frame from the rack: TYPE, SEQ and payload, none where its CRC fails, LEN exceeds 512 or it ends early. -/
def tslParse (bs : List Byte) : Option (Nat × Nat × List Byte) :=
  let len := payNat bs 4 2
  let body := bs.take (8 + len)
  if 512 < len ∨ bs.length ≠ 12 + len ∨ payNat bs (8 + len) 4 ≠ (crc32c body).toNat then none
  else some (payNat bs 0 1, payNat bs 2 2, body.drop 8)

/-- R567 to R569: a frame is checked; a repeat gets the stored response; a request that no command stands for is answered BADARG, as R485 answers
an unknown OP; the others wait in the queue. -/
def State.tslReceive (s : State) (bs : List Byte) : State :=
  s.onTray fun s =>
    match tslParse bs with
    | none => { s with tray := { s.tray with badFrames := satAdd 0xFFFF s.tray.badFrames 1 } }
    | some (type, seq, p) =>
      let s := { s with tray := { s.tray with link := true, heardAt := s.lt } }
      let op := payNat p 0 1
      match s.tray.stored.find? fun r => decide (r.type = type) && decide (r.seq = seq) with
      | some r => if s.ptc.hasActive then s.emit (.tray (tslFrame type 1 seq r.status r.reason r.payload)) else s
      | none =>
        if s.tray.queue.any fun q => decide (q.1 = type) && decide (q.2.1 = seq) then s
        else if type = 0 ∨ 0x0B < type ∨ (type = 6 ∧ (op < 3 ∨ 5 < op)) then s.tslAnswer type seq 5 0 []
        else if 4 ≤ s.tray.queue.length then s.tslAnswer type seq 4 0 []
        else
          let t := { s with tray := { s.tray with queue := s.tray.queue ++ [(type, seq, p)] } }
          if type = 5 ∧ op ∉ ptcOps then
            let iss : PtcIssue := { rack := true, func := 0, seq := BitVec.ofNat 16 seq, tag := BitVec.ofNat 16 (payNat p 2 2) }
            t.ptcMeet iss op fun s => s.ptcEnd iss op (BitVec.ofNat 64 (payNat p 8 8)) .badarg 0
          else t

def execTslFrameReceive (bytes : List Byte) (s : State) : Host.Outcome State Fault Refusal := .next (s.tslReceive bytes)

/-- One entry of a TELEM frame. -/
def TelFast.bytes (e : TelFast) : List Byte :=
  toLE 2 e.meas ++ toLE 2 e.tgt ++ toLE 2 (BitVec.ofInt 16 e.store).toNat ++ toLE 2 e.fwd

/-- R571: TELEM: the last eight entries of R437, oldest first. -/
def State.telem (s : State) : State :=
  let es := (List.range 8).map fun i => Tbl.get TelFast.reset s.draw.tel ((s.draw.telCount + 248 + i) % 256)
  s.onTray fun s => s.unsol 0x40 (toLE 8 (es.headD TelFast.reset).rt.toNat ++ es.flatMap TelFast.bytes)

def execTelem (s : State) : Host.Outcome State Fault Refusal := .next s.telem

/-- R432, R568, R572: no valid frame for 10 ms LT: the link is lost, and the trajectories end. -/
def State.linkLost (s : State) : State :=
  if s.tray.link && decide (s.tray.heardAt + 10000000 ≤ s.lt) then
    { s with tray := { s.tray with link := false, linkLosses := satAdd 0xFFFF s.tray.linkLosses 1, lostSince := true } }.modDraw
      fun d => { d with traj := none, pend := none }
  else s

def execTslLinkLost (s : State) : Host.Outcome State Fault Refusal := .next s.linkLost

/-! PMBus (R574). The layouts of its status bytes and formats are PMBus 1.4's. -/

def State.pmReply (s : State) (bs : List Byte) : State := s.onTray fun s => s.emit (.pmbus bs)
def State.setCml (s : State) (b : Nat) : State := s.onTray fun s => { s with tray := { s.tray with stCml := s.tray.stCml ||| b } }

/-- The mantissa of num ÷ den at an exponent from −16 up; the first that fits 10 bits. -/
def linearFrom (num den : Nat) : Nat → Nat → Nat
  | 0, k => k * 2048 + 1023
  | n + 1, k => let m := openDiv (num * 65536) (den * 2 ^ k)
                if m < 1024 then (if k < 16 then k + 16 else k - 16) * 2048 + m else linearFrom num den n (k + 1)

/-- LINEAR11: a 5-bit exponent and an 11-bit mantissa, the finest exponent that holds the value (log entry 14). -/
def linear11 (num den : Nat) : List Byte := toLE 2 (linearFrom num den 31 0)

/-- A block reply: the count, then the bytes. -/
def blockOf (bs : List Byte) : List Byte := toLE 1 bs.length ++ bs
def ascii (t : List Nat) : List Byte := t.map (BitVec.ofNat 8)

/-- A write whose packet error code is wrong has no effect but its status bit. -/
def State.pmWrite (s : State) (pecOk : Bool) (act : State → State) : State := if pecOk then s.onTray act else s.setCml 0x20

def execOperation (write pecOk : Bool) (s : State) : Host.Outcome State Fault Refusal :=
  .next (if write then s.pmWrite pecOk fun s => s.setCml 0x80 else s.pmReply [0x80#8])

def execClearFaults (pecOk : Bool) (s : State) : Host.Outcome State Fault Refusal :=
  .next (s.pmWrite pecOk fun s => { s with tray := { s.tray with stInput := 0, stTemp := 0, stCml := 0 } })

def execCapability (s : State) : Host.Outcome State Fault Refusal := .next (s.pmReply [0xC0#8])

/-- STATUS_BYTE: VIN_UV bit 3, TEMPERATURE bit 2, CML bit 1, none of the above bit 0. -/
def Tray.statusByte (t : Tray) : Nat :=
  flag1 (bit t.stInput 4) 3 + flag1 (decide (t.stTemp ≠ 0)) 2 + flag1 (decide (t.stCml ≠ 0)) 1 + flag1 (decide (t.stInput / 32 + t.stInput % 16 ≠ 0)) 0

def execStatusByte (s : State) : Host.Outcome State Fault Refusal := .next (s.pmReply (toLE 1 s.tray.statusByte))

def execStatusWord (s : State) : Host.Outcome State Fault Refusal :=
  .next (s.pmReply (toLE 1 s.tray.statusByte ++ toLE 1 (flag1 (decide (s.tray.stInput ≠ 0)) 5)))

def execStatusInput (s : State) : Host.Outcome State Fault Refusal := .next (s.pmReply (toLE 1 s.tray.stInput))
def execStatusTemperature (s : State) : Host.Outcome State Fault Refusal := .next (s.pmReply (toLE 1 s.tray.stTemp))
def execStatusCml (s : State) : Host.Outcome State Fault Refusal := .next (s.pmReply (toLE 1 s.tray.stCml))

/-- READ_EIN: accumulator of 15 bits, rollover count, sample count. -/
def execReadEin (s : State) : Host.Outcome State Fault Refusal :=
  .next (s.pmReply (blockOf (toLE 2 (s.tray.ein % 32768) ++ toLE 1 (s.tray.ein / 32768 % 256) ++ toLE 3 (s.tray.einN % 2 ^ 24))))

def execReadVin (s : State) : Host.Outcome State Fault Refusal := .next (s.pmReply (linear11 s.draw.avgMs.v 1000))
def execReadIin (s : State) : Host.Outcome State Fault Refusal := .next (s.pmReply (linear11 s.draw.avgMs.i 100))
def execReadPin (s : State) : Host.Outcome State Fault Refusal := .next (s.pmReply (linear11 s.draw.avgMs.p 1))
def execReadTemperature1 (s : State) : Host.Outcome State Fault Refusal := .next (s.pmReply (linear11 s.draw.avgMs.t 1))
def execPmbusRevision (s : State) : Host.Outcome State Fault Refusal := .next (s.pmReply [0x44#8])

/-- "Keavor" and "KV-DXM2-A". -/
def execMfrId (s : State) : Host.Outcome State Fault Refusal := .next (s.pmReply (blockOf (ascii [75, 101, 97, 118, 111, 114])))
def execMfrModel (s : State) : Host.Outcome State Fault Refusal := .next (s.pmReply (blockOf (ascii [75, 86, 45, 68, 88, 77, 50, 45, 65])))
def execMfrSerial (s : State) : Host.Outcome State Fault Refusal := .next (s.pmReply (blockOf (toLE 8 s.host.serial.toNat)))
def execMfrVinMin (s : State) : Host.Outcome State Fault Refusal := .next (s.pmReply (linear11 44 1))
def execMfrVinMax (s : State) : Host.Outcome State Fault Refusal := .next (s.pmReply (linear11 58 1))
def execMfrPinMax (s : State) : Host.Outcome State Fault Refusal := .next (s.pmReply (linear11 2900 1))
def execMfrPeakPin (s : State) : Host.Outcome State Fault Refusal := .next (s.pmReply (linear11 s.draw.rackPeaks.p 1))
def execMfrPeakIin (s : State) : Host.Outcome State Fault Refusal := .next (s.pmReply (linear11 s.draw.rackPeaks.i 100))
def execMfrMinVin (s : State) : Host.Outcome State Fault Refusal := .next (s.pmReply (linear11 s.draw.rackPeaks.v 1000))
def execMfrPeakTemp (s : State) : Host.Outcome State Fault Refusal := .next (s.pmReply (linear11 s.draw.rackPeaks.t 1))

/-- R438, R574: a new hold of the rack's own peaks. -/
def execMfrPeakReset (pecOk : Bool) (s : State) : Host.Outcome State Fault Refusal :=
  .next (s.pmWrite pecOk fun s => s.modDraw fun d => { d with rackPeaks := Peaks.reset })

def execPmbusUnsupported (pecOk : Bool) (s : State) : Host.Outcome State Fault Refusal := .next (s.pmWrite pecOk fun s => s.setCml 0x80)

/-! I3C (R575). -/

def State.modTray (s : State) (f : Tray → Tray) : State := { s with tray := f s.tray }

/-- SETDASA: the static address is 0x30 + SLOT_ID; a target that has a dynamic address keeps it. -/
def execSetdasa (static dyn : BitVec 7) (s : State) : Host.Outcome State Fault Refusal :=
  .next (s.onTray fun s => s.modTray fun t =>
    if static.toNat = 0x30 + t.slotId ∧ t.dynAddr = none then { t with dynAddr := some dyn } else t)

def execRstdaa (s : State) : Host.Outcome State Fault Refusal := .next (s.onTray fun s => s.modTray fun t => { t with dynAddr := none })

/-- A command code is for this target: broadcast, or directed at its dynamic address. -/
def Tray.addressed (t : Tray) (addr : Option (BitVec 7)) : Bool := addr.isNone || (addr.isSome && decide (addr = t.dynAddr))

def State.setIbi (s : State) (addr : Option (BitVec 7)) (events : BitVec 8) (on : Bool) : State :=
  s.onTray fun s => s.modTray fun t => if t.addressed addr && events.getLsbD 0 then { t with ibi := on } else t

def execEnec (addr : Option (BitVec 7)) (events : BitVec 8) (s : State) : Host.Outcome State Fault Refusal := .next (s.setIbi addr events true)
def execDisec (addr : Option (BitVec 7)) (events : BitVec 8) (s : State) : Host.Outcome State Fault Refusal := .next (s.setIbi addr events false)

/-- GETSTATUS: no interrupt pends and no protocol error; the vendor byte and the activity mode are open. -/
def State.getStatus (s : State) (addr : BitVec 7) : State :=
  s.onTray fun s =>
    if s.tray.dynAddr = some addr then
      let a := s.draw1
      a.2.emit (.i3c (toLE 1 (a.1 % 256) ++ toLE 1 (a.1 / 256 % 4 * 64)))
    else s

def execGetstatus (addr : BitVec 7) (s : State) : Host.Outcome State Fault Refusal := .next (s.getStatus addr)

/-- A sensor in its unit of R575; indexes 0 to 2 are measured and stored by the read, the others follow the telemetry. -/
def State.sensor (s : State) (i : Nat) : Int :=
  let hot := fun die => ((List.range 432).filter fun k => dieOfRegion k = die).foldl (fun m k => max m (s.region k).temp) 0
  let tmax := fun b => match (s.carts.bay b).temps with
    | [] => 0
    | t :: ts => ts.foldl max t
  if i < 3 then Tbl.get 0 s.tray.sensors i
  else if i = 3 then (10 * hot 0 : Nat) else if i = 4 then (10 * hot 1 : Nat)
  else if i = 5 then 10 * tmax 0 else if i = 6 then 10 * tmax 1
  else if i = 7 then (s.cool.dp : Nat) else 0

def State.sensorRead (s : State) (addr : BitVec 7) (i : Nat) (v : Int) : State :=
  s.onTray fun s =>
    if s.tray.dynAddr = some addr then
      let s := if i < 3 then s.modTray fun t => { t with sensors := Tbl.set 0 t.sensors i v } else s
      s.emit (.i3c (toLE 2 (BitVec.ofInt 16 (s.sensor i)).toNat))
    else s

def execSensorRead (addr : BitVec 7) (index : BitVec 8) (v : BitVec 16) (s : State) : Host.Outcome State Fault Refusal :=
  .next (s.sensorRead addr index.toNat v.toInt)

/-- R575: indexes 3 and 4 at 95.0 °C, 5 and 6 at 65.0 °C; again only after a fall of 5 °C below. -/
def State.sensorIbi (s : State) (i : Nat) : State :=
  let v := s.sensor i
  let lim : Int := if i < 5 then 950 else 650
  let off := Tbl.get false s.tray.armedOff i
  s.onTray fun s =>
    if v ≤ lim - 50 then s.modTray fun t => { t with armedOff := Tbl.set false t.armedOff i false }
    else if lim ≤ v ∧ off = false ∧ s.tray.ibi = true ∧ s.tray.dynAddr.isSome then
      (s.modTray fun t => { t with armedOff := Tbl.set false t.armedOff i true }).emit (.i3c (toLE 1 i))
    else s

def execSensorThresholdIbi (k : Fin 4) (s : State) : Host.Outcome State Fault Refusal := .next (s.sensorIbi (3 + k.val))

/-! The test access port (R605, R606). `pins` is what the contacts show, `data` what is shifted in. -/

def State.modTap (s : State) (f : Tap → Tap) : State := { s with tap := f s.tap }

/-- The bits of a register, least significant first. -/
def tdoBits (n w : Nat) : List Bool := (List.range n).map fun i => w.testBit i

/-- R606: EXTEST, CLAMP and HIGHZ act only in BENCHED, or in INIT before step 7; elsewhere they select BYPASS, with a record. -/
def State.tapActs (s : State) : Bool :=
  decide (s.svc = .benched) || (decide (s.svc = .init) && decide (s.up.started = 0))

def State.tapGuard (s : State) (act : State → State) : State :=
  s.onTray fun s => if s.tapActs then act s else (s.modTap fun t => { t with instr := .bypass }).recordOpen []

def execExtest (pins data : BitVec 212) (s : State) : Host.Outcome State Fault Refusal :=
  .next (s.tapGuard fun s => (s.modTap fun t => { t with instr := .extest, boundary := data }).emit (.tdo (tdoBits 212 pins.toNat)))

def execIdcode (s : State) : Host.Outcome State Fault Refusal :=
  .next (s.onTray fun s => (s.modTap fun t => { t with instr := .idcode }).emit (.tdo (tdoBits 32 0x1D200B5D)))

def execSamplePreload (pins data : BitVec 212) (s : State) : Host.Outcome State Fault Refusal :=
  .next (s.onTray fun s => (s.modTap fun t => { t with instr := .samplePreload, boundary := data }).emit (.tdo (tdoBits 212 pins.toNat)))

def execClamp (s : State) : Host.Outcome State Fault Refusal := .next (s.tapGuard fun s => s.modTap fun t => { t with instr := .clamp })
def execHighz (s : State) : Host.Outcome State Fault Refusal := .next (s.tapGuard fun s => s.modTap fun t => { t with instr := .highz })

/-- BYPASS, and every code that R605 does not list: one bit, which captures 0. -/
def execBypass (s : State) : Host.Outcome State Fault Refusal :=
  .next (s.onTray fun s => (s.modTap fun t => { t with instr := .bypass }).emit (.tdo [false]))

end Sys2Proof.Machine
end

