-- ==== Sys2Proof/Machine/Dispatch.lean ====
section
/-! DEFINITION. The dispatcher: one arm per command, each one direct call of its meaning. -/

namespace Sys2Proof.Machine

/-- The effect of a command on everything but the queue. -/
def exec (i : Instr) (s : State) : Host.Outcome State Fault Refusal :=
  match i with
  | .nop iss grp op ops => Sys2Proof.Machine.execNop iss grp op ops s
  | .add iss ops => Sys2Proof.Machine.execAdd iss ops s
  | .sub iss ops => Sys2Proof.Machine.execSub iss ops s
  | .and iss ops => Sys2Proof.Machine.execAnd iss ops s
  | .or iss ops => Sys2Proof.Machine.execOr iss ops s
  | .xor iss ops => Sys2Proof.Machine.execXor iss ops s
  | .shl iss ops => Sys2Proof.Machine.execShl iss ops s
  | .shr iss ops => Sys2Proof.Machine.execShr iss ops s
  | .sra iss ops => Sys2Proof.Machine.execSra iss ops s
  | .mul iss ops => Sys2Proof.Machine.execMul iss ops s
  | .mulh iss ops => Sys2Proof.Machine.execMulh iss ops s
  | .mulhu iss ops => Sys2Proof.Machine.execMulhu iss ops s
  | .div iss ops => Sys2Proof.Machine.execDiv iss ops s
  | .divu iss ops => Sys2Proof.Machine.execDivu iss ops s
  | .rem iss ops => Sys2Proof.Machine.execRem iss ops s
  | .remu iss ops => Sys2Proof.Machine.execRemu iss ops s
  | .min iss ops => Sys2Proof.Machine.execMin iss ops s
  | .max iss ops => Sys2Proof.Machine.execMax iss ops s
  | .minu iss ops => Sys2Proof.Machine.execMinu iss ops s
  | .maxu iss ops => Sys2Proof.Machine.execMaxu iss ops s
  | .mov iss ops => Sys2Proof.Machine.execMov iss ops s
  | .clz iss ops => Sys2Proof.Machine.execClz iss ops s
  | .popc iss ops => Sys2Proof.Machine.execPopc iss ops s
  | .cmp iss ops => Sys2Proof.Machine.execCmp iss ops s
  | .fadd iss ops => Sys2Proof.Machine.execFadd iss ops s
  | .fsub iss ops => Sys2Proof.Machine.execFsub iss ops s
  | .fmul iss ops => Sys2Proof.Machine.execFmul iss ops s
  | .fma iss ops => Sys2Proof.Machine.execFma iss ops s
  | .fmin iss ops => Sys2Proof.Machine.execFmin iss ops s
  | .fmax iss ops => Sys2Proof.Machine.execFmax iss ops s
  | .fcmp iss ops => Sys2Proof.Machine.execFcmp iss ops s
  | .movi iss ops => Sys2Proof.Machine.execMovi iss ops s
  | .movk iss k ops => Sys2Proof.Machine.execMovk iss k ops s
  | .addi iss ops => Sys2Proof.Machine.execAddi iss ops s
  | .ldB iss ops => Sys2Proof.Machine.execLdB iss ops s
  | .ldH iss ops => Sys2Proof.Machine.execLdH iss ops s
  | .ldW iss ops => Sys2Proof.Machine.execLdW iss ops s
  | .ldD iss ops => Sys2Proof.Machine.execLdD iss ops s
  | .ldBu iss ops => Sys2Proof.Machine.execLdBu iss ops s
  | .ldHu iss ops => Sys2Proof.Machine.execLdHu iss ops s
  | .ldWu iss ops => Sys2Proof.Machine.execLdWu iss ops s
  | .stB iss ops => Sys2Proof.Machine.execStB iss ops s
  | .stH iss ops => Sys2Proof.Machine.execStH iss ops s
  | .stW iss ops => Sys2Proof.Machine.execStW iss ops s
  | .stD iss ops => Sys2Proof.Machine.execStD iss ops s
  | .br iss ops => Sys2Proof.Machine.execBr iss ops s
  | .call iss ops => Sys2Proof.Machine.execCall iss ops s
  | .jmp iss ops => Sys2Proof.Machine.execJmp iss ops s
  | .callr iss ops => Sys2Proof.Machine.execCallr iss ops s
  | .loop iss ops => Sys2Proof.Machine.execLoop iss ops s
  | .beat iss ops => Sys2Proof.Machine.execBeat iss ops s
  | .beatNext iss ops => Sys2Proof.Machine.execBeatNext iss ops s
  | .beatR iss ops => Sys2Proof.Machine.execBeatR iss ops s
  | .kindleArm iss ops => Sys2Proof.Machine.execKindleArm iss ops s
  | .kindleDisarm iss ops => Sys2Proof.Machine.execKindleDisarm iss ops s
  | .hint iss ops => Sys2Proof.Machine.execHint iss ops s
  | .statRead iss ops => Sys2Proof.Machine.execStatRead iss ops s
  | .statClr iss ops => Sys2Proof.Machine.execStatClr iss ops s
  | .stepend iss ops => Sys2Proof.Machine.execStepend iss ops s
  | .brk iss ops => Sys2Proof.Machine.execBrk iss ops s
  | .waitingBundleIssue core => Sys2Proof.Machine.execWaitingBundleIssue core s
  | .vaddF iss ops => Sys2Proof.Machine.execVaddF iss ops s
  | .vsubF iss ops => Sys2Proof.Machine.execVsubF iss ops s
  | .vmulF iss ops => Sys2Proof.Machine.execVmulF iss ops s
  | .vfmaF iss ops => Sys2Proof.Machine.execVfmaF iss ops s
  | .vminF iss ops => Sys2Proof.Machine.execVminF iss ops s
  | .vmaxF iss ops => Sys2Proof.Machine.execVmaxF iss ops s
  | .vabsF iss ops => Sys2Proof.Machine.execVabsF iss ops s
  | .vnegF iss ops => Sys2Proof.Machine.execVnegF iss ops s
  | .vaddI iss ops => Sys2Proof.Machine.execVaddI iss ops s
  | .vsubI iss ops => Sys2Proof.Machine.execVsubI iss ops s
  | .vmulI iss ops => Sys2Proof.Machine.execVmulI iss ops s
  | .vmadI iss ops => Sys2Proof.Machine.execVmadI iss ops s
  | .vand iss ops => Sys2Proof.Machine.execVand iss ops s
  | .vor iss ops => Sys2Proof.Machine.execVor iss ops s
  | .vxor iss ops => Sys2Proof.Machine.execVxor iss ops s
  | .vshl iss ops => Sys2Proof.Machine.execVshl iss ops s
  | .vshr iss ops => Sys2Proof.Machine.execVshr iss ops s
  | .vsra iss ops => Sys2Proof.Machine.execVsra iss ops s
  | .vminI iss ops => Sys2Proof.Machine.execVminI iss ops s
  | .vmaxI iss ops => Sys2Proof.Machine.execVmaxI iss ops s
  | .vsel iss ops => Sys2Proof.Machine.execVsel iss ops s
  | .vld iss ops => Sys2Proof.Machine.execVld iss ops s
  | .vst iss ops => Sys2Proof.Machine.execVst iss ops s
  | .vperm iss ops => Sys2Proof.Machine.execVperm iss ops s
  | .vrot iss ops => Sys2Proof.Machine.execVrot iss ops s
  | .vbcast iss ops => Sys2Proof.Machine.execVbcast iss ops s
  | .vredAddF iss ops => Sys2Proof.Machine.execVredAddF iss ops s
  | .vredAddI iss ops => Sys2Proof.Machine.execVredAddI iss ops s
  | .vredMaxF iss ops => Sys2Proof.Machine.execVredMaxF iss ops s
  | .vredMinF iss ops => Sys2Proof.Machine.execVredMinF iss ops s
  | .vext iss ops => Sys2Proof.Machine.execVext iss ops s
  | .vins iss ops => Sys2Proof.Machine.execVins iss ops s
  | .vcmpF iss ops => Sys2Proof.Machine.execVcmpF iss ops s
  | .vcmpI iss ops => Sys2Proof.Machine.execVcmpI iss ops s
  | .pand iss ops => Sys2Proof.Machine.execPand iss ops s
  | .por iss ops => Sys2Proof.Machine.execPor iss ops s
  | .pxor iss ops => Sys2Proof.Machine.execPxor iss ops s
  | .pandn iss ops => Sys2Proof.Machine.execPandn iss ops s
  | .pmovG iss ops => Sys2Proof.Machine.execPmovG iss ops s
  | .pmovP iss ops => Sys2Proof.Machine.execPmovP iss ops s
  | .mmaKaf iss ops => Sys2Proof.Machine.execMmaKaf iss ops s
  | .mmaF32 iss ops => Sys2Proof.Machine.execMmaF32 iss ops s
  | .mwin iss ops => Sys2Proof.Machine.execMwin iss ops s
  | .mrwin iss ops => Sys2Proof.Machine.execMrwin iss ops s
  | .mzeroF iss ops => Sys2Proof.Machine.execMzeroF iss ops s
  | .mst iss ops => Sys2Proof.Machine.execMst iss ops s
  | .mstk iss ops => Sys2Proof.Machine.execMstk iss ops s
  | .mldk iss ops => Sys2Proof.Machine.execMldk iss ops s
  | .matrixOpDone core eng => Sys2Proof.Machine.execMatrixOpDone core eng s
  | .cvt iss mods ops => Sys2Proof.Machine.execCvt iss mods ops s
  | .dmaLd iss ops => Sys2Proof.Machine.execDmaLd iss ops s
  | .dmaSt iss ops => Sys2Proof.Machine.execDmaSt iss ops s
  | .dmaFence iss ops => Sys2Proof.Machine.execDmaFence iss ops s
  | .dmaRowMove core index => Sys2Proof.Machine.execDmaRowMove core index s
  | .dmaComplete core index => Sys2Proof.Machine.execDmaComplete core index s
  | .deferredFaultDelivery core => Sys2Proof.Machine.execDeferredFaultDelivery core s
  | .send iss ops => Sys2Proof.Machine.execSend iss ops s
  | .recv iss ops => Sys2Proof.Machine.execRecv iss ops s
  | .credit iss ops => Sys2Proof.Machine.execCredit iss ops s
  | .messageDeposit m => Sys2Proof.Machine.execMessageDeposit m s
  | .grant m => Sys2Proof.Machine.execGrant m s
  | .grantAck m => Sys2Proof.Machine.execGrantAck m s
  | .creditReturn m => Sys2Proof.Machine.execCreditReturn m s
  | .grantRepeat core => Sys2Proof.Machine.execGrantRepeat core s
  | .rputT iss ops => Sys2Proof.Machine.execRputT iss ops s
  | .rputS iss ops => Sys2Proof.Machine.execRputS iss ops s
  | .reductionPartialDone slot desc chunk => Sys2Proof.Machine.execReductionPartialDone slot desc chunk s
  | .reductionInstanceDone slot desc chunk => Sys2Proof.Machine.execReductionInstanceDone slot desc chunk s
  | .coreArrival core => Sys2Proof.Machine.execCoreArrival core s
  | .release slot => Sys2Proof.Machine.execRelease slot s
  | .beatBoundary slot => Sys2Proof.Machine.execBeatBoundary slot s
  | .kindleWave slot wave => Sys2Proof.Machine.execKindleWave slot wave s
  | .preBiasWaveSend wave => Sys2Proof.Machine.execPreBiasWaveSend wave s
  | .preBiasEnd wave => Sys2Proof.Machine.execPreBiasEnd wave s
  | .timeCode frame edges => Sys2Proof.Machine.execTimeCode frame edges s
  | .tickMissing => Sys2Proof.Machine.execTickMissing s
  | .timeCodesMissing => Sys2Proof.Machine.execTimeCodesMissing s
  | .holdoverLimit => Sys2Proof.Machine.execHoldoverLimit s
  | .slewConverged => Sys2Proof.Machine.execSlewConverged s
  | .rtNowRead fn part => Sys2Proof.Machine.execRtNowRead fn part s
  | .frameReceive port idle words corr uncorr => Sys2Proof.Machine.execFrameReceive port idle words corr uncorr s
  | .msg port f => Sys2Proof.Machine.execMsg port f s
  | .rcontrib port f => Sys2Proof.Machine.execRcontrib port f s
  | .rresult port f => Sys2Proof.Machine.execRresult port f s
  | .barrier port f => Sys2Proof.Machine.execBarrier port f s
  | .abort port f => Sys2Proof.Machine.execAbort port f s
  | .linkAck port ackseq => Sys2Proof.Machine.execLinkAck port ackseq s
  | .linkNack port nseq => Sys2Proof.Machine.execLinkNack port nseq s
  | .linkCredit port v0 v1 v2 => Sys2Proof.Machine.execLinkCredit port v0 v1 v2 s
  | .linkInit port v0 v1 v2 rcvd version => Sys2Proof.Machine.execLinkInit port v0 v1 v2 rcvd version s
  | .linkInitSend port => Sys2Proof.Machine.execLinkInitSend port s
  | .linkInitTimeout port => Sys2Proof.Machine.execLinkInitTimeout port s
  | .lanesAligned port lanes => Sys2Proof.Machine.execLanesAligned port lanes s
  | .replayTimeout port => Sys2Proof.Machine.execReplayTimeout port s
  | .laneRetire port lane => Sys2Proof.Machine.execLaneRetire port lane s
  | .laneRetrainDone port => Sys2Proof.Machine.execLaneRetrainDone port s
  | .portDown port => Sys2Proof.Machine.execPortDown port s
  | .portRetrainAttempt port => Sys2Proof.Machine.execPortRetrainAttempt port s
  | .disable fn port v => Sys2Proof.Machine.execDisable fn port v s
  | .retrain fn port => Sys2Proof.Machine.execRetrain fn port s
  | .restoreLanes fn port => Sys2Proof.Machine.execRestoreLanes fn port s
  | .load fn slot => Sys2Proof.Machine.execLoad fn slot s
  | .loadComplete slot => Sys2Proof.Machine.execLoadComplete slot s
  | .start fn slot => Sys2Proof.Machine.execStart fn slot s
  | .park fn slot => Sys2Proof.Machine.execPark fn slot s
  | .parkSnapshot slot => Sys2Proof.Machine.execParkSnapshot slot s
  | .parkComplete slot => Sys2Proof.Machine.execParkComplete slot s
  | .restore fn slot => Sys2Proof.Machine.execRestore fn slot s
  | .restoreComplete slot => Sys2Proof.Machine.execRestoreComplete slot s
  | .ctxAbort fn slot => Sys2Proof.Machine.execCtxAbort fn slot s
  | .teardown fn slot => Sys2Proof.Machine.execTeardown fn slot s
  | .teardownFence slot => Sys2Proof.Machine.execTeardownFence slot s
  | .partDefWrite fn k v => Sys2Proof.Machine.execPartDefWrite fn k v s
  | .keepRetireWrite fn row v => Sys2Proof.Machine.execKeepRetireWrite fn row v s
  | .repairApply => Sys2Proof.Machine.execRepairApply s
  | .holdAssert region => Sys2Proof.Machine.execHoldAssert region s
  | .holdRelease region => Sys2Proof.Machine.execHoldRelease region s
  | .bellowsRelease region => Sys2Proof.Machine.execBellowsRelease region s
  | .bellowsStop region => Sys2Proof.Machine.execBellowsStop region s
  | .set f => Sys2Proof.Machine.execSet f s
  | .biasLoad f => Sys2Proof.Machine.execBiasLoad f s
  | .wave f => Sys2Proof.Machine.execWave f s
  | .tie f => Sys2Proof.Machine.execTie f s
  | .untie f => Sys2Proof.Machine.execUntie f s
  | .cal f => Sys2Proof.Machine.execCal f s
  | .query op f => Sys2Proof.Machine.execQuery op f s
  | .gate f => Sys2Proof.Machine.execGate f s
  | .regionStart f => Sys2Proof.Machine.execRegionStart f s
  | .setpointSettled region limit => Sys2Proof.Machine.execSetpointSettled region limit s
  | .ringResponse die w => Sys2Proof.Machine.execRingResponse die w s
  | .ringCommandTimeout region => Sys2Proof.Machine.execRingCommandTimeout region s
  | .ringBroken die => Sys2Proof.Machine.execRingBroken die s
  | .ringKeepalive region => Sys2Proof.Machine.execRingKeepalive region s
  | .flueFrame region m => Sys2Proof.Machine.execFlueFrame region m s
  | .flueLaneSilent lane => Sys2Proof.Machine.execFlueLaneSilent lane s
  | .fluePoll region => Sys2Proof.Machine.execFluePoll region s
  | .stageFault region => Sys2Proof.Machine.execStageFault region s
  | .railUndervoltFail region => Sys2Proof.Machine.execRailUndervoltFail region s
  | .railOvervoltFail region => Sys2Proof.Machine.execRailOvervoltFail region s
  | .guardSum cluster => Sys2Proof.Machine.execGuardSum cluster s
  | .guardAdjust cluster => Sys2Proof.Machine.execGuardAdjust cluster s
  | .clusterLoss cluster => Sys2Proof.Machine.execClusterLoss cluster s
  | .calibrationDone gain offset => Sys2Proof.Machine.execCalibrationDone gain offset s
  | .calibrationAbandon => Sys2Proof.Machine.execCalibrationAbandon s
  | .autoCalibration => Sys2Proof.Machine.execAutoCalibration s
  | .regulatorSelfLimit region => Sys2Proof.Machine.execRegulatorSelfLimit region s
  | .loopSample rail uv => Sys2Proof.Machine.execLoopSample rail uv s
  | .forcedExit => Sys2Proof.Machine.execForcedExit s
  | .trimUpdate rail => Sys2Proof.Machine.execTrimUpdate rail s
  | .slotRotation rail => Sys2Proof.Machine.execSlotRotation rail s
  | .vrsyncEdge ps err => Sys2Proof.Machine.execVrsyncEdge ps err s
  | .vrsyncLoss => Sys2Proof.Machine.execVrsyncLoss s
  | .phaseShed => Sys2Proof.Machine.execPhaseShed s
  | .demEntry phase => Sys2Proof.Machine.execDemEntry phase s
  | .fastLimitFail phase => Sys2Proof.Machine.execFastLimitFail phase s
  | .phaseOvertemp phase temp => Sys2Proof.Machine.execPhaseOvertemp phase temp s
  | .vfeedWindowEvent kind => Sys2Proof.Machine.execVfeedWindowEvent kind s
  | .v12Loss mv => Sys2Proof.Machine.execV12Loss mv s
  | .phaseOpen phase ind sw => Sys2Proof.Machine.execPhaseOpen phase ind sw s
  | .senseMismatch phase ind sw => Sys2Proof.Machine.execSenseMismatch phase ind sw s
  | .phaseHoldMode phase err => Sys2Proof.Machine.execPhaseHoldMode phase err s
  | .feedCoefWr fn w => Sys2Proof.Machine.execFeedCoefWr fn w s
  | .coefRevert rail => Sys2Proof.Machine.execCoefRevert rail s
  | .phaseFlueFrame phase m => Sys2Proof.Machine.execPhaseFlueFrame phase m s
  | .inputStageOpen mv tooHigh => Sys2Proof.Machine.execInputStageOpen mv tooHigh s
  | .inputStageClose mv => Sys2Proof.Machine.execInputStageClose mv s
  | .busConverterFail k => Sys2Proof.Machine.execBusConverterFail k s
  | .railFault rail mv => Sys2Proof.Machine.execRailFault rail mv s
  | .storeControl pInt => Sys2Proof.Machine.execStoreControl pInt s
  | .damperFastWindow die est => Sys2Proof.Machine.execDamperFastWindow die est s
  | .damperSlowPath pInt other => Sys2Proof.Machine.execDamperSlowPath pInt other s
  | .hintCut die forecast => Sys2Proof.Machine.execHintCut die forecast s
  | .distrustCheck est meas => Sys2Proof.Machine.execDistrustCheck est meas s
  | .sensorCheck pInt => Sys2Proof.Machine.execSensorCheck pInt s
  | .traj seq p => Sys2Proof.Machine.execTraj seq p s
  | .trajectoryInForce => Sys2Proof.Machine.execTrajectoryInForce s
  | .drawLimitSample duty => Sys2Proof.Machine.execDrawLimitSample duty s
  | .shelfBrakeAssert => Sys2Proof.Machine.execShelfBrakeAssert s
  | .shelfBrakeRelease => Sys2Proof.Machine.execShelfBrakeRelease s
  | .ceiling by_ w => Sys2Proof.Machine.execCeiling by_ w s
  | .telFastEntry busW => Sys2Proof.Machine.execTelFastEntry busW s
  | .telWindowEnd v cur p => Sys2Proof.Machine.execTelWindowEnd v cur p s
  | .telPeakRead fn => Sys2Proof.Machine.execTelPeakRead fn s
  | .cartridgeSample a b => Sys2Proof.Machine.execCartridgeSample a b s
  | .legSelfIsolate bay mv => Sys2Proof.Machine.execLegSelfIsolate bay mv s
  | .emberSaveTrigger => Sys2Proof.Machine.execEmberSaveTrigger s
  | .trayLoss => Sys2Proof.Machine.execTrayLoss s
  | .emberSavePartDone => Sys2Proof.Machine.execEmberSavePartDone s
  | .emberSaveDone mv => Sys2Proof.Machine.execEmberSaveDone mv s
  | .legRestStart bay => Sys2Proof.Machine.execLegRestStart bay s
  | .legRestEnd bay offset rm => Sys2Proof.Machine.execLegRestEnd bay offset rm s
  | .referenceOverdue bay => Sys2Proof.Machine.execReferenceOverdue bay s
  | .imbalanceSettled bay => Sys2Proof.Machine.execImbalanceSettled bay s
  | .cartCalDue bay => Sys2Proof.Machine.execCartCalDue bay s
  | .calDischargeStep offset q rm => Sys2Proof.Machine.execCalDischargeStep offset q rm s
  | .calDischargeAbandon reason => Sys2Proof.Machine.execCalDischargeAbandon reason s
  | .cartridgeInsertion bay typeOk serial m => Sys2Proof.Machine.execCartridgeInsertion bay typeOk serial m s
  | .admissionChargeDone bay => Sys2Proof.Machine.execAdmissionChargeDone bay s
  | .cartRelease iss arg => Sys2Proof.Machine.execCartRelease iss arg s
  | .cartAdmit iss arg => Sys2Proof.Machine.execCartAdmit iss arg s
  | .cartCal iss arg => Sys2Proof.Machine.execCartCal iss arg s
  | .heartbeat => Sys2Proof.Machine.execHeartbeat s
  | .heartbeatLost => Sys2Proof.Machine.execHeartbeatLost s
  | .ptcFaultReport => Sys2Proof.Machine.execPtcFaultReport s
  | .takeover => Sys2Proof.Machine.execTakeover s
  | .checkpoint ok us => Sys2Proof.Machine.execCheckpoint ok us s
  | .absence5ms => Sys2Proof.Machine.execAbsence5ms s
  | .absence50ms => Sys2Proof.Machine.execAbsence50ms s
  | .provingDue => Sys2Proof.Machine.execProvingDue s
  | .provingDone test self => Sys2Proof.Machine.execProvingDone test self s
  | .status iss arg => Sys2Proof.Machine.execStatus iss arg s
  | .switch iss arg => Sys2Proof.Machine.execSwitch iss arg s
  | .returnPtc iss arg => Sys2Proof.Machine.execReturnPtc iss arg s
  | .prove iss arg => Sys2Proof.Machine.execProve iss arg s
  | .fwStage iss arg => Sys2Proof.Machine.execFwStage iss arg s
  | .fwUpdate iss arg version crcOk fmtOk => Sys2Proof.Machine.execFwUpdate iss arg version crcOk fmtOk s
  | .regCal iss arg => Sys2Proof.Machine.execRegCal iss arg s
  | .selftest iss arg => Sys2Proof.Machine.execSelftest iss arg s
  | .ptcCommandDone detail => Sys2Proof.Machine.execPtcCommandDone detail s
  | .watchdogExpired slot => Sys2Proof.Machine.execWatchdogExpired slot s
  | .stopOrderTimeout core => Sys2Proof.Machine.execStopOrderTimeout core s
  | .engineStall core m1 => Sys2Proof.Machine.execEngineStall core m1 s
  | .dmaTimeout core => Sys2Proof.Machine.execDmaTimeout core s
  | .sendCopyTimeout core => Sys2Proof.Machine.execSendCopyTimeout core s
  | .linkStall => Sys2Proof.Machine.execLinkStall s
  | .channelStall ch => Sys2Proof.Machine.execChannelStall ch s
  | .reductionStall => Sys2Proof.Machine.execReductionStall s
  | .reset by_ level target => Sys2Proof.Machine.execReset by_ level target s
  | .dump fn slot => Sys2Proof.Machine.execDump fn slot s
  | .dumpCopy fn target => Sys2Proof.Machine.execDumpCopy fn target s
  | .dumpFree fn target => Sys2Proof.Machine.execDumpFree fn target s
  | .benchClear by_ => Sys2Proof.Machine.execBenchClear by_ s
  | .replay fn slot => Sys2Proof.Machine.execReplay fn slot s
  | .drainDiscardEnd => Sys2Proof.Machine.execDrainDiscardEnd s
  | .resetRecovered level target failed => Sys2Proof.Machine.execResetRecovered level target failed s
  | .resetEscalation level target => Sys2Proof.Machine.execResetEscalation level target s
  | .saveListWrite fn addr => Sys2Proof.Machine.execSaveListWrite fn addr s
  | .scrubRead tier2 errs => Sys2Proof.Machine.execScrubRead tier2 errs s
  | .hotWindowEnd busy => Sys2Proof.Machine.execHotWindowEnd busy s
  | .hotRepeat ch => Sys2Proof.Machine.execHotRepeat ch s
  | .stackTempSample stack temp => Sys2Proof.Machine.execStackTempSample stack temp s
  | .memSaltRot fn slot salt => Sys2Proof.Machine.execMemSaltRot fn slot salt s
  | .saltRotationDone stripes => Sys2Proof.Machine.execSaltRotationDone stripes s
  | .memRepairReq fn v => Sys2Proof.Machine.execMemRepairReq fn v s
  | .rowRepairStart => Sys2Proof.Machine.execRowRepairStart s
  | .rowRepairDone => Sys2Proof.Machine.execRowRepairDone s
  | .memInject fn v => Sys2Proof.Machine.execMemInject fn v s
  | .keepT2CodeWrite fn code => Sys2Proof.Machine.execKeepT2CodeWrite fn code s
  | .mwRead fn addr len => Sys2Proof.Machine.execMwRead fn addr len s
  | .mwWrite fn addr bytes => Sys2Proof.Machine.execMwWrite fn addr bytes s
  | .recordSubmit type key vals full => Sys2Proof.Machine.execRecordSubmit type key vals full s
  | .floodSecondEnd => Sys2Proof.Machine.execFloodSecondEnd s
  | .recClear by_ key seq => Sys2Proof.Machine.execRecClear by_ key seq s
  | .opsecTick => Sys2Proof.Machine.execOpsecTick s
  | .functionLevelReset fn => Sys2Proof.Machine.execFunctionLevelReset fn s
  | .perstAssert => Sys2Proof.Machine.execPerstAssert s
  | .intMaskWrite fn block mask => Sys2Proof.Machine.execIntMaskWrite fn block mask s
  | .keepWrite fn off len v => Sys2Proof.Machine.execKeepWrite fn off len v s
  | .registerWrite fn dw off len v => Sys2Proof.Machine.execRegisterWrite fn dw off len v s
  | .tslStatus seq => Sys2Proof.Machine.execTslStatus seq s
  | .ident seq p => Sys2Proof.Machine.execIdent seq p s
  | .membRead seq p => Sys2Proof.Machine.execMembRead seq p s
  | .jobAbort seq p => Sys2Proof.Machine.execJobAbort seq p s
  | .recRead seq p => Sys2Proof.Machine.execRecRead seq p s
  | .keepalive seq => Sys2Proof.Machine.execKeepalive seq s
  | .tslFrameReceive bytes => Sys2Proof.Machine.execTslFrameReceive bytes s
  | .telem => Sys2Proof.Machine.execTelem s
  | .tslLinkLost => Sys2Proof.Machine.execTslLinkLost s
  | .operation write pecOk => Sys2Proof.Machine.execOperation write pecOk s
  | .clearFaults pecOk => Sys2Proof.Machine.execClearFaults pecOk s
  | .capability => Sys2Proof.Machine.execCapability s
  | .statusByte => Sys2Proof.Machine.execStatusByte s
  | .statusWord => Sys2Proof.Machine.execStatusWord s
  | .statusInput => Sys2Proof.Machine.execStatusInput s
  | .statusTemperature => Sys2Proof.Machine.execStatusTemperature s
  | .statusCml => Sys2Proof.Machine.execStatusCml s
  | .readEin => Sys2Proof.Machine.execReadEin s
  | .readVin => Sys2Proof.Machine.execReadVin s
  | .readIin => Sys2Proof.Machine.execReadIin s
  | .readPin => Sys2Proof.Machine.execReadPin s
  | .readTemperature1 => Sys2Proof.Machine.execReadTemperature1 s
  | .pmbusRevision => Sys2Proof.Machine.execPmbusRevision s
  | .mfrId => Sys2Proof.Machine.execMfrId s
  | .mfrModel => Sys2Proof.Machine.execMfrModel s
  | .mfrSerial => Sys2Proof.Machine.execMfrSerial s
  | .mfrVinMin => Sys2Proof.Machine.execMfrVinMin s
  | .mfrVinMax => Sys2Proof.Machine.execMfrVinMax s
  | .mfrPinMax => Sys2Proof.Machine.execMfrPinMax s
  | .mfrPeakPin => Sys2Proof.Machine.execMfrPeakPin s
  | .mfrPeakIin => Sys2Proof.Machine.execMfrPeakIin s
  | .mfrMinVin => Sys2Proof.Machine.execMfrMinVin s
  | .mfrPeakTemp => Sys2Proof.Machine.execMfrPeakTemp s
  | .mfrPeakReset pecOk => Sys2Proof.Machine.execMfrPeakReset pecOk s
  | .pmbusUnsupported pecOk => Sys2Proof.Machine.execPmbusUnsupported pecOk s
  | .setdasa static dyn => Sys2Proof.Machine.execSetdasa static dyn s
  | .rstdaa => Sys2Proof.Machine.execRstdaa s
  | .enec addr events => Sys2Proof.Machine.execEnec addr events s
  | .disec addr events => Sys2Proof.Machine.execDisec addr events s
  | .getstatus addr => Sys2Proof.Machine.execGetstatus addr s
  | .sensorRead addr index v => Sys2Proof.Machine.execSensorRead addr index v s
  | .sensorThresholdIbi k => Sys2Proof.Machine.execSensorThresholdIbi k s
  | .extest pins data => Sys2Proof.Machine.execExtest pins data s
  | .idcode => Sys2Proof.Machine.execIdcode s
  | .samplePreload pins data => Sys2Proof.Machine.execSamplePreload pins data s
  | .clamp => Sys2Proof.Machine.execClamp s
  | .highz => Sys2Proof.Machine.execHighz s
  | .bypass => Sys2Proof.Machine.execBypass s
  | .powerOn mv => Sys2Proof.Machine.execPowerOn mv s
  | .coolantHoldCheck dp => Sys2Proof.Machine.execCoolantHoldCheck dp s
  | .initTrainingDone regFail coreFail memOk => Sys2Proof.Machine.execInitTrainingDone regFail coreFail memOk s
  | .fillComplete tier2 pct => Sys2Proof.Machine.execFillComplete tier2 pct s
  | .railStartTimeout rail => Sys2Proof.Machine.execRailStartTimeout rail s
  | .drain fn => Sys2Proof.Machine.execDrain fn s
  | .undrain fn => Sys2Proof.Machine.execUndrain fn s
  | .svcJoin fn epoch => Sys2Proof.Machine.execSvcJoin fn epoch s
  | .pwrCycleRequest => Sys2Proof.Machine.execPwrCycleRequest s
  | .flowSample dp => Sys2Proof.Machine.execFlowSample dp s
  | .stackL3Trip stack => Sys2Proof.Machine.execStackL3Trip stack s
  | .thermalTrip region => Sys2Proof.Machine.execThermalTrip region s
  | .thermalHoldRelease plate dp => Sys2Proof.Machine.execThermalHoldRelease plate dp s
  | .vauxFall => Sys2Proof.Machine.execVauxFall s
  | .tickPresent => Sys2Proof.Machine.execTickPresent s
  | .perstRelease => Sys2Proof.Machine.execPerstRelease s
  | .d3hot fn enter => Sys2Proof.Machine.execD3hot fn enter s
  | .bellowsRechargeDone region => Sys2Proof.Machine.execBellowsRechargeDone region s
  | .regulatorLimitRelease region => Sys2Proof.Machine.execRegulatorLimitRelease region s
  | .rstCmdDone ok => Sys2Proof.Machine.execRstCmdDone ok s
  | .scrubPeriodEnd tier2 => Sys2Proof.Machine.execScrubPeriodEnd tier2 s

end Sys2Proof.Machine
end

