-- ==== Sys2Proof/WellFormed.lean ====
section
/-! DEFINITION. Which commands are well formed: the bounds the spec sets on an operand that its type does not already set. The
meanings do not assume them: each is total on every command. -/

namespace Sys2Proof

/-- R185, R187: a DATA message carries 64 × (len6 + 1) bytes, every other kind none. -/
def Msg.wf (m : Msg) : Bool :=
  match m.kind with
  | .data => decide (m.payload.length = 64 * (m.len6.toNat + 1))
  | .completion | .grant | .grantAck | .creditReturn => m.payload.isEmpty

/-- R243: virtual channel 0 to 2, and a payload of 0 to 64 units of 64 bytes. -/
def Frame.wf (f : Frame) : Bool :=
  decide (f.vc.toNat < 3) && decide (f.payload.length % 64 = 0) && decide (f.payload.length ≤ 4096)

/-- R443: 14 cells and four thermistors. -/
def CartSample.wf (m : CartSample) : Bool := decide (m.cells.length = 14) && decide (m.temps.length = 4)

/-- R566: a header of 8 bytes, 0 to 512 bytes of payload, and the CRC; a frame may be received torn. -/
def trayFrameWf (b : List Byte) : Bool := decide (b.length ≤ 524)

/-- R565: 0 to 512 payload bytes. -/
def trayPayloadWf (p : List Byte) : Bool := decide (p.length ≤ 512)

/-- The operands are within the bounds of the rule their row names. -/
def Instr.wf : Instr → Bool
  | .messageDeposit m => m.wf && (decide (m.kind = .data) || decide (m.kind = .completion))
  | .grant m => m.wf && decide (m.kind = .grant)
  | .grantAck m => m.wf && decide (m.kind = .grantAck)
  | .creditReturn m => m.wf && decide (m.kind = .creditReturn)
  -- R242, R243: a header and a trailer, and at most 64 units of payload
  | .frameReceive _ _ ws _ _ => decide (5 ≤ ws.length) && decide (ws.length ≤ 517)
  | .msg _ f | .rcontrib _ f | .rresult _ f | .barrier _ f | .abort _ f => f.wf
  | .cartridgeSample a b => a.wf && b.wf
  | .cartridgeInsertion _ _ _ m => m.wf
  -- R290: one busy count for each of the 256 tier-1 channels
  | .hotWindowEnd busy => decide (busy.length = 256)
  -- R534: a read request of 1 to 4,096 bytes, a write of 1 to 512 bytes
  | .mwRead _ _ len => decide (1 ≤ len.toNat) && decide (len.toNat ≤ 4096)
  | .mwWrite _ _ bytes => decide (1 ≤ bytes.length) && decide (bytes.length ≤ 512)
  -- R524: at most 28 values
  | .recordSubmit _ _ vals _ => decide (vals.length ≤ 28)
  | .traj _ p | .ident _ p | .membRead _ p | .jobAbort _ p | .recRead _ p => trayPayloadWf p
  | .tslFrameReceive b => trayFrameWf b
  -- R438: a reading of the bus in the range of its field
  | .inputStageOpen mv _ | .inputStageClose mv | .legSelfIsolate _ mv | .railFault _ mv | .v12Loss mv => decide (mv < 65536)
  | _ => true

end Sys2Proof
end

