-- ==== Sys2Proof/Safety.lean ====
section
/-! DEFINITION. The terms the statements use: which components of the state a command leaves as they were, the canonical form
that every step keeps, and when a bundle of one syllable issues. -/

namespace Sys2Proof.Machine

/-! Frames. -/

/-- The components of the state. -/
inductive Comp where
  | pending | free | out | lt | svc | grid | cores | slots | parts | rt | fab | mem | mesh | reg | pwr | feed | draw | carts
  | ptc | rst | recorder | host | tray | up | cool | tap
deriving DecidableEq, Repr

/-- A component is the same in two states. `svc` is GLB_STATE: the service state with the degradation reasons. -/
def sameComp (s t : State) : Comp → Prop
  | .pending => t.pending = s.pending
  | .free => t.free = s.free
  | .out => t.out = s.out
  | .lt => t.lt = s.lt
  | .svc => t.svc = s.svc ∧ t.degrade = s.degrade
  | .grid => t.grid = s.grid
  | .cores => t.cores = s.cores
  | .slots => t.slots = s.slots
  | .parts => t.parts = s.parts
  | .rt => t.rt = s.rt
  | .fab => t.fab = s.fab
  | .mem => t.mem = s.mem
  | .mesh => t.mesh = s.mesh
  | .reg => t.reg = s.reg
  | .pwr => t.pwr = s.pwr
  | .feed => t.feed = s.feed
  | .draw => t.draw = s.draw
  | .carts => t.carts = s.carts
  | .ptc => t.ptc = s.ptc
  | .rst => t.rst = s.rst
  | .recorder => t.recorder = s.recorder
  | .host => t.host = s.host
  | .tray => t.tray = s.tray
  | .up => t.up = s.up
  | .cool => t.cool = s.cool
  | .tap => t.tap = s.tap

/-- Only the components of the list may differ; every other register, buffer and byte of the module is as it was. -/
def OnlyChanges (cs : List Comp) (s t : State) : Prop := ∀ c, c ∉ cs → sameComp s t c

/-- What a change of the service state touches (R27): GLB_STATE, its record, its interrupt and its unsolicited frame. -/
def reporting : List Comp := [.svc, .recorder, .host, .out, .tray]

/-! Issue of a bundle of one syllable (R98, R107). -/

/-- The command completes a bundle of its own on a core of a RUNNING context that takes syllables, and nothing of R107 but the
syllable itself can hold it: HOLD is off, the cycle is permitted, the bundle has been and can be fetched, no deferred fault waits, and
nothing is leaving the core. -/
def Ready (s : State) (iss : Issue) : Prop :=
  let c := s.core iss.core
  let e := s.env iss.core
  s.coreRuns iss.core = true ∧ c.running = true ∧ c.holding = false ∧ c.bundle = [] ∧ iss.last = true ∧
  e.hold = false ∧ e.permitted = true ∧ e.clockChange = false ∧ c.fetchWait = 0 ∧ fetchFault c = none ∧ c.deferred = none ∧
  c.emit = [] ∧ c.outbound = [] ∧ c.contribs = [] ∧ c.hint = none

/-- The slot of the context resident on a core. -/
def State.slotOf (s : State) (k : Nat) : Nat := ((s.core k).res.getD { slot := 0, lrow := 0, lcol := 0 }).slot

/-- R490, R521: the module after core k has issued its bundle and become c: the bundle counts as progress of its context. -/
def State.issued (s : State) (k : Nat) (c : Core) : State :=
  ({ (s.setCore k c) with free := s.free + 1 }).modSlot (s.slotOf k) fun x =>
    { x with pw := { x.pw with bundles := x.pw.bundles + 1, idleMs := 0, expired := false } }

/-- The command, on a state in which its bundle issues, leaves core k as c and the rest of the module as `State.issued` says. -/
def Issues (i : Sys2Proof.Instr) (s : State) (k : Nat) (c : Core) : Prop := exec i s = .next (s.issued k c)

/-- A lane-wise result of f in the lanes that the predicate selects, the old lane elsewhere (R105); nothing else of the core but
its advance. -/
def LaneResult (i : Sys2Proof.Instr) (s : State) (iss : Issue) (d : Nat) (f : Nat → BitVec 32) : Prop :=
  ∃ x : BitVec 2048, Issues i s iss.core ((s.core iss.core).advance.wrV d x) ∧
    ∀ j < 64, lane x j = if ((s.core iss.core).mask iss).getLsbD j then f j else lane ((s.core iss.core).rdV d) j

/-- A lane-wise FP32 result with the flags of the acting lanes, and of no other, ORed into the status word (R124). -/
def LaneFpResult (i : Sys2Proof.Instr) (s : State) (iss : Issue) (d : Nat) (f : Nat → BitVec 32 × FlagByte) : Prop :=
  ∃ (x : BitVec 2048) (fl : FlagByte), Issues i s iss.core (((s.core iss.core).advance.wrV d x).orAsw fl) ∧
    (∀ j < 64, lane x j = if ((s.core iss.core).mask iss).getLsbD j then (f j).1 else lane ((s.core iss.core).rdV d) j) ∧
    ∀ b < 8, fl.getLsbD b = true ↔ ∃ j < 64, ((s.core iss.core).mask iss).getLsbD j = true ∧ (f j).2.getLsbD b = true

/-- A predicate result of f in the acting lanes, the old bit elsewhere (R105, R127). -/
def BitResult (i : Sys2Proof.Instr) (s : State) (iss : Issue) (d : Nat) (f : Nat → Bool) : Prop :=
  ∃ x : BitVec 64, Issues i s iss.core ((s.core iss.core).advance.wrP d x) ∧
    ∀ j < 64, x.getLsbD j = if ((s.core iss.core).mask iss).getLsbD j then f j else ((s.core iss.core).rdP d).getLsbD j

/-- Core k holds a complete bundle of one syllable, and nothing of R107 but the syllable itself can hold it (compare Ready). -/
def HeldReady (s : State) (k : Nat) (i : Sys2Proof.Instr) : Prop :=
  let c := s.core k
  let e := s.env k
  s.coreRuns k = true ∧ c.running = true ∧ c.holding = true ∧ c.bundle = [i] ∧
  e.hold = false ∧ e.permitted = true ∧ e.clockChange = false ∧ c.fetchWait = 0 ∧ fetchFault c = none ∧ c.deferred = none ∧
  c.emit = [] ∧ c.outbound = [] ∧ c.contribs = [] ∧ c.hint = none

/-- The attempt holds the bundle in a waiting syllable: the core becomes c, and nothing else changes but the count of open values
taken (log entry 1). -/
def Waits (i : Sys2Proof.Instr) (s : State) (k : Nat) (c : Core) : Prop :=
  exec i s = .next { s.setCore k c with free := s.free + 1 }

/-- A resident core at which nothing is leaving and no fault stands. -/
def UnitReady (c : Core) : Prop :=
  c.fault = none ∧ c.deferred = none ∧ c.emit = [] ∧ c.outbound = [] ∧ c.contribs = [] ∧ c.hint = none

/-- No LOAD and no RESTORE is copying into the context of core k (R327), which is then RUNNING in no reachable state. -/
def Settled (s : State) (k : Nat) : Prop :=
  (s.slot (s.slotOf k)).busy ≠ some .load ∧ (s.slot (s.slotOf k)).busy ≠ some .restore

/-- The components that the end of a context can touch. -/
def endingContext : List Comp := [.cores, .slots, .fab, .mem, .free, .rst] ++ reporting

/-- A precise fault (R112, R114, R136): the bundle has no effect, the record names it, and its context is ABORTED with cause 0x01,
or SUSPECT with cause 0x02 for SCRATCH_DATA. -/
def FaultsWith (i : Sys2Proof.Instr) (s : State) (iss : Issue) (code : BitVec 8) (addr : BitVec 64) : Prop :=
  ∃ t, exec i s = .next t ∧
    (t.core iss.core).fault =
      some { code, slot := iss.slot.val, deferred := false, pc := (s.core iss.core).pc, addr } ∧
    (t.core iss.core).g = (s.core iss.core).g ∧ (t.core iss.core).p = (s.core iss.core).p ∧
    (t.core iss.core).v = (s.core iss.core).v ∧ (t.core iss.core).sp = (s.core iss.core).sp ∧
    (t.core iss.core).pc = (s.core iss.core).pc ∧ (t.core iss.core).asw = (s.core iss.core).asw ∧
    (t.core iss.core).stopped = true ∧
    (t.slot (s.slotOf iss.core)).state = (if code = 0x08#8 then .suspect else .aborted) ∧
    (t.slot (s.slotOf iss.core)).cause = (if code = 0x08#8 then 0x02#8 else 0x01#8) ∧
    OnlyChanges endingContext s t

/-! Answers, records and denials. -/

/-- A new record is the last of the ring (R524): the event's, unmerged, stamped with the recorder's time. -/
def NewRecord (r : Recorder) (ty : Nat) (key : BitVec 64) (vals : List (BitVec 64)) (t : State) : Prop :=
  ∃ x : Record, t.recorder.ring.getLast? = some x ∧ x.type = ty ∧ x.key = key ∧ x.values = vals ∧ x.rep = 0 ∧ x.seq = r.nextSeq ∧
    x.opsec = r.opsec ∧ x.pcyc = r.pcyc ∧ t.recorder.nextSeq = r.nextSeq + 1#32

/-- R567, R568: the request is answered: the response is kept as the newest of 16 and, with an ACTIVE PTC, leaves as the last frame. -/
def Answered (t : State) (type seq status reason : Nat) (payload : List Byte) : Prop :=
  t.tray.stored.head? = some { type, seq, status, reason, payload } ∧ t.tray.stored.length ≤ 16 ∧
  (t.ptc.hasActive = true → t.out.head? = some (.tray (tslFrame type 1 seq status reason payload)))

/-- R567, R568: a request of this TYPE and SEQ is new, and is the next that the ACTIVE PTC acts on. -/
def Served (s : State) (type seq : Nat) : Prop :=
  s.ptc.hasActive = true ∧ (∀ r ∈ s.tray.stored, ¬(r.type = type ∧ r.seq = seq)) ∧
  (s.tray.queue = [] ∨ ∃ p l, s.tray.queue = (type, seq, p) :: l)

/-- R345: an access of function fn in window win (0 CW, 1 DW, 2 MW) is denied: counted, shown, recorded, and nothing else. -/
def Denied (s t : State) (fn win off : Nat) : Prop :=
  t.host = { s.host with
    denyCw := if win = 0 then min 0xFFFF (s.host.denyCw + 1) else s.host.denyCw,
    denyDw := if win = 1 then min 0xFFFF (s.host.denyDw + 1) else s.host.denyDw,
    denyMw := if win = 2 then min 0xFFFF (s.host.denyMw + 1) else s.host.denyMw,
    denyLast := BitVec.ofNat 64 (fn + 64 * win + 256 + 512 * off) } ∧
  OnlyChanges [.host, .recorder] s t

/-! The canonical form (plain data). -/

/-- The canonical form of the module's memories: device memory and the keep registers. -/
def State.wf (s : State) : Prop :=
  Memory.wf s.mem.bytes ∧ Tbl.wf 0#64 s.host.keep = true ∧ Tbl.wf 0 s.host.keepCount = true

/-- R541: no keep register has been written more often than its limit. -/
def State.keepBound (s : State) : Prop := ∀ off, Tbl.get 0 s.host.keepCount off ≤ 200000

end Sys2Proof.Machine
end

