-- ==== Sys2Proof/Certificates/Slice0/Obligations.lean ====
section
/-! DEFINITION. The statements for the provers. Ready, Issues and the frames are in Sys2Proof/Safety.lean. -/

open Sys2Proof Sys2Proof.Machine

/-! The queue. -/

/-- The block's queue (log entry 3): a step is exec of the command in front, on the state with the queue's rest, and with no
command waiting it is 10 ns of local time. -/
def Obligations.StepRunsTheFrontCommand : Prop :=
  (∀ (c : Sys2Proof.Instr) (s : State), step (s.push c) = exec c s) ∧
  (∀ (c : Sys2Proof.Instr) (s : State) (rest : List Sys2Proof.Instr), s.pending = c :: rest →
    step s = exec c { s with pending := rest }) ∧
  ∀ s : State, s.pending = [] → step s = .next s.tick

/-! Syllables (chapter 04). Each is presented as a bundle of its own on a core where nothing holds it (Ready), with its
predicate true; the equation gives the whole next state, so it is its own frame. -/

/-- R119: integer operations of group 0x1 wrap modulo 2^64 and set no flag.

R119, R120: the high product and division, in S1; division is defined for every operand pair. -/
def Obligations.IntegerArithmeticResults : Prop :=
  (
  ∀ (s : State) (iss : Issue) (o : BitVec 18), Ready s iss → iss.slot.val ≤ 1 → (s.core iss.core).acts iss = true → fMod o = 0 →
    let c := s.core iss.core
    let a := c.rdG (fA o)
    let b := c.rdG (fB o)
    let put := fun v : BitVec 64 => c.advance.wrG (fD o) v
    Issues (.add iss o) s iss.core (put (a + b)) ∧ Issues (.sub iss o) s iss.core (put (a - b)) ∧
    Issues (.and iss o) s iss.core (put (a &&& b)) ∧ Issues (.or iss o) s iss.core (put (a ||| b)) ∧
    Issues (.xor iss o) s iss.core (put (a ^^^ b)) ∧
    Issues (.shl iss o) s iss.core (put (a <<< (b.extractLsb' 0 6).toNat)) ∧
    Issues (.shr iss o) s iss.core (put (a >>> (b.extractLsb' 0 6).toNat)) ∧
    Issues (.sra iss o) s iss.core (put (a.sshiftRight (b.extractLsb' 0 6).toNat)) ∧
    Issues (.mul iss o) s iss.core (put (a * b)) ∧
    Issues (.min iss o) s iss.core (put (if b.slt a then b else a)) ∧
    Issues (.max iss o) s iss.core (put (if a.slt b then b else a)) ∧
    Issues (.minu iss o) s iss.core (put (if b < a then b else a)) ∧
    Issues (.maxu iss o) s iss.core (put (if a < b then b else a)) ∧
    (fB o = 0 →
      Issues (.mov iss o) s iss.core (put a) ∧ Issues (.clz iss o) s iss.core (put a.clz) ∧
      Issues (.popc iss o) s iss.core (put (BitVec.ofNat 64 ((List.range 64).countP fun i => a.getLsbD i))))
  ) ∧
  (
  ∀ (s : State) (iss : Issue) (o : BitVec 18), Ready s iss → iss.slot.val = 1 → (s.core iss.core).acts iss = true → fMod o = 0 →
    let c := s.core iss.core
    let a := c.rdG (fA o)
    let b := c.rdG (fB o)
    let put := fun v : BitVec 64 => c.advance.wrG (fD o) v
    Issues (.mulh iss o) s iss.core (put ((a.signExtend 128 * b.signExtend 128).extractLsb' 64 64)) ∧
    Issues (.mulhu iss o) s iss.core (put ((a.zeroExtend 128 * b.zeroExtend 128).extractLsb' 64 64)) ∧
    Issues (.div iss o) s iss.core (put (if b = 0#64 then BitVec.allOnes 64 else a.sdiv b)) ∧
    Issues (.divu iss o) s iss.core (put (if b = 0#64 then BitVec.allOnes 64 else a / b)) ∧
    Issues (.rem iss o) s iss.core (put (if b = 0#64 then a else a.srem b)) ∧
    Issues (.remu iss o) s iss.core (put (if b = 0#64 then a else a % b))
  )

/-- R101, R119, R122: NOP, the immediate moves and CMP, whose result fills all 64 bits of its predicate. -/
def Obligations.ImmediatesAndCompareResults : Prop :=
  ∀ (s : State) (iss : Issue) (o : BitVec 18), Ready s iss → (s.core iss.core).acts iss = true →
    let c := s.core iss.core
    let a := c.rdG (fA o)
    let b := c.rdG (fB o)
    let d := c.rdG (fD o)
    let imm := o.extractLsb' 0 13
    let put := fun v : BitVec 64 => c.advance.wrG (fD o) v
    let test := fun q : Bool => c.advance.wrP (fD o) (if q then BitVec.allOnes 64 else 0#64)
    (iss.pn = 0#3 → iss.neg = false → Issues (.nop iss 0#4 0#6 0#18) s iss.core c.advance) ∧
    (iss.slot.val ≤ 1 →
      Issues (.movi iss o) s iss.core (put (imm.signExtend 64)) ∧
      Issues (.addi iss o) s iss.core (put (d + imm.signExtend 64)) ∧
      (∀ k : Fin 5, (k.val = 4 → imm.getLsbD 12 = false) → ∃ x : BitVec 64, Issues (.movk iss k o) s iss.core (put x) ∧
        ∀ j < 64, x.getLsbD j = if 13 * k.val ≤ j ∧ j < 13 * k.val + 13 then imm.getLsbD (j - 13 * k.val) else d.getLsbD j) ∧
      (1 ≤ fD o → fD o ≤ 7 →
        (fMod o = 0 → Issues (.cmp iss o) s iss.core (test (a == b))) ∧
        (fMod o = 1 → Issues (.cmp iss o) s iss.core (test (a != b))) ∧
        (fMod o = 2 → Issues (.cmp iss o) s iss.core (test (a.slt b))) ∧
        (fMod o = 3 → Issues (.cmp iss o) s iss.core (test (b.sle a))) ∧
        (fMod o = 4 → Issues (.cmp iss o) s iss.core (test (a.ult b))) ∧
        (fMod o = 5 → Issues (.cmp iss o) s iss.core (test (b.ule a)))))

/-- R119, R121: scalar FP32 on bits [31:0]: the upper half of the destination is zero, the flags are ORed into the status word,
and a NaN operand makes a compare unordered and sets NANIN. -/
def Obligations.ScalarFloatResults : Prop :=
  ∀ (s : State) (iss : Issue) (o : BitVec 18), Ready s iss → iss.slot.val ≤ 1 → (s.core iss.core).acts iss = true →
    let c := s.core iss.core
    let a := (c.rdG (fA o)).extractLsb' 0 32
    let b := (c.rdG (fB o)).extractLsb' 0 32
    let d := (c.rdG (fD o)).extractLsb' 0 32
    let rm := o.extractLsb' 0 2
    let put := fun r : BitVec 32 × FlagByte => (c.advance.wrG (fD o) (0#32 ++ r.1)).orAsw r.2
    (fMod o < 4 →
      Issues (.fadd iss o) s iss.core (put (fpAdd rm a b)) ∧ Issues (.fsub iss o) s iss.core (put (fpSub rm a b)) ∧
      Issues (.fmul iss o) s iss.core (put (fpMul rm a b)) ∧ Issues (.fma iss o) s iss.core (put (fpFma rm d a b))) ∧
    (fMod o = 0 →
      Issues (.fmin iss o) s iss.core (put (fpMin a b)) ∧ Issues (.fmax iss o) s iss.core (put (fpMax a b))) ∧
    (1 ≤ fD o → fD o ≤ 7 → fMod o ≤ 4 →
      ((fp a).isNan = true ∨ (fp b).isNan = true →
        Issues (.fcmp iss o) s iss.core ((c.advance.wrP (fD o)
          (if fMod o = 1 ∨ fMod o = 4 then BitVec.allOnes 64 else 0#64)).orAsw flNANIN)) ∧
      ((fp a).isNan = false → (fp b).isNan = false →
        ∃ q : Bool, Issues (.fcmp iss o) s iss.core (c.advance.wrP (fD o) (if q then BitVec.allOnes 64 else 0#64)) ∧
          (fMod o = 0 → (q = true ↔ FVal.diffSign (fp a) (fp b) = 0)) ∧ (fMod o = 1 → (q = true ↔ FVal.diffSign (fp a) (fp b) ≠ 0)) ∧
          (fMod o = 2 → (q = true ↔ FVal.diffSign (fp a) (fp b) < 0)) ∧ (fMod o = 3 → (q = true ↔ FVal.diffSign (fp a) (fp b) ≤ 0)) ∧
          (fMod o = 4 → q = false)))

/-- R123: loads of 1, 2, 4 and 8 bytes at ga + sext(imm8) × size, extended with the sign or with zeros.

R123: stores of the low bytes of gd: the bytes of the access take them, every other byte of the scratchpad is unchanged, and
a 64-bit word that is not written whole keeps its uncorrectable mark (log entry 7).

R115, R123: a scalar access outside the scratchpad, one that is not aligned to its size, and a load of a word that the code cannot
correct. -/
def Obligations.ScratchpadLoadsAndStores : Prop :=
  (
  ∀ (s : State) (iss : Issue) (o : BitVec 18), Ready s iss → iss.slot.val = 1 → (s.core iss.core).acts iss = true →
    let c := s.core iss.core
    let a := fun size : Nat => (c.rdG (fA o) + (o.extractLsb' 0 8).signExtend 64 * BitVec.ofNat 64 size).toNat
    let clear := fun size : Nat => a size < 0x80000 ∧ a size % size = 0 ∧ c.badIn (a size) size = none ∧ c.touches (a size) size = false
    let byte := fun size j : Nat => Mem.read8 c.sp (a size + j)
    let put := fun v : BitVec 64 => c.advance.wrG (fD o) v
    (clear 1 → Issues (.ldB iss o) s iss.core (put ((byte 1 0).signExtend 64)) ∧
      Issues (.ldBu iss o) s iss.core (put ((byte 1 0).zeroExtend 64))) ∧
    (clear 2 → Issues (.ldH iss o) s iss.core (put ((byte 2 1 ++ byte 2 0).signExtend 64)) ∧
      Issues (.ldHu iss o) s iss.core (put ((byte 2 1 ++ byte 2 0).zeroExtend 64))) ∧
    (clear 4 → Issues (.ldW iss o) s iss.core (put ((byte 4 3 ++ byte 4 2 ++ byte 4 1 ++ byte 4 0).signExtend 64)) ∧
      Issues (.ldWu iss o) s iss.core (put ((byte 4 3 ++ byte 4 2 ++ byte 4 1 ++ byte 4 0).zeroExtend 64))) ∧
    (clear 8 → ∃ x : BitVec 64, Issues (.ldD iss o) s iss.core (put x) ∧ ∀ j < 8, x.extractLsb' (8 * j) 8 = byte 8 j)
  ) ∧
  (
  ∀ (s : State) (iss : Issue) (o : BitVec 18), Ready s iss → iss.slot.val = 1 → (s.core iss.core).acts iss = true →
    let c := s.core iss.core
    let a := fun size : Nat => (c.rdG (fA o) + (o.extractLsb' 0 8).signExtend 64 * BitVec.ofNat 64 size).toNat
    let stores := fun (i : Sys2Proof.Instr) (size : Nat) => a size < 0x80000 → a size % size = 0 → c.touches (a size) size = false →
      ∃ (m : Mem) (bad : Tbl Bool), Issues i s iss.core { c.advance with sp := m, spBad := bad } ∧
        (∀ x, Mem.read8 m x = if a size ≤ x ∧ x < a size + size then (c.rdG (fD o)).extractLsb' (8 * (x - a size)) 8
          else Mem.read8 c.sp x) ∧
        ∀ w, Tbl.get false bad w = (Tbl.get false c.spBad w && !decide (a size ≤ 8 * w ∧ 8 * w + 8 ≤ a size + size))
    stores (.stB iss o) 1 ∧ stores (.stH iss o) 2 ∧ stores (.stW iss o) 4 ∧ stores (.stD iss o) 8
  ) ∧
  (
  ∀ (s : State) (iss : Issue) (o : BitVec 18), Ready s iss → Settled s iss.core → iss.slot.val = 1 → (s.core iss.core).acts iss = true →
    let c := s.core iss.core
    let a := fun size : Nat => c.rdG (fA o) + (o.extractLsb' 0 8).signExtend 64 * BitVec.ofNat 64 size
    let place := fun (i : Sys2Proof.Instr) (size : Nat) =>
      (0x80000 ≤ (a size).toNat → FaultsWith i s iss 0x04#8 (a size)) ∧
      ((a size).toNat < 0x80000 → (a size).toNat % size ≠ 0 → FaultsWith i s iss 0x05#8 (a size))
    let load := fun (i : Sys2Proof.Instr) (size : Nat) => place i size ∧
      ((a size).toNat < 0x80000 → (a size).toNat % size = 0 → (c.badIn (a size).toNat size).isSome = true →
        FaultsWith i s iss 0x08#8 (a size))
    load (.ldB iss o) 1 ∧ load (.ldBu iss o) 1 ∧ load (.ldH iss o) 2 ∧ load (.ldHu iss o) 2 ∧ load (.ldW iss o) 4 ∧
    load (.ldWu iss o) 4 ∧ load (.ldD iss o) 8 ∧ place (.stB iss o) 1 ∧ place (.stH iss o) 2 ∧ place (.stW iss o) 4 ∧
    place (.stD iss o) 8
  )

/-- R117: branches count bundles from their own bundle; CALL and CALLR link in g31; LOOP branches while its new count is not 0.

R118: a taken branch adds 2 cc where the fetch buffer holds its target, and a taken LOOP to a target 1 to 63 bundles back adds nothing;
that any other target adds 5 is the model's choice (log entry 130).

R115, R129: BRK raises BREAK with its code8 in CORE_FAULT_ADDR; R117: a register target out of range or not a multiple of 16. -/
def Obligations.ControlFlowResults : Prop :=
  (
  ∀ (s : State) (iss : Issue) (o : BitVec 18), Ready s iss → iss.slot.val = 0 → (s.core iss.core).acts iss = true →
    let c := s.core iss.core
    let far := c.pc + 16#64 * o.signExtend 64
    let g := c.rdG (fA o)
    let n := c.rdG (fD o) - 1#64
    let back := c.pc + 16#64 * (o.extractLsb' 0 13).signExtend 64
    let adds := fun t : BitVec 64 => if t.toNat / 64 ∈ c.fetched ∨ t.toNat / 64 = c.pc.toNat / 64 then 2 else 5
    Issues (.br iss o) s iss.core { c.advance with pc := far, fetchWait := adds far } ∧
    Issues (.call iss o) s iss.core { c.advance.wrG 31 (c.pc + 16#64) with pc := far, fetchWait := adds far } ∧
    (o &&& 0x3E0FF#18 = 0#18 → g.toNat < 0x80000 → g.toNat % 16 = 0 →
      Issues (.jmp iss o) s iss.core { c.advance with pc := g, fetchWait := adds g } ∧
      Issues (.callr iss o) s iss.core { c.advance.wrG 31 (c.pc + 16#64) with pc := g, fetchWait := adds g }) ∧
    (n ≠ 0#64 → ((o.extractLsb' 0 13).toInt < -63 ∨ 0 ≤ (o.extractLsb' 0 13).toInt) →
      Issues (.loop iss o) s iss.core { c.advance.wrG (fD o) n with pc := back, fetchWait := adds back }) ∧
    (n ≠ 0#64 → -63 ≤ (o.extractLsb' 0 13).toInt → (o.extractLsb' 0 13).toInt < 0 →
      Issues (.loop iss o) s iss.core { c.advance.wrG (fD o) n with pc := back }) ∧
    (n = 0#64 → Issues (.loop iss o) s iss.core (c.advance.wrG (fD o) n))
  ) ∧
  (
  ∀ (s : State) (iss : Issue) (o : BitVec 18), Ready s iss → Settled s iss.core → iss.slot.val = 0 → (s.core iss.core).acts iss = true →
    let g := (s.core iss.core).rdG (fA o)
    (o &&& 0x3FF00#18 = 0#18 → FaultsWith (.brk iss o) s iss 0x07#8 ((o.extractLsb' 0 8).zeroExtend 64)) ∧
    (o &&& 0x3E0FF#18 = 0#18 → 0x80000 ≤ g.toNat →
      FaultsWith (.jmp iss o) s iss 0x06#8 g ∧ FaultsWith (.callr iss o) s iss 0x06#8 g) ∧
    (o &&& 0x3E0FF#18 = 0#18 → g.toNat < 0x80000 → g.toNat % 16 ≠ 0 →
      FaultsWith (.jmp iss o) s iss 0x05#8 g ∧ FaultsWith (.callr iss o) s iss 0x05#8 g)
  )

/-- R129 to R134, R623: pacing syllables whose condition holds at the first try: BEAT and BEAT.R of a beat already begun count as
late; KINDLE.ARM arms, at the wave instant of its cluster the first time in a step and at its later arm instant after that;
KINDLE.DISARM never waits; STEPEND ends the core's part of the step; STAT.READ and STAT.CLR.

R132, R374: a HINT issues and leaves the core for its region, which keeps the newest of each core and those of the others. -/
def Obligations.PacingResults : Prop :=
  (
  ∀ (s : State) (iss : Issue) (o : BitVec 18), Ready s iss → iss.slot.val = 0 → (s.core iss.core).acts iss = true →
    let c := s.core iss.core
    let e := s.env iss.core
    let put := fun v : BitVec 64 => c.advance.wrG (fD o) v
    (c.tried = none → o.toNat ≤ e.beat → Issues (.beat iss o) s iss.core { c.advance with late := c.late + 1#32 }) ∧
    (c.tried = none → o &&& 0x3E0FF#18 = 0#18 → ((c.rdG (fA o)).extractLsb' 0 32).toNat ≤ e.beat →
      Issues (.beatR iss o) s iss.core { c.advance with late := c.late + 1#32 }) ∧
    (c.armed = true → Issues (.kindleArm iss 0#18) s iss.core c.advance) ∧
    (c.armed = false → c.arms = 0 → 0 < c.waves →
      Issues (.kindleArm iss 0#18) s iss.core { c.advance with armed := true, arms := 1 }) ∧
    (∀ t, c.armed = false → 0 < c.arms → c.armFrom = some t → t ≤ e.now →
      Issues (.kindleArm iss 0#18) s iss.core { c.advance with armed := true, arms := c.arms + 1 }) ∧
    Issues (.kindleDisarm iss 0#18) s iss.core { c.advance with armed := false } ∧
    Issues (.stepend iss 0#18) s iss.core { c.advance with ended := true } ∧
    (o &&& 0x1FF8#18 = 0#18 →
      (fMod o = 0 → c.aswBusy = false → Issues (.statRead iss o) s iss.core (put (c.asw.zeroExtend 64))) ∧
      (fMod o = 1 → ∀ r, c.res = some r → r.lrow < 64 → r.lcol < 32 →
        Issues (.statRead iss o) s iss.core (put (BitVec.ofNat 64 (e.chip.toNat + 2 ^ 8 * r.lrow + 2 ^ 14 * r.lcol)))) ∧
      (fMod o = 2 → e.slot < 1024 → e.gen < 256 → e.part < 16 → e.rowIn < 64 → e.colIn < 32 →
        Issues (.statRead iss o) s iss.core
          (put (BitVec.ofNat 64 (e.slot + 2 ^ 10 * e.gen + 2 ^ 18 * e.part + 2 ^ 22 * e.rowIn + 2 ^ 28 * e.colIn)))) ∧
      (fMod o = 3 → e.beat < 2 ^ 32 → Issues (.statRead iss o) s iss.core (put (BitVec.ofNat 64 e.beat))) ∧
      (fMod o = 4 → Issues (.statRead iss o) s iss.core (put e.rt)) ∧
      (fMod o = 5 → Issues (.statRead iss o) s iss.core (put e.steps)) ∧
      (fMod o = 6 → Issues (.statRead iss o) s iss.core (put (c.late.zeroExtend 64))) ∧
      (fMod o = 7 → Issues (.statRead iss o) s iss.core (put e.ccSince))) ∧
    (o &&& 0x3E0FF#18 = 0#18 → c.aswBusy = false →
      Issues (.statClr iss o) s iss.core { c.advance with asw := c.asw &&& ~~~(c.rdG (fA o)).extractLsb' 0 32 })
  ) ∧
  (
  ∀ (s : State) (iss : Issue) (o : BitVec 18), Ready s iss → iss.slot.val = 0 → (s.core iss.core).acts iss = true →
    ∃ t q, exec (.hint iss o) s = .next t ∧ q < 4 ∧ (coresOfRegion (regionOfCore iss.core))[q]? = some iss.core.val ∧
      t.core iss.core = (s.core iss.core).advance ∧
      (∀ h, h ∈ (t.region (regionOfCore iss.core)).hints ↔
        h = { core := q, level := (o.extractLsb' 14 4).toNat, lead := (o.extractLsb' 0 14).toNat, since := (s.env iss.core).quarters,
              at_ := s.rt.now.toNat } ∨
        (h ∈ (s.region (regionOfCore iss.core)).hints ∧ h.core ≠ q)) ∧
      OnlyChanges [.cores, .slots, .reg, .free] s t
  )

/-- R107, R128 to R130: a BEAT of a beat to come and BEAT.NEXT hold the bundle, with WAITING set; each cc that it is held is charged to
cause 3 (R136); a retry issues it once its boundary has passed, and a BEAT that waited is not late. -/
def Obligations.WaitingBundlesHoldAndIssue : Prop :=
  (∀ (s : State) (iss : Issue) (o : BitVec 18), Ready s iss → iss.slot.val = 0 → (s.core iss.core).acts iss = true →
    (s.core iss.core).tried = none →
    let c := s.core iss.core
    let e := s.env iss.core
    let held := fun i : Sys2Proof.Instr => Waits i s iss.core
      { c with bundle := [i], holding := true, waiting := true, tried := some e.beat,
               armFrom := some (c.armFrom.getD e.armNext) }
    held (.beatNext iss 0#18) ∧ (e.beat < o.toNat → held (.beat iss o)) ∧
    (c.armed = false → c.arms = 0 → c.waves = 0 → held (.kindleArm iss 0#18))) ∧
  ∀ (s : State) (k : Fin 1728) (iss : Issue) (o : BitVec 18) (b : Nat), iss.slot.val = 0 → (s.core k).acts iss = true →
    (s.core k).tried = some b →
    (HeldReady s k (.beatNext iss 0#18) → b < (s.env k).beat → Issues (.waitingBundleIssue k) s k (s.core k).advance) ∧
    (HeldReady s k (.beat iss o) → o.toNat ≤ (s.env k).beat → Issues (.waitingBundleIssue k) s k (s.core k).advance) ∧
    (HeldReady s k (.beatNext iss 0#18) → (s.env k).beat ≤ b → ∃ d, Waits (.waitingBundleIssue k) s k d ∧
      d.bundle = [.beatNext iss 0#18] ∧ d.holding = true ∧ d.pc = (s.core k).pc ∧ d.g = (s.core k).g ∧
      (s.core k).chargeCycle (s.env k) = { s.core k with stall := Tbl.update 0#64 (s.core k).stall 3 (· + 1#64) })

/-- R105, R106: a syllable whose predicate selects nothing has no effect: its bundle only advances the core.

R104: every syllable of a bundle reads its registers before any syllable writes one: two MOVs exchange two registers.

R106, R112, R115: a fault that depends only on the syllable's bits is raised whether or not the syllable is active:
ILLEGAL_INSTRUCTION, then ILLEGAL_BUNDLE for a slot that its group may not occupy, then ILLEGAL_FORMAT.

R113, R114: at the bundle boundary a deferred fault is taken: the record names the bundle that started the work, and the context of
the core is ABORTED. -/
def Obligations.BundleRules : Prop :=
  (
  ∀ (s : State) (i : Sys2Proof.Instr) (y : Syl), sylOf i = some y → Ready s y.iss → y.active (s.core y.iss.core) = false →
    y.illegal = false → slotAllowed y.group y.iss.slot.val = true → (y.s1Only = true → y.iss.slot.val = 1) → y.badFormat = false →
    Issues i s y.iss.core (s.core y.iss.core).advance
  ) ∧
  (
  ∀ (s : State) (iss : Issue) (o p : BitVec 18), Ready s { iss with slot := 1, last := true } → (s.core iss.core).acts iss = true →
    fMod o = 0 → fB o = 0 → fMod p = 0 → fB p = 0 → fD o ≠ fD p →
    let a : Issue := { iss with slot := 0, last := false }
    let b : Issue := { iss with slot := 1, last := true }
    ∃ t u c, exec (.mov a o) s = .next t ∧ exec (.mov b p) t = .next u ∧ u.core iss.core = c ∧
      c.rdG (fD o) = (s.core iss.core).rdG (fA o) ∧ c.rdG (fD p) = (s.core iss.core).rdG (fA p) ∧
      (∀ r, r ≠ fD o → r ≠ fD p → c.rdG r = (s.core iss.core).rdG r) ∧
      c.pc = (s.core iss.core).pc + 16#64 ∧ c.issued = (s.core iss.core).issued + 1#48 ∧ c.bundle = []
  ) ∧
  (
  ∀ (s : State) (i : Sys2Proof.Instr) (y : Syl), sylOf i = some y → Ready s y.iss → Settled s y.iss.core →
    (y.illegal = true → FaultsWith i s y.iss 0x01#8 0#64) ∧
    (y.illegal = false → slotAllowed y.group y.iss.slot.val = false → FaultsWith i s y.iss 0x02#8 0#64) ∧
    (y.illegal = false → slotAllowed y.group y.iss.slot.val = true → (y.s1Only = true → y.iss.slot.val = 1) → y.badFormat = true →
      FaultsWith i s y.iss 0x03#8 0#64)
  ) ∧
  (
  ∀ (s : State) (k : Fin 1728) (f : FaultRec), (s.core k).fault = none → (s.core k).deferred = some f → f.code ≠ 0x08#8 →
    s.coreRuns k = true → Settled s k → (s.core k).emit = [] → (s.core k).outbound = [] → (s.core k).contribs = [] →
    (s.core k).hint = none →
    ∃ t, exec (.deferredFaultDelivery k) s = .next t ∧ (t.core k).fault = some f ∧ (t.core k).deferred = none ∧
      (t.core k).stopped = true ∧ (t.core k).g = (s.core k).g ∧ (t.core k).sp = (s.core k).sp ∧
      (t.slot (s.slotOf k)).state = .aborted ∧ (t.slot (s.slotOf k)).cause = 0x01#8 ∧ OnlyChanges endingContext s t
  )

/-- R124: lane-wise integer operations on INT32 lanes; VADD.I and VSUB.I saturate where mod[0] is 1; VABS.F and VNEG.F change only
sign bits; VSEL selects by a predicate. Lanes the predicate does not select keep their value (R105).

R121, R124: lane-wise FP32 operations; only the acting lanes' flags reach the status word. -/
def Obligations.VectorResults : Prop :=
  (
  ∀ (s : State) (iss : Issue) (o : BitVec 18), Ready s iss → iss.slot.val = 2 → (s.core iss.core).mask iss ≠ 0#64 →
    let c := s.core iss.core
    let a := fun j => lane (c.rdV (fA o)) j
    let b := fun j => lane (c.rdV (fB o)) j
    let d := fun j => lane (c.rdV (fD o)) j
    let sat := fun x : Int => if x < -2147483648 then 0x80000000#32 else if 2147483647 < x then 0x7FFFFFFF#32 else BitVec.ofInt 32 x
    let res := fun (i : Sys2Proof.Instr) (f : Nat → BitVec 32) => LaneResult i s iss (fD o) f
    (fMod o = 0 → res (.vaddI iss o) (fun j => a j + b j) ∧ res (.vsubI iss o) (fun j => a j - b j) ∧
      res (.vmulI iss o) (fun j => a j * b j) ∧ res (.vmadI iss o) (fun j => d j + a j * b j) ∧
      res (.vand iss o) (fun j => a j &&& b j) ∧ res (.vor iss o) (fun j => a j ||| b j) ∧ res (.vxor iss o) (fun j => a j ^^^ b j) ∧
      res (.vshl iss o) (fun j => a j <<< ((b j).extractLsb' 0 5).toNat) ∧
      res (.vshr iss o) (fun j => a j >>> ((b j).extractLsb' 0 5).toNat) ∧
      res (.vsra iss o) (fun j => (a j).sshiftRight ((b j).extractLsb' 0 5).toNat) ∧
      res (.vminI iss o) (fun j => if (b j).slt (a j) then b j else a j) ∧
      res (.vmaxI iss o) (fun j => if (a j).slt (b j) then b j else a j)) ∧
    (fMod o = 1 → res (.vaddI iss o) (fun j => sat ((a j).toInt + (b j).toInt)) ∧
      res (.vsubI iss o) (fun j => sat ((a j).toInt - (b j).toInt))) ∧
    (fMod o = 0 → fB o = 0 → res (.vabsF iss o) (fun j => a j &&& 0x7FFFFFFF#32) ∧
      res (.vnegF iss o) (fun j => a j ^^^ 0x80000000#32)) ∧
    res (.vsel iss o) (fun j => if (c.rdP (fMod o)).getLsbD j then a j else b j)
  ) ∧
  (
  ∀ (s : State) (iss : Issue) (o : BitVec 18), Ready s iss → iss.slot.val = 2 → (s.core iss.core).mask iss ≠ 0#64 →
    let c := s.core iss.core
    let a := fun j => lane (c.rdV (fA o)) j
    let b := fun j => lane (c.rdV (fB o)) j
    let d := fun j => lane (c.rdV (fD o)) j
    let rm := o.extractLsb' 0 2
    let res := fun (i : Sys2Proof.Instr) (f : Nat → BitVec 32 × FlagByte) => LaneFpResult i s iss (fD o) f
    (fMod o < 4 → res (.vaddF iss o) (fun j => fpAdd rm (a j) (b j)) ∧ res (.vsubF iss o) (fun j => fpSub rm (a j) (b j)) ∧
      res (.vmulF iss o) (fun j => fpMul rm (a j) (b j)) ∧ res (.vfmaF iss o) (fun j => fpFma rm (d j) (a j) (b j))) ∧
    (fMod o = 0 → res (.vminF iss o) (fun j => fpMin (a j) (b j)) ∧ res (.vmaxF iss o) (fun j => fpMax (a j) (b j)))
  )

/-- R125: VLD loads the acting lanes from 256 bytes of scratchpad, VST stores them, and neither touches another lane or byte.

R125: lane permutations, broadcast and insertion. -/
def Obligations.VectorLoadsStoresAndMoves : Prop :=
  (
  ∀ (s : State) (iss : Issue) (o : BitVec 18), Ready s iss → 2 ≤ iss.slot.val → (s.core iss.core).mask iss ≠ 0#64 →
    let c := s.core iss.core
    let a := (c.rdG (fA o) + (o.extractLsb' 0 8).signExtend 64 * 256#64).toNat
    let m := c.mask iss
    a % 4 = 0 → a + 256 ≤ 0x80000 → c.touches a 256 = false →
    ((∀ j < 64, m.getLsbD j = true → c.badIn (a + 4 * j) 4 = none) →
      LaneResult (.vld iss o) s iss (fD o) fun j =>
        Mem.read8 c.sp (a + 4 * j + 3) ++ Mem.read8 c.sp (a + 4 * j + 2) ++ Mem.read8 c.sp (a + 4 * j + 1) ++ Mem.read8 c.sp (a + 4 * j)) ∧
    ∃ (sp : Mem) (bad : Tbl Bool), Issues (.vst iss o) s iss.core { c.advance with sp := sp, spBad := bad } ∧
      ∀ x, Mem.read8 sp x = if a ≤ x ∧ x < a + 256 ∧ m.getLsbD ((x - a) / 4) = true
        then (lane (c.rdV (fD o)) ((x - a) / 4)).extractLsb' (8 * ((x - a) % 4)) 8 else Mem.read8 c.sp x
  ) ∧
  (
  ∀ (s : State) (iss : Issue) (o : BitVec 18), Ready s iss → 2 ≤ iss.slot.val → (s.core iss.core).mask iss ≠ 0#64 →
    let c := s.core iss.core
    let a := fun j => lane (c.rdV (fA o)) j
    let imm := (o.extractLsb' 2 6).toNat
    (fMod o = 0 → LaneResult (.vperm iss o) s iss (fD o) fun j => a ((lane (c.rdV (fB o)) j).extractLsb' 0 6).toNat) ∧
    (o &&& 0xFF#18 = 0#18 → LaneResult (.vbcast iss o) s iss (fD o) fun _ => (c.rdG (fA o)).extractLsb' 0 32) ∧
    (o &&& 0x3#18 = 0#18 →
      LaneResult (.vrot iss o) s iss (fD o) (fun j => a ((j + imm) % 64)) ∧
      LaneResult (.vins iss o) s iss (fD o)
        (fun j => if j = imm then (c.rdG (fA o)).extractLsb' 0 32 else lane (c.rdV (fD o)) j))
  )

/-- R125, R126: reductions to a scalar register, and VEXT. An FP32 reduction is the fixed tree of pairs: level by level, partials 2i and
2i + 1 are combined.

R127: vector compares and predicate logic write only the acting lanes' bits; PMOV.G copies a whole predicate. -/
def Obligations.VectorReductionsAndPredicates : Prop :=
  (
  ∀ (s : State) (iss : Issue) (o : BitVec 18), Ready s iss → 2 ≤ iss.slot.val → (s.core iss.core).acts iss = true →
    let c := s.core iss.core
    let a := fun j => lane (c.rdV (fA o)) j
    let put := fun v : BitVec 64 => c.advance.wrG (fD o) v
    let tree := fun (i : Sys2Proof.Instr) (f : BitVec 32 → BitVec 32 → BitVec 32 × FlagByte) =>
      ∃ (p : Nat → Nat → BitVec 32) (fl : FlagByte), (∀ j < 64, p 0 j = a j) ∧
        (∀ l < 6, ∀ j < 2 ^ (5 - l), p (l + 1) j = (f (p l (2 * j)) (p l (2 * j + 1))).1) ∧
        (∀ b < 8, fl.getLsbD b = true ↔ ∃ l < 6, ∃ j < 2 ^ (5 - l), (f (p l (2 * j)) (p l (2 * j + 1))).2.getLsbD b = true) ∧
        Issues i s iss.core ((put (0#32 ++ p 6 0)).orAsw fl)
    (o &&& 0xFC#18 = 0#18 → tree (.vredAddF iss o) (fpAdd (o.extractLsb' 0 2))) ∧
    (o &&& 0xFF#18 = 0#18 → tree (.vredMaxF iss o) fpMax ∧ tree (.vredMinF iss o) fpMin ∧
      Issues (.vredAddI iss o) s iss.core (put ((((List.range 64).map a).foldr (· + ·) 0#32).signExtend 64))) ∧
    (o &&& 0x3#18 = 0#18 → Issues (.vext iss o) s iss.core (put ((a (o.extractLsb' 2 6).toNat).signExtend 64)))
  ) ∧
  (
  ∀ (s : State) (iss : Issue) (o : BitVec 18), Ready s iss → 1 ≤ iss.slot.val →
    let c := s.core iss.core
    let a := fun j => lane (c.rdV (fA o)) j
    let b := fun j => lane (c.rdV (fB o)) j
    let m := c.mask iss
    let res := fun (i : Sys2Proof.Instr) (f : Nat → Bool) => BitResult i s iss (fD o) f
    (m ≠ 0#64 → 1 ≤ fD o → fD o ≤ 7 →
      (fMod o = 0 → res (.vcmpI iss o) fun j => a j == b j) ∧ (fMod o = 1 → res (.vcmpI iss o) fun j => a j != b j) ∧
      (fMod o = 2 → res (.vcmpI iss o) fun j => (a j).slt (b j)) ∧ (fMod o = 3 → res (.vcmpI iss o) fun j => (a j).sle (b j)) ∧
      (fMod o = 4 → res (.vcmpI iss o) fun j => (a j).ult (b j)) ∧ (fMod o = 5 → res (.vcmpI iss o) fun j => (a j).ule (b j)) ∧
      (fMod o ≤ 4 → ∃ (x : BitVec 64) (fl : FlagByte), Issues (.vcmpF iss o) s iss.core ((c.advance.wrP (fD o) x).orAsw fl) ∧
        (∀ j < 64, x.getLsbD j = if m.getLsbD j then (fpCompare (fMod o) (a j) (b j)).1 else (c.rdP (fD o)).getLsbD j) ∧
        (fl = flNANIN ∨ fl = 0#8) ∧
        (fl = flNANIN ↔ ∃ j < 64, m.getLsbD j = true ∧ ((fp (a j)).isNan = true ∨ (fp (b j)).isNan = true))) ∧
      (fMod o = 0 → fA o ≤ 7 → fB o ≤ 7 →
        res (.pand iss o) (fun j => (c.rdP (fA o)).getLsbD j && (c.rdP (fB o)).getLsbD j) ∧
        res (.por iss o) (fun j => (c.rdP (fA o)).getLsbD j || (c.rdP (fB o)).getLsbD j) ∧
        res (.pxor iss o) (fun j => (c.rdP (fA o)).getLsbD j ^^ (c.rdP (fB o)).getLsbD j) ∧
        res (.pandn iss o) (fun j => (c.rdP (fA o)).getLsbD j && !(c.rdP (fB o)).getLsbD j)) ∧
      (o &&& 0xFF#18 = 0#18 → res (.pmovP iss o) fun j => (c.rdG (fA o)).getLsbD j)) ∧
    (c.acts iss = true → o &&& 0xFF#18 = 0#18 → fA o ≤ 7 → Issues (.pmovG iss o) s iss.core (c.advance.wrG (fD o) (c.rdP (fA o))))
  )

/-! The matrix engines, conversion, DMA, messages and offload (chapters 04 and 05). -/

/-- R146 to R153: a group 0x9 syllable that nothing holds hands its operation, with the register it read, to its engine; an MMA also
arms the engines (R129). Operands are aligned and lie in the scratchpad. -/
def Obligations.MatrixOperationsQueue : Prop :=
  ∀ (s : State) (iss : Issue) (o : BitVec 18), Ready s iss → iss.slot.val = 3 → (s.core iss.core).acts iss = true →
    let c := s.core iss.core
    let eng := fEng o
    let queued := fun (d : Core) (i : Sys2Proof.Instr) (ga : BitVec 64) =>
      d.setEngine eng (c.engine eng ++ [{ op := i, ga := ga, pc := c.pc, slot := 3 }])
    let room := fun (i : Sys2Proof.Instr) (ga : BitVec 64) =>
      (c.engine eng).length < 2 ∧ c.crossBusy o { op := i, ga := ga, pc := c.pc, slot := 3 } = false
    let takes := fun (i : Sys2Proof.Instr) (ga : BitVec 64) => room i ga → Issues i s iss.core (queued c.advance i ga)
    let fits := fun (ga : BitVec 64) (align n : Nat) => (ga.extractLsb' 0 19).toNat % align = 0 ∧ (ga.extractLsb' 0 19).toNat + n ≤ 0x80000
    let armed := if c.armed then c.advance else { c.advance with armed := true, arms := c.arms + 1 }
    let window := fun ga : BitVec 64 => -400 ≤ (ga.extractLsb' 0 16).toInt ∧ (ga.extractLsb' 0 16).toInt ≤ 300
    (∀ fa fb : Fmt, fmtAt o 13 10 = some fa → fmtAt o 9 6 = some fb →
      let ga := c.rdG (bits o.toNat 5 1)
      c.armWaits (s.env iss.core) = false → c.tileBusyMma (fTile o) = false →
      fits ga 32 (operandBytes fa (o.getLsbD 0)) → (ga.extractLsb' 32 19).toNat % 32 = 0 →
      (ga.extractLsb' 32 19).toNat + operandBytes fb (o.getLsbD 0) ≤ 0x80000 →
      ((o.getLsbD 0 = true → fa.scalable = true ∧ fb.scalable = true) → room (.mmaKaf iss o) ga →
        Issues (.mmaKaf iss o) s iss.core (queued armed (.mmaKaf iss o) ga)) ∧
      (o.getLsbD 0 = false → fa.scalable = false → fb.scalable = false → room (.mmaF32 iss o) ga →
        Issues (.mmaF32 iss o) s iss.core (queued armed (.mmaF32 iss o) ga))) ∧
    (c.tileBusy (fTile o) = false →
      let ga := c.rdG (fA o)
      (o &&& 0x20FF#18 = 0#18 → window ga → takes (.mwin iss o) ga ∧ takes (.mrwin iss o) ga) ∧
      (o &&& 0x20FF#18 = 0#18 → fits ga 64 16400 → takes (.mstk iss o) ga ∧ takes (.mldk iss o) ga) ∧
      (o &&& 0x3FFF#18 = 0#18 → takes (.mzeroF iss o) ga) ∧
      (∀ f : Fmt, fmtAt o 13 10 = some f → (o.getLsbD 6 = true → f.scalable = true) →
        fits (c.rdG (o.extractLsb' 0 5).toNat) 32 (operandBytes f (o.getLsbD 6)) →
        takes (.mst iss o) (c.rdG (o.extractLsb' 0 5).toNat)))

/-- R56, R144 to R152: what the operation at the head of an engine does when it completes: MWIN writes zeros on its window, MZERO.F
float zeros, MRWIN re-windows every element, an MMA adds its exact products to every element, MSTK and MLDK store and load the tile
as it stands, MST converts its elements by rows or by columns into the layout of R147. It leaves the engine, and nothing but the core changes. -/
def Obligations.MatrixOpDoneResults : Prop :=
  ∀ (s : State) (k : Fin 1728) (e : Fin 2) (q : EngOp) (rest : List EngOp), UnitReady (s.core k) → (s.core k).engine e = q :: rest →
    (s.env k).hold = false → (s.env k).permitted = true → (s.env k).clockChange = false →
    let c := s.core k
    let ends := fun d : Core => exec (.matrixOpDone k e) s = .next { s.setCore k (d.setEngine e rest) with free := s.free + 1 }
    let win := (q.ga.extractLsb' 0 16).toInt
    let at_ := (q.ga.extractLsb' 0 19).toNat
    (∀ iss o, q.op = .mwin iss o → ∃ x : Tile, ends (c.setTile (fTile o) x) ∧ x.flag = 0#8 ∧ x.twin = q.ga.extractLsb' 0 16 ∧
      x.bad = [] ∧ ∀ j < 1024, x.elem j = kafZero win) ∧
    (∀ iss o, q.op = .mzeroF iss o → ∃ x : Tile, ends (c.setTile (fTile o) x) ∧ x.flag = 0#8 ∧ x.twin = (c.tile (fTile o)).twin ∧
      ∀ j < 1024, x.elem j = kafWrite (.flt 0#32)) ∧
    (∀ iss o, q.op = .mrwin iss o → ∃ (x : Tile) (fl : FlagByte), ends ((c.setTile (fTile o) x).orAsw fl) ∧
      x.flag = (c.tile (fTile o)).flag ||| fl ∧ x.twin = q.ga.extractLsb' 0 16 ∧
      (∀ j < 1024, x.elem j = (kafRewindow ((c.tile (fTile o)).elem j) win).1) ∧
      ∀ b < 8, fl.getLsbD b = true ↔ ∃ j < 1024, (kafRewindow ((c.tile (fTile o)).elem j) win).2.getLsbD b = true) ∧
    (∀ (float : Bool) iss o fa fb, q.op = (if float then .mmaF32 iss o else .mmaKaf iss o) → fmtAt o 13 10 = some fa → fmtAt o 9 6 = some fb →
      let b := (q.ga.extractLsb' 32 19).toNat
      let x0 := c.tile (fTile o)
      c.badIn at_ (operandBytes fa (o.getLsbD 0)) = none → c.badIn b (operandBytes fb (o.getLsbD 0)) = none →
      let el := fun i j : Nat => mmaElem float x0.twin.toInt (x0.elem (32 * i + j)) (operandVector c fa (o.getLsbD 0) at_ i)
        (operandVector c fb (o.getLsbD 0) b j)
      ∃ (x : Tile) (fl : FlagByte), ends ((c.setTile (fTile o) x).orAsw fl) ∧ x.flag = x0.flag ||| fl ∧ x.twin = x0.twin ∧
        (∀ i < 32, ∀ j < 32, x.elem (32 * i + j) = (el i j).1) ∧
        ∀ n < 8, fl.getLsbD n = true ↔ ∃ i < 32, ∃ j < 32, (el i j).2.getLsbD n = true) ∧
    (∀ iss o f, q.op = .mst iss o → fmtAt o 13 10 = some f → (c.tile (fTile o)).bad = [] →
      let w := f.width
      let mode := RMode.ofBits (o.extractLsb' 8 2)
      let val := fun v j : Nat => (kafValue ((c.tile (fTile o)).elem (if o.getLsbD 5 then 32 * j + v else 32 * v + j))).1
      ∃ (m : Mem) (bad : Tbl Bool) (x : Tile) (fl : FlagByte), ends ((({ c with sp := m, spBad := bad } : Core).setTile (fTile o) x).orAsw fl) ∧
        x.elems = (c.tile (fTile o)).elems ∧ x.flag = (c.tile (fTile o)).flag ||| fl ∧
        (o.getLsbD 6 = false → ∀ v < 32, ∀ j < 32, Mem.readLE m (at_ + 4 * w * v) (4 * w) / 2 ^ (j * w) % 2 ^ w =
          (encode f mode (o.getLsbD 7) false (val v j)).1 % 2 ^ w) ∧
        (o.getLsbD 6 = true → ∀ v < 32,
          let block := convertBlock f mode ((List.range 32).map (val v))
          (Mem.read8 m (at_ + 128 * w + v)).toNat = block.1 % 256 ∧
          ∀ j < 32, Mem.readLE m (at_ + 4 * w * v) (4 * w) / 2 ^ (j * w) % 2 ^ w = block.2.1.getD j 0 % 2 ^ w) ∧
        ∀ a, a < at_ ∨ at_ + operandBytes f (o.getLsbD 6) ≤ a → Mem.read8 m a = Mem.read8 c.sp a) ∧
    (∀ iss o, q.op = .mstk iss o → (c.tile (fTile o)).bad = [] → ∃ (m : Mem) (bad : Tbl Bool), ends { c with sp := m, spBad := bad } ∧
      (∀ j < 1024, Mem.readLE m (at_ + 16 * j) 16 = ((c.tile (fTile o)).elem j).toNat) ∧
      Mem.read8 m (at_ + 16384) = (c.tile (fTile o)).flag ∧
      ∀ a, a < at_ ∨ at_ + 16400 ≤ a → Mem.read8 m a = Mem.read8 c.sp a) ∧
    (∀ iss o, q.op = .mldk iss o → c.badIn at_ 16400 = none → ∃ x : Tile, ends (c.setTile (fTile o) x) ∧
      (∀ j < 1024, (x.elem j).toNat = Mem.readLE c.sp (at_ + 16 * j) 16) ∧ x.flag = Mem.read8 c.sp (at_ + 16384))

/-- R144, R152: an MSTK of a tile followed by an MLDK of the same area into another tile of the engine moves its elements and flag
byte.

R156, R157: CVT converts 64 elements of va, in blocks of 32 with a scale each where the formats are scaled, and ORs their flags
into the status word; bytes beyond the codes and scales are zero. -/
def Obligations.TilesAndConversion : Prop :=
  (
  ∀ (c : Core) (a : BitVec 64) (iss : Issue) (o p : BitVec 18) (pc : BitVec 64), (c.tile (fTile o)).bad = [] → c.spBad = [] →
    let st : EngOp := { op := .mstk iss o, ga := a, pc := pc, slot := 3 }
    let ld : EngOp := { op := .mldk iss p, ga := a, pc := pc, slot := 3 }
    let d := runEngOp (runEngOp c st) ld
    (∀ j < 1024, (d.tile (fTile p)).elem j = (c.tile (fTile o)).elem j) ∧ (d.tile (fTile p)).flag = (c.tile (fTile o)).flag
  ) ∧
  (
  ∀ (s : State) (iss : Issue) (m : BitVec 6) (o : BitVec 18) (fd fs : Fmt), Ready s iss → 2 ≤ iss.slot.val →
    (s.core iss.core).acts iss = true → fmtAt o 7 4 = some fd → fmtAt o 3 0 = some fs → m.getLsbD 0 = false →
    let c := s.core iss.core
    let va := c.rdV (fA o)
    let ss := m.getLsbD 2
    let mode := RMode.ofBits (m.extractLsb' 4 2)
    let src := fun k : Nat => decodeElem fs (va.toNat / 2 ^ (k * fs.width) % 2 ^ fs.width)
      (if ss then some (va.extractLsb' (8 * (248 + k / 32)) 8).toNat else none)
    (m.getLsbD 1 = true → fd.scalable = true) → (ss = true → fs.scalable = true) →
    let code := fun k : Nat => encode fd mode (m.getLsbD 3) false (src k)
    let block := fun b : Nat => convertBlock fd mode ((List.range 32).map fun k => src (32 * b + k))
    ∃ (x : BitVec 2048) (fl : FlagByte), Issues (.cvt iss m o) s iss.core ((c.advance.wrV (fD o) x).orAsw fl) ∧
      (m.getLsbD 1 = false →
        (∀ k < 64, x.toNat / 2 ^ (k * fd.width) % 2 ^ fd.width = (code k).1 % 2 ^ fd.width) ∧
        (∀ n, 64 * fd.width ≤ n → x.getLsbD n = false) ∧
        ∀ n < 8, fl.getLsbD n = true ↔ ∃ k < 64, ((code k).2 ||| nanIn (src k)).getLsbD n = true) ∧
      (m.getLsbD 1 = true →
        (∀ b < 2, (x.extractLsb' (8 * (248 + b)) 8).toNat = (block b).1 % 256 ∧
          ∀ k < 32, x.toNat / 2 ^ ((32 * b + k) * fd.width) % 2 ^ fd.width = ((block b).2.1.getD k 0) % 2 ^ fd.width) ∧
        (∀ n, 64 * fd.width ≤ n → n < 1984 ∨ 2000 ≤ n → x.getLsbD n = false) ∧
        ∀ n < 8, fl.getLsbD n = true ↔ (∃ b < 2, (block b).2.2.getLsbD n = true) ∨ ∃ k < 64, (nanIn (src k)).getLsbD n = true)
  )

/-- R158 to R160: a DMA whose shape, scratchpad range and device range pass R159 joins the outstanding ones and adds one to its
counter; DMA.FENCE issues when every counter it selects is zero. -/
def Obligations.DmaSyllables : Prop :=
  ∀ (s : State) (iss : Issue) (o : BitVec 18), Ready s iss → iss.slot.val = 1 → (s.core iss.core).acts iss = true →
    let c := s.core iss.core
    let gl := c.rdG (fB o)
    let gs := ((c.rdG (fD o)).extractLsb' 0 19).toNat
    let gv := ((c.rdG (fA o)).extractLsb' 0 48).toNat
    let rb := (gl.extractLsb' 0 16).toNat
    let rows := (gl.extractLsb' 16 12).toNat + 1
    let stride := (gl.extractLsb' 28 36).toNat
    let shape := rb ≠ 0 ∧ rb % 64 = 0 ∧ rb ≤ 32768 ∧ gs % 64 = 0 ∧ gs + rb * rows ≤ 0x80000 ∧ c.dmas.length < 16
    let last := gv + (rows - 1) * stride + rb
    let place := (gv % 64 = 0 ∧ stride % 64 = 0 ∧ last ≤ 0xA000000000) ∨
      (0x10000000000 ≤ gv ∧ gv % 4096 = 0 ∧ stride % 4096 = 0 ∧ rb % 4096 = 0 ∧ last ≤ (s.env iss.core).t2top)
    let joined := fun store : Bool =>
      { c.advance with
        dmas := c.dmas ++ [{ store := store, gs := gs, gv := gv, rowBytes := rb, rows := rows, stride := stride, q := fMod o,
                             moved := 0, out := [], pc := c.pc, slot := 1 }],
        dmaCnt := Tbl.update 0 c.dmaCnt (fMod o) (· + 1) }
    (shape → place → Issues (.dmaLd iss o) s iss.core (joined false)) ∧
    (shape → place → (rb ≤ stride ∨ rows = 1) → Issues (.dmaSt iss o) s iss.core (joined true)) ∧
    (o &&& 0x3FF00#18 = 0#18 → (∀ q < 8, o.getLsbD q = true → Tbl.get 0 c.dmaCnt q = 0) →
      Issues (.dmaFence iss o) s iss.core c.advance)

/-- R160, R161: a row of a DMA.ST that the layout allows leaves the scratchpad with its device address and stands in device memory when the
DMA completes, with no other byte of device memory changed; completing a DMA drops its counter and is progress. A row that the layout
does not allow is a deferred fault of code 0x1A, and the counter drops. Under throttle level 3 of a stack it reaches, a row waits (R293). -/
def Obligations.DmaRowsAndCompletion : Prop :=
  ∀ (s : State) (k : Fin 1728) (i : Fin 16) (d : Dma) (r : Resident), UnitReady (s.core k) → (s.core k).res = some r →
    (s.core k).dmas[i.val]? = some d →
    let c := s.core k
    let a := d.gv + d.moved * d.stride
    let sp := d.gs + d.moved * d.rowBytes
    (d.moved < d.rows → d.store = true → s.blocked a d.rowBytes = false →
      (s.slot r.slot).rowAllowed true a d.rowBytes = true → c.badIn sp d.rowBytes = none →
      ∃ t, exec (.dmaRowMove k i) s = .next t ∧
        (t.core k).dmas[i.val]? = some { d with moved := d.moved + 1, out := d.out ++ [(a, Mem.read c.sp sp d.rowBytes)] } ∧
        t.core k = { c with dmas := (t.core k).dmas } ∧ (∀ j ≠ k.val, t.core j = s.core j) ∧ OnlyChanges [.cores] s t) ∧
    (d.moved < d.rows → s.blocked a d.rowBytes = true →
      ∃ t, exec (.dmaRowMove k i) s = .next t ∧ (∀ j, t.core j = s.core j) ∧ OnlyChanges [.cores] s t) ∧
    (d.moved < d.rows → s.blocked a d.rowBytes = false → (s.slot r.slot).rowAllowed d.store a d.rowBytes = false → d.out = [] →
      c.waiting = false → c.ended = false →
      ∃ t, exec (.dmaRowMove k i) s = .next t ∧
        t.core k = { c with dmas := c.dmas.erase d, dmaCnt := Tbl.update 0 c.dmaCnt d.q (· - 1),
                            deferred := some { code := 0x1A#8, slot := d.slot, deferred := true, pc := d.pc, addr := 0#64 } } ∧
        (∀ j ≠ k.val, t.core j = s.core j) ∧ OnlyChanges [.cores] s t) ∧
    (d.rows ≤ d.moved →
      ∃ t, exec (.dmaComplete k i) s = .next t ∧
        t.core k = { c with dmas := c.dmas.eraseIdx i, dmaCnt := Tbl.update 0 c.dmaCnt d.q (· - 1) } ∧
        (t.slot r.slot).pw.idleMs = 0 ∧ (∀ j ≠ k.val, t.core j = s.core j) ∧
        (∀ b bs, d.out = [(b, bs)] → b % 64 = 0 → bs.length % 64 = 0 → b + bs.length ≤ 0xA000000000 →
          (∀ j < bs.length, t.mem.byte (b + j) = bs.getD j 0#8) ∧
          ∀ x, x < b ∨ b + bs.length ≤ x → t.mem.byte x = s.mem.byte x) ∧
        (d.out = [] → t.mem = s.mem) ∧ OnlyChanges [.cores, .slots, .mem, .recorder] s t)

/-- R162 to R164, R180, R182, R190, R191: a SEND that its credits cover spends the charge and puts a DATA message with its payload into
the outbound buffer, from which one for another chip leaves for a port at once (R257); with a payload word that cannot be corrected no
message leaves and the fault is deferred (R168). RECV opens the next held message and writes its place. CREDIT releases the oldest open
messages: their charges join the credit-returns of their sources, which leave 8 cc after the first release they carry. -/
def Obligations.MessageSyllables : Prop :=
  ∀ (s : State) (iss : Issue) (o : BitVec 18), Ready s iss → iss.slot.val = 1 → (s.core iss.core).acts iss = true →
    let c := s.core iss.core
    let e := s.env iss.core
    let U := (o.extractLsb' 2 6).toNat + 1
    let a := ((c.rdG (fA o)).extractLsb' 0 19).toNat
    let p := endpointOf (c.rdG (fD o))
    let b := (o.extractLsb' 0 4).toNat
    let box := Tbl.get Mbox.reset c.mbox b
    (∀ (t : CreditEntry) (r : Resident), o &&& 0x3#18 = 0#18 → c.res = some r → p.chip.toNat ∈ e.members →
      (p.chip = s.fab.chipId →
        e.row0 ≤ p.row.toNat ∧ p.row.toNat < e.row0 + e.nrows ∧ e.col0 ≤ p.col.toNat ∧ p.col.toNat < e.col0 + e.ncols) →
      a % 64 = 0 → a + 64 * U ≤ 0x80000 → c.writePending a (64 * U) = false →
      c.credits.find? (fun e => e.isFor p) = some t → (place U t.size t.credits t.wptr).2.1 ≤ t.credits →
      let spent : Core :=
        { c.advance with
          credits := c.credits.map fun u => if u.isFor p then
            { u with credits := u.credits - (place U u.size u.credits u.wptr).2.1, wptr := (place U u.size u.credits u.wptr).2.2,
                     seq := u.seq + 1#16 } else u,
          sent := c.sent + 1#32 }
      let m : Msg :=
        { kind := .data, srcChip := s.fab.chipId, srcRow := BitVec.ofNat 6 r.lrow, srcCol := BitVec.ofNat 5 r.lcol, dstChip := p.chip,
          dstRow := p.row, dstCol := p.col, mbox := p.mbox, gen := (s.slot r.slot).gen, seq := t.seq,
          offset := BitVec.ofNat 12 (place U t.size t.credits t.wptr).1, units := BitVec.ofNat 13 (place U t.size t.credits t.wptr).2.1,
          len6 := o.extractLsb' 2 6, payload := Mem.read c.sp a (64 * U) }
      (c.badIn a (64 * U) = none → p.chip = s.fab.chipId → Issues (.send iss o) s iss.core { spent with outbound := [m] }) ∧
      (c.badIn a (64 * U) = none → p.chip ≠ s.fab.chipId →
        ∃ u, exec (.send iss o) s = .next u ∧ u.core iss.core = spent ∧ u.fab = (s.route r.slot (msgHome m) (msgFrame m)).fab ∧
          u.out = (s.route r.slot (msgHome m) (msgFrame m)).out ∧ (∀ q ≠ iss.core.val, u.core q = s.core q) ∧
          OnlyChanges [.cores, .slots, .fab, .out, .free] s u) ∧
      (∀ w, c.badIn a (64 * U) = some w → Issues (.send iss o) s iss.core
        { spent with deferred := some { code := 0x08#8, slot := iss.slot.val, deferred := true, pc := c.pc, addr := BitVec.ofNat 64 w } })) ∧
    (∀ (d : MboxDesc) (h : HeldMsg), o &&& 0x1FF0#18 = 0#18 → Tbl.get none c.desc b = some d → nextHeld d box = some h →
      let moved := if box.cursor = d.nsrc then 0 else box.cursor + 1
      let x := recvWord c d h
      Issues (.recv iss o) s iss.core
          { c.advance.wrG (fD o) x with
            mbox := Tbl.set Mbox.reset c.mbox b
              { held := box.held.erase h, opened := box.opened ++ [h], cursor := if d.rota = true then moved else box.cursor },
            returned := c.returned + 1#32 } ∧
        (x.extractLsb' 0 19).toNat = (d.base + subRing c d h.src + 64 * h.offset) % 2 ^ 19 ∧ (x.extractLsb' 19 6).toNat = h.len6 % 64 ∧
        x.extractLsb' 32 16 = h.seq ∧ x.extractLsb' 48 8 = h.chip) ∧
    (∀ d : MboxDesc, let n := (o.extractLsb' 4 6).toNat + 1
      o &&& 0x3FC00#18 = 0#18 → Tbl.get none c.desc b = some d → n ≤ box.opened.length →
      let units := fun (l : List CreditDue) (k : Nat) => ((l.filter fun q => q.mbox = b ∧ q.src = k).map (·.units)).sum
      ∃ due : List CreditDue,
        Issues (.credit iss o) s iss.core
          { c.advance with mbox := Tbl.set Mbox.reset c.mbox b { box with opened := box.opened.drop n }, creditDue := due } ∧
        (∀ k, units due k = units c.creditDue k + (((box.opened.take n).filter fun h => h.src = k).map (·.charge)).sum) ∧
        ∀ q ∈ due, q ∈ c.creditDue ∨ (q.mbox = b ∧ (q.since = e.quarters ∨ ∃ y ∈ c.creditDue, y.mbox = b ∧ y.src = q.src ∧ q.since = y.since))) ∧
    ∀ q ∈ c.creditDue, ∀ d : MboxDesc, Tbl.get none c.desc q.mbox = some d →
      (q.since + 32 ≤ e.quarters → creditReturn e c d q.mbox q.src q.units ∈ (c.returnCredits e).emit ∧ q ∉ (c.returnCredits e).creditDue) ∧
      (e.quarters < q.since + 32 → q ∈ (c.returnCredits e).creditDue)

/-- R165, R166, R266: a contribution to a chunk instance that is not open opens it and joins it; RPUT.T gives a tile's elements and
flag byte, RPUT.S scratchpad elements and the status word's low byte. -/
def Obligations.ReductionOffloadOpensAnInstance : Prop :=
  ∀ (s : State) (iss : Issue) (o : BitVec 18) (d : RedDesc), Ready s iss → iss.slot.val = 1 → (s.core iss.core).acts iss = true →
    let c := s.core iss.core
    let n := s.slotOf iss.core
    let i := ((c.rdG (fA o)).extractLsb' 0 8).toNat
    let chunk := ((c.rdG (fA o)).extractLsb' 16 16).toNat
    let at_ := ((c.rdG (fD o)).extractLsb' 0 19).toNat
    let joins := fun (cmd : Sys2Proof.Instr) (x : Contribution) => ∃ t, exec cmd s = .next t ∧
      t.fab.insts = s.fab.insts ++ [((RedInst.new { slot := n, desc := i, chunk := chunk }).add d x).1] ∧
      t.core iss.core = c.advance ∧ OnlyChanges [.cores, .slots, .fab, .free] s t
    (s.slot n).prog.descs[i]? = some d → c.offloads = [] → s.fab.insts.length < 4096 →
    (∀ x ∈ s.fab.insts, ¬(x.slot = n ∧ x.desc = i ∧ x.chunk = chunk)) →
    (o &&& 0x20FF#18 = 0#18 → c.tileBusy (fTile o) = false → (c.tile (fTile o)).bad = [] →
      joins (.rputT iss o) { desc := i, chunk := chunk, elems := (List.range 1024).map (c.tile (fTile o)).elem,
                             flag := (c.tile (fTile o)).flag }) ∧
    (o &&& 0xFF#18 = 0#18 → c.aswBusy = false → at_ % 64 = 0 → at_ + 16 * d.count ≤ 0x80000 → c.badIn at_ (16 * d.count) = none →
      c.writePending at_ (16 * d.count) = false →
      joins (.rputS iss o) { desc := i, chunk := chunk,
                             elems := (List.range d.count).map fun j => BitVec.ofNat 128 (Mem.readLE c.sp (at_ + 16 * j) 16),
                             flag := c.asw.extractLsb' 0 8 })

/-- R186, R187: a DATA message or a completion that passes every check is deposited at its sub-ring and held, its source's expected
sequence number advances, and its context makes progress.

R187: what fails a check is discarded: another generation counts in MSG_DROP.GEN and does nothing else, a duplicate counts in
MSG_DROP.DUP and does nothing else. -/
def Obligations.MessageDelivery : Prop :=
  (
  ∀ (s : State) (m : Msg) (k : Nat) (r : Resident) (d : MboxDesc) (src : Nat), (m.kind = .data ∨ m.kind = .completion) →
    m.dstChip = s.fab.chipId → m.dstRow ≠ 63#6 → s.phys m.dstRow.toNat m.dstCol.toNat = some k → (s.core k).res = some r →
    s.genMatches r.slot m.srcChip m.gen = true → Tbl.get none (s.core k).desc m.mbox.toNat = some d →
    (s.core k).sourceOf d m = some src → m.seq = Tbl.get 0#16 (s.core k).expSeq (64 * m.mbox.toNat + src) →
    placeOk (Tbl.get Mbox.reset (s.core k).mbox m.mbox.toNat) src (((s.core k).source d src).share + 1) m = true →
    let c := s.core k
    let at_ := d.base + subRing c d src + 64 * m.offset.toNat
    let box := Tbl.get Mbox.reset c.mbox m.mbox.toNat
    ∃ t, exec (.messageDeposit m) s = .next t ∧
      (∀ j < m.payload.length, Mem.read8 (t.core k).sp (at_ + j) = m.payload.getD j 0#8) ∧
      (∀ a, a < at_ ∨ at_ + m.payload.length ≤ a → Mem.read8 (t.core k).sp a = Mem.read8 c.sp a) ∧
      (Tbl.get Mbox.reset (t.core k).mbox m.mbox.toNat).held = box.held ++
        [{ src := src, chip := m.srcChip, seq := m.seq, offset := m.offset.toNat, len6 := m.len6.toNat, charge := m.units.toNat }] ∧
      Tbl.get 0#16 (t.core k).expSeq (64 * m.mbox.toNat + src) = m.seq + 1#16 ∧ (t.slot r.slot).pw.idleMs = 0 ∧
      (∀ q, (t.core q).g = (s.core q).g ∧ (t.core q).pc = (s.core q).pc ∧ (q ≠ k → (t.core q).sp = (s.core q).sp)) ∧
      OnlyChanges ([.cores, .slots, .mesh] ++ reporting) s t
  ) ∧
  (
  ∀ (s : State) (m : Msg) (k : Nat) (r : Resident), m.kind = .data → m.dstChip = s.fab.chipId → m.srcChip ≠ s.fab.chipId →
    m.dstRow ≠ 63#6 → s.phys m.dstRow.toNat m.dstCol.toNat = some k → (s.core k).res = some r →
    let c := s.core k
    (s.genMatches r.slot m.srcChip m.gen = false →
      ∃ t, exec (.messageDeposit m) s = .next t ∧ t.core k = { c with drop := { c.drop with gen := min 0xFFFF (c.drop.gen + 1) } } ∧
        (∀ q ≠ k, t.core q = s.core q) ∧ OnlyChanges (.cores :: reporting) s t) ∧
    (∀ d src, s.genMatches r.slot m.srcChip m.gen = true → Tbl.get none c.desc m.mbox.toNat = some d → c.sourceOf d m = some src →
      32768 ≤ (m.seq - Tbl.get 0#16 c.expSeq (64 * m.mbox.toNat + src)).toNat →
      ∃ t, exec (.messageDeposit m) s = .next t ∧ t.core k = { c with drop := { c.drop with dup := min 0xFFFF (c.drop.dup + 1) } } ∧
        (∀ q ≠ k, t.core q = s.core q) ∧ OnlyChanges (.cores :: reporting) s t)
  )

/-- R178, R182: a grant that a core has no entry for makes one with S units of credit and is acknowledged; an acknowledgement stops the
grant's repetition; a credit-return within S adds its units. Messages here come from another chip. -/
def Obligations.GrantsAndCredits : Prop :=
  ∀ (s : State) (m : Msg) (k : Nat) (r : Resident), m.dstChip = s.fab.chipId → m.srcChip ≠ s.fab.chipId → m.dstRow ≠ 63#6 →
    s.phys m.dstRow.toNat m.dstCol.toNat = some k → (s.core k).res = some r → s.genMatches r.slot m.srcChip m.gen = true →
    let c := s.core k
    let from_ := fun e : CreditEntry => e.chip = m.srcChip ∧ e.row = m.srcRow ∧ e.col = m.srcCol ∧ e.mbox = m.mbox
    let fresh : CreditEntry := ⟨m.srcChip, m.srcRow, m.srcCol, m.mbox, m.units.toNat, m.units.toNat, 0, 0#16⟩
    ((∀ e ∈ c.credits, ¬from_ e) → c.credits.length < 64 →
      ∃ t, exec (.grant m) s = .next t ∧ t.core k = { c with credits := c.credits ++ [fresh], sendWait := (t.core k).sendWait } ∧
        (c.sendWait = SendWait.none → (t.core k).sendWait = SendWait.none) ∧
        t.fab = (s.route r.slot (msgHome (grantAckOf m (s.slot r.slot).gen)) (msgFrame (grantAckOf m (s.slot r.slot).gen))).fab ∧
        (∀ q ≠ k, t.core q = s.core q) ∧ OnlyChanges [.cores, .fab, .out] s t) ∧
    (∃ t, exec (.grantAck m) s = .next t ∧
      (∀ g, g ∈ (t.core k).grants ↔ g ∈ c.grants ∧
        ¬(g.dstChip = m.srcChip ∧ g.dstRow = m.srcRow ∧ g.dstCol = m.srcCol ∧ g.mbox = m.mbox)) ∧
      t.core k = { c with grants := (t.core k).grants } ∧ (∀ q ≠ k, t.core q = s.core q) ∧ OnlyChanges [.cores] s t) ∧
    (∀ e, c.credits.find? (fun e => e.isFor (senderOf m)) = some e → e.credits + m.units.toNat ≤ e.size →
      ∃ t, exec (.creditReturn m) s = .next t ∧ (∀ q ≠ k, t.core q = s.core q) ∧
        (t.core k).credits.find? (fun e => e.isFor (senderOf m)) = some { e with credits := e.credits + m.units.toNat } ∧
        t.core k = { c with credits := (t.core k).credits, sendWait := (t.core k).sendWait } ∧
        (c.sendWait = SendWait.none → (t.core k).sendWait = SendWait.none) ∧ OnlyChanges (.cores :: reporting) s t) ∧
    (∀ q : Fin 1728, (s.core q).res = some r → (s.slot r.slot).state = .running → (∀ g ∈ (s.core q).grants, g.dstChip = s.fab.chipId) →
      ∃ t, exec (.grantRepeat q) s = .next t ∧ t.mesh = s.mesh ++ (s.core q).grants ∧ OnlyChanges [.mesh] s t)

/-- R266 to R268: a partial whose local contributions are all in: the owner keeps it; a member that is not the owner sends its parts to
the owner, and of a REDUCE_SCATTER chunk closes its instance; in an ALL_GATHER each member writes its own contribution and sends it to
every other.

R267 to R269: a final instance: the owner writes the result and sends it on for REDUCE; the completion, with the flags of R269, is
delivered and the instance closes once the reduction units' credits cover it, and waits until then (R179). After either, what waited for
an instance to close goes on (R270). -/
def Obligations.ReductionInstancesAdvance : Prop :=
  ∀ (s : State) (n : Fin 1024) (i : BitVec 8) (chunk : BitVec 16) (d : RedDesc) (x : RedInst),
    (s.slot n).prog.descs[i.toNat]? = some d → x ∈ s.fab.insts →
    x.slot = n → x.desc = i.toNat → x.chunk = chunk.toNat →
    (∀ y ∈ s.fab.insts, y.slot = n.val → y.desc = i.toNat → y.chunk = chunk.toNat → y = x) →
    let own := s.redOwner n chunk.toNat = s.meIdx n
    let key : InstKey := { slot := n, desc := i.toNat, chunk := chunk.toNat }
    let owner := (((s.slot n).members[s.redOwner n chunk.toNat]?).map (·.chip)).getD 0
    let turned := fun y : RedInst => { s with fab := { s.fab with insts := replaceFirst (fun z => decide (z = x)) y s.fab.insts } }
    let gone := { s with fab := { s.fab with insts := s.fab.insts.erase x } }
    let ends := fun (c : Sys2Proof.Instr) (u : State) => exec c s = .next u.retryHeld.settle
    (x.sent = false → x.count = d.localN →
      (own → d.form ≠ 2 → ends (.reductionPartialDone n i chunk) (turned { x with sent := true })) ∧
      (¬own → d.form = 1 → ends (.reductionPartialDone n i chunk) (gone.sendElems 0x02#8 key d x.flag x.sum owner)) ∧
      (¬own → d.form ≠ 1 → d.form ≠ 2 →
        ends (.reductionPartialDone n i chunk) ((turned { x with sent := true }).sendElems 0x02#8 key d x.flag x.sum owner)) ∧
      (d.form = 2 → ends (.reductionPartialDone n i chunk)
        ((s.otherChips n).foldl (fun a c => a.sendElems 0x02#8 key d x.flag x.sum c)
          ((turned { x with sent := true }).redWrite key d (s.meIdx n) 0 x.sum)))) ∧
    (x.sent = true → x.written = none → s.isFinal d x = true →
      let r := s.redResult d x
      let noted := fun fl : FlagByte => turned { x with written := some fl }
      let summed : State := { noted r.2.1 with fab := { (noted r.2.1).fab with winmis := min 0xFFFF (s.fab.winmis + r.2.2) } }
      let stored := summed.redWrite key d 0 0 r.1
      (own → d.form = 0 → ends (.reductionInstanceDone n i chunk)
        (((s.otherChips n).foldl (fun a c => a.sendElems 0x03#8 key d r.2.1 r.1 c) stored).completeInst key)) ∧
      (own → d.form ≠ 0 → d.form ≠ 2 → ends (.reductionInstanceDone n i chunk) (stored.completeInst key)) ∧
      (¬own → d.form ≠ 2 → ends (.reductionInstanceDone n i chunk)
        ((noted (x.results.foldl (fun f p => f ||| p.flag) 0#8)).completeInst key)) ∧
      (d.form = 2 → ends (.reductionInstanceDone n i chunk) ((noted (x.parts.foldl (fun f p => f ||| p.flag) x.flag)).completeInst key))) ∧
    (∀ fl, x.written = some fl →
      (∀ e, s.fab.redCredits.find? (fun e => e.isFor (s.redEndpoint n d)) = some e →
        ((place 1 e.size e.credits e.wptr).2.1 ≤ e.credits →
          let paid := s.fab.redCredits.map fun c => if c.isFor (s.redEndpoint n d) then c.spend 1 else c
          s.completeInst key = { gone with fab := { gone.fab with redCredits := paid } }.arrive (completionMsg s n d chunk.toNat fl e)) ∧
        (e.credits < (place 1 e.size e.credits e.wptr).2.1 → s.completeInst key = s)) ∧
      (s.fab.redCredits.find? (fun e => e.isFor (s.redEndpoint n d)) = none → s.completeInst key = s)) ∧
    (∀ (e : CreditEntry) (r : Nat) (w : Resident) (b : MboxDesc) (src : Nat), d.form ≠ 2 → x.sent = true → own → s.isFinal d x = true →
      (∀ y ∈ s.fab.insts, y.written = none) → s.fab.owed = [] →
      s.fab.redCredits.find? (fun e => e.isFor (s.redEndpoint n d)) = some e → (place 1 e.size e.credits e.wptr).2.1 ≤ e.credits →
      s.redReceiver n d = some r → (s.core r).res = some w → s.fab.held = [] → (∀ q, (s.core q).contribs = []) →
      let m := completionMsg s n d chunk.toNat (s.redResult d x).2.1 e
      m.dstRow ≠ 63#6 → s.phys m.dstRow.toNat m.dstCol.toNat = some r → s.genMatches w.slot m.srcChip m.gen = true →
      Tbl.get none (s.core r).desc m.mbox.toNat = some b → (s.core r).sourceOf b m = some src →
      m.seq = Tbl.get 0#16 (s.core r).expSeq (64 * m.mbox.toNat + src) →
      placeOk (Tbl.get Mbox.reset (s.core r).mbox m.mbox.toNat) src (((s.core r).source b src).share + 1) m = true →
      let dest := d.dest + 16 * d.count * (chunk.toNat % d.nbuf)
      let at_ := b.base + subRing (s.core r) b src + 64 * m.offset.toNat
      (at_ + 64 ≤ dest ∨ dest + 16 * d.count ≤ at_) →
      ∃ t, exec (.reductionInstanceDone n i chunk) s = .next t ∧ t.fab.insts.length + 1 = s.fab.insts.length ∧
        (∀ j < d.count, Mem.readLE (t.core r).sp (dest + 16 * j) 16 = ((s.redResult d x).1.getD j 0#128).toNat) ∧
        (∀ j < 64, Mem.read8 (t.core r).sp (at_ + j) = m.payload.getD j 0#8) ∧
        OnlyChanges ([.cores, .slots, .fab, .mesh] ++ reporting) s t)

/-! Steps and rack time (chapters 06 and 07). -/

/-- R134, R220: a core that has ended its part with nothing outstanding arrives; when it is the last of its context, the context arrives
at its barrier and holds its own arrival.

R207, R219 to R222: at its local release instant, or after it, a started context, or one at its barrier with all arrivals held, runs
the next step: the step registers move on, with the beats whose boundaries have passed, and every core starts at its entry point (R90: but
for those of a row under repair application). Before that instant, or under a state of rack time that allows no release, nothing
happens. That a release within 10 ns of its instant is not late is the model's choice (log entry 132). -/
def Obligations.BarrierAndRelease : Prop :=
  (
  ∀ (s : State) (k : Fin 1728) (r : Resident), (s.core k).res = some r → (s.slot r.slot).state = .running →
    (s.core k).ended = true → (s.core k).arrived = false → (s.core k).quiet = true →
    ((∃ q ∈ s.coresOf r.slot, q ≠ k.val ∧ (s.core q).arrived = false) →
      ∃ t, exec (.coreArrival k) s = .next t ∧ t.core k = { s.core k with arrived := true } ∧ (∀ q ≠ k.val, t.core q = s.core q) ∧
        OnlyChanges (.cores :: reporting) s t) ∧
    ((∀ q ∈ s.coresOf r.slot, q ≠ k.val → (s.core q).arrived = true) →
      ∃ t q, exec (.coreArrival k) s = .next t ∧ (t.core k).arrived = true ∧ (t.slot r.slot).step.atBarrier = true ∧
        (t.slot r.slot).step.arrivals = (s.slot r.slot).step.arrivals ++
          [{ member := s.meIdx r.slot, stamp := s.rt.now - BitVec.ofNat 64 (s.slot r.slot).step.offset, pace := q }] ∧
        OnlyChanges ([.cores, .slots, .draw, .fab, .reg, .feed, .free] ++ reporting) s t)
  ) ∧
  (
  ∀ (s : State) (n : Fin 1024), (s.mem.rotation.any fun r => decide (r.1 = n.val)) = false → s.serviceUp = true →
    let x := s.slot n
    let past := fun rel : Nat => s.rt.now.toNat - (rel + s.rt.offset.toNat)
    let due := fun rel : Nat => rel + s.rt.offset.toNat ≤ s.rt.now.toNat
    let runs := fun (t : State) (rel q : Nat) =>
      (t.slot n).state = .running ∧ (t.slot n).done = false ∧ (t.slot n).step.rel = rel ∧ (t.slot n).step.pace = q ∧
      (t.slot n).step.beatLen = (x.prog.beatNs * q + 255) / 256 ∧
      (t.slot n).step.beat = past rel / max 1 ((x.prog.beatNs * q + 255) / 256) ∧
      (t.slot n).step.lateRel = (if max 10 s.rt.stride ≤ past rel then min 0xFFFF (x.step.lateRel + 1) else x.step.lateRel) ∧
      (t.slot n).step.released = true ∧ (t.slot n).step.atBarrier = false ∧ (t.slot n).step.steps = x.step.steps + 1 ∧
      (∀ k ∈ s.coresOf n, k / 36 ∉ s.grid.applying → (t.core k).pc = (s.core k).entry ∧ (t.core k).ended = false ∧ (t.core k).arrived = false ∧
        (t.core k).armed = false ∧ (t.core k).late = 0#32 ∧ (t.core k).g = (s.core k).g) ∧
      OnlyChanges ([.cores, .slots, .reg, .pwr, .feed, .fab, .mesh, .mem, .free] ++ reporting) s t
    (s.rt.state = .locked ∨ s.rt.state = .holdover ∨ s.rt.state = .slewing →
      (∀ rel, x.state = .loaded → x.step.pendingRel = some rel → ¬due rel → exec (.release n) s = .next s) ∧
      (∀ rel q, x.state = .running → x.step.next = some (rel, q) → ¬due rel → exec (.release n) s = .next s) ∧
      (∀ rel, x.state = .loaded → x.step.pendingRel = some rel → due rel → x.step.released = false →
        ∃ t, exec (.release n) s = .next t ∧ runs t rel x.step.nextPace ∧ (t.slot n).step.index = x.step.index) ∧
      (∀ rel q, x.state = .running → x.step.next = some (rel, q) → due rel → x.parkPend ≠ some x.step.index → x.step.released = true →
        ∃ t, exec (.release n) s = .next t ∧ runs t rel q ∧ (t.slot n).step.index = x.step.index + 1 ∧
          (t.slot n).step.arrivals = x.step.early)) ∧
    (s.rt.state = .none ∨ s.rt.state = .acquiring ∨ s.rt.state = .lost → exec (.release n) s = .next s)
  )

/-- R129, R207, R226, R227, R371: once the counter has reached a beat boundary of a released step its beat advances; once it has reached a
wave's instant the wave passes for the cores of its clusters (R90: not for those of a row under repair application); before either instant
nothing happens. Before a wave starts, its frame goes out on both rings and raises the outputs of its powered regions; 2 µs after its
start they return to their set-points. -/
def Obligations.BeatsAndWaves : Prop :=
  (∀ (s : State) (n : Fin 1024), (s.slot n).state = .running → (s.slot n).step.released = true →
    let x := (s.slot n).step
    let at_ := x.rel + x.offset + (x.beat + 1) * x.beatLen
    (at_ ≤ s.rt.now.toNat → ∃ t, exec (.beatBoundary n) s = .next t ∧ (t.slot n).step = { x with beat := x.beat + 1 } ∧
      (∀ m ≠ n.val, t.slot m = s.slot m) ∧ OnlyChanges [.slots, .pwr, .feed, .reg, .draw, .out, .recorder, .free] s t) ∧
    (s.rt.now.toNat < at_ → exec (.beatBoundary n) s = .next s)) ∧
  (∀ (s : State) (n : Fin 1024) (w : Fin 8), (s.slot n).state = .running → (s.slot n).step.released = true →
    let x := s.slot n
    let at_ := x.step.rel + x.step.offset + w * x.prog.kindNs / 7
    (at_ ≤ s.rt.now.toNat → ∃ t, exec (.kindleWave n w) s = .next t ∧
      (∀ k, t.core k = if k ∈ s.coresOf n ∧ waveOf (clusterOfCore k) = w ∧ k / 36 ∉ s.grid.applying then { s.core k with waves := 1 }
        else s.core k) ∧
      OnlyChanges [.cores] s t) ∧
    (s.rt.now.toNat < at_ → exec (.kindleWave n w) s = .next s)) ∧
  (∀ (s : State) (w : Fin 8), s.ptc.hasActive = true →
    let now := s.rt.now.toNat
    let live := fun i : Nat => Tbl.get false s.reg.broken (i / 216) = false ∧ (s.rail 2).state ≠ 0
    ((∃ b ∈ s.waveStarts w, now < b ∧ b ≤ now + 1320) →
      ∃ t x, exec (.preBiasWaveSend w) s = .next t ∧ t.out = .ring 1 x :: .ring 0 x :: s.out ∧
        (x.extractLsb' 0 56).toNat = 0x1FF + 3 * 2 ^ 9 + w * 2 ^ 21 ∧ ringOk x = true ∧
        (∀ i < 432, t.region i = if waveOf (clusterOfRegion i) = w ∧ (s.region i).mode.railed = true ∧ live i then
          { s.region i with raised := min (min 5 ((s.region i).bias / 8)) (160 - (s.region i).setpt), bias := 0, stages := true }
          else s.region i) ∧ OnlyChanges [.reg, .out] s t) ∧
    ((∀ b ∈ s.waveStarts w, b ≤ now ∨ now + 1320 < b) → exec (.preBiasWaveSend w) s = .next s)) ∧
  ∀ (s : State) (w : Fin 8),
    ((∀ b ∈ s.waveStarts w, b + 2000 ≤ s.rt.now.toNat ∨ s.rt.now.toNat + 1000 < b) → ∃ t, exec (.preBiasEnd w) s = .next t ∧
      (∀ i < 432, t.region i = if waveOf (clusterOfRegion i) = w then { s.region i with raised := 0 } else s.region i) ∧
      OnlyChanges [.reg] s t) ∧
    ((∃ b ∈ s.waveStarts w, b ≤ s.rt.now.toNat + 1000 ∧ s.rt.now.toNat < b + 2000) → exec (.preBiasEnd w) s = .next s)

/-- R200 to R205: TICK takes the counter from NONE to ACQUIRING; the sixteenth good code of a chain locks it and loads it; three bad
codes, the loss of TICK or of the codes take it to HOLDOVER; HOLD_LIMIT ms of it to LOST; convergence to within 2 ns ends a slew, which
runs the counter at 1.5 or 0.5 times its rate until then (R204). Each change is recorded.

R133, R236: a read of RT_NOW returns the counter within 4 ns; the low half latches the high half for the read that follows it. -/
def Obligations.RackTime : Prop :=
  (
  ∀ s : State,
    let moves := fun (c : Sys2Proof.Instr) (v : RtState) => ∃ t, exec c s = .next t ∧ t.rt.state = v ∧
      t.recorder = (s.record 0x011 (v.code + 8 * s.rt.state.code) [t.rt.err.toNat]).recorder ∧
      OnlyChanges [.rt, .recorder, .tray] s t
    let counts := fun t : State => t.rt.losses = s.rt.losses + 1#32 ∧ t.rt.holdFrom = s.lt ∧ t.rt.now = s.rt.now
    (s.rt.state = .none → moves .tickPresent .acquiring) ∧
    (s.rt.state = .locked ∨ s.rt.state = .slewing →
      moves .tickMissing .holdover ∧ moves .timeCodesMissing .holdover ∧
      (∃ t, exec .tickMissing s = .next t ∧ counts t ∧ t.rt.tickOk = false) ∧
      ∃ t, exec .timeCodesMissing s = .next t ∧ counts t ∧ t.rt.timeOk = false) ∧
    (s.rt.state = .holdover → s.rt.holdLimit.toNat * 1000000 ≤ s.lt - s.rt.holdFrom → moves .holdoverLimit .lost) ∧
    (s.rt.state = .holdover → s.lt - s.rt.holdFrom < s.rt.holdLimit.toNat * 1000000 → exec .holdoverLimit s = .next s) ∧
    (s.rt.state = .slewing → s.rt.slew.natAbs ≤ 2 → moves .slewConverged .locked) ∧
    (s.rt.state = .slewing → 2 < s.rt.slew.natAbs → exec .slewConverged s = .next s) ∧
    (s.rt.tick.now = s.rt.now + (match s.rt.state with
      | .none | .acquiring => 0#64
      | .locked | .holdover | .lost => 10#64
      | .slewing => if 2 < s.rt.slew then 15#64 else if s.rt.slew < -2 then 5#64 else 10#64))
  ) ∧
  (
  ∀ (s : State) (fn : Fin 64), s.hostUp fn = true →
    ∃ v : BitVec 64, (∃ d : Int, -4 ≤ d ∧ d ≤ 4 ∧ v = s.rt.now + BitVec.ofInt 64 d) ∧
      (∃ t, exec (.rtNowRead fn 0) s = .next t ∧ t.out = .hostRead fn (toLE 8 v.toNat) false :: s.out ∧ OnlyChanges [.out, .free] s t) ∧
      (∃ t u, exec (.rtNowRead fn 1) s = .next t ∧ t.out = .hostRead fn (toLE 4 (v.toNat % 2 ^ 32)) false :: s.out ∧
        exec (.rtNowRead fn 2) t = .next u ∧ u.out = .hostRead fn (toLE 4 (v.toNat / 2 ^ 32)) false :: t.out ∧
        OnlyChanges [.out, .free, .host] s u)
  )

/-- R200, R201, R204, R557, R558: TIME frames. A good one that follows its chain keeps a LOCKED counter on the rack's time; the third bad
one in a row, malformed or not 100 TICK edges after the last, takes it to HOLDOVER; in ACQUIRING the sixteenth loads the counter; after a holdover a difference of more than 1 ms
sets JUMP and loads it, a smaller one slews it without a step. -/
def Obligations.TimeCodes : Prop :=
  ∀ (s : State) (f : BitVec 100),
    let w := timeRt f
    let value := w + BitVec.ofNat 64 (delayNs s.tray.rtDelay)
    let e : Int := (value.toNat : Int) - s.rt.now.toNat
    (timeWell f = true ↔ f.extractLsb' 0 8 = 0xD5#8 ∧ crc8 72 (f.extractLsb' 8 72).toNat = (f.extractLsb' 80 8).toNat ∧
      f.getLsbD 72 = true ∧ w.toNat % 1000 = 0) ∧
    (∀ edges, s.rt.state = .locked → s.rt.bad = 2 → timeWell f = false ∨ edges ≠ 100 →
      ∃ t, exec (.timeCode f edges) s = .next t ∧ t.rt.state = .holdover ∧ t.rt.now = s.rt.now) ∧
    (s.rt.state = .locked → timeWell f = true → s.rt.expect = some w → s.rt.delay = s.tray.rtDelay → e.natAbs ≤ 2 →
      ∃ t, exec (.timeCode f 100) s = .next t ∧ t.rt.state = .locked ∧ t.rt.now = value ∧ t.rt.bad = 0 ∧
        t.rt.expect = some (w + 1000#64) ∧ OnlyChanges (.rt :: reporting) s t) ∧
    (s.rt.state = .acquiring → timeWell f = true → s.rt.good = 15 → s.rt.expect = some w →
      ∃ t, exec (.timeCode f 100) s = .next t ∧ t.rt.state = .locked ∧ t.rt.now = value ∧ t.rt.timeOk = true ∧
        OnlyChanges (.rt :: reporting) s t) ∧
    (s.rt.state = .acquiring → timeWell f = true → s.rt.good < 15 → s.rt.expect = some w →
      ∃ t, exec (.timeCode f 100) s = .next t ∧ t.rt.state = .acquiring ∧ t.rt.good = s.rt.good + 1 ∧
        t.rt.expect = some (w + 1000#64)) ∧
    (s.rt.state = .holdover → timeWell f = true → s.rt.good = 15 → s.rt.expect = some w →
      ∃ t, exec (.timeCode f 100) s = .next t ∧
        (e.natAbs ≤ 2 → t.rt.state = .locked ∧ t.rt.now = s.rt.now) ∧
        (2 < e.natAbs → e.natAbs ≤ 1000000 → t.rt.state = .slewing ∧ t.rt.now = s.rt.now ∧ t.rt.slew = e) ∧
        (1000000 < e.natAbs → t.rt.state = .locked ∧ t.rt.now = value ∧ t.rt.jump = true ∧
          ∀ n < 1024, (s.slot n).state = .running → (t.slot n).state = .aborted ∧ (t.slot n).cause = 0x05#8))

/-! The fabric (chapter 08). -/

/-- R240, R242, R243, R247 to R250: frames and link control on an UP port, dealt to its lanes. LINK_ACK frees the frames up to the one it
names; LINK_NACK and the replay timer send an IDLE word and the held frames again and count a replay; LINK_CREDIT adds credits. A frame with a bad CRC
is discarded with a LINK_NACK; one that passes every check is acknowledged and delivered. That one IDLE word follows each frame is the
model's choice (log entry 135). -/
def Obligations.LinkControl : Prop :=
  (∀ (q : BitVec 12) (a : Option (BitVec 12)) (f : Frame) (n : Nat), f.payload.length = 64 * n → n < 128 →
    let r := rxFrame (frameWords (some q) a f)
    r.frame = f ∧ r.lseq = q ∧ r.ackv = a.isSome ∧ r.ackseq = a.getD 0#12 ∧ r.len = n ∧ r.crcOk = true) ∧
  ∀ (s : State) (k : Fin 18), (s.port k).state = .up → (s.port k).retrain = false →
    let p := s.port k
    let leaves := fun (wss : List (List (BitVec 64))) => (wss.map fun ws => Out.link k (deal p.lanes ws)).reverse ++ s.out
    let again := fun (fs : List (BitVec 12 × Frame)) => [idleWord] :: fs.flatMap fun x => [frameWords (some x.1) none x.2, [idleWord]]
    (∀ (q : BitVec 12) (old new : List (BitVec 12 × Frame)) (f : Frame), p.replay = old ++ (q, f) :: new → (∀ x ∈ old, x.1 ≠ q) → p.queue = [] →
      ∃ t, exec (.linkAck k q) s = .next t ∧ (t.port k).replay = new ∧ (t.port k).stale = 0 ∧ (∀ j ≠ k.val, t.port j = s.port j) ∧
        OnlyChanges [.fab] s t) ∧
    (p.stale < 7 →
      (∀ q : BitVec 12, ∃ t, exec (.linkNack k q) s = .next t ∧ (t.port k).replays = min 0xFFFF (p.replays + 1) ∧
        (t.port k).replay = p.replay ∧ (t.port k).state = .up ∧ t.out = leaves (again (p.replay.dropWhile fun x => x.1 ≠ q)) ∧
        OnlyChanges [.fab, .out] s t) ∧
      (p.replay ≠ [] → ∃ t, exec (.replayTimeout k) s = .next t ∧ (t.port k).replays = min 0xFFFF (p.replays + 1) ∧
        t.out = leaves (again p.replay) ∧ OnlyChanges [.fab, .out] s t)) ∧
    (∀ v0 v1 v2 : BitVec 16, p.queue = [] → ∃ t, exec (.linkCredit k v0 v1 v2) s = .next t ∧
      (t.port k).credits = { c0 := p.credits.c0 + v0.toNat, c1 := p.credits.c1 + v1.toNat, c2 := p.credits.c2 + v2.toNat } ∧
      (∀ j ≠ k.val, t.port j = s.port j) ∧ OnlyChanges [.fab] s t) ∧
    ∀ (words : List (BitVec 64)) (idle : Bool) (corr uncorr : BitVec 16), (p.discard = false ∨ idle = true) →
      let r := rxFrame words
      (r.crcOk = false →
        ∃ t, exec (.frameReceive k idle words corr uncorr) s = .next t ∧ (t.port k).crc = min 0xFFFF (p.crc + 1) ∧
          (t.port k).discard = true ∧ (t.port k).expLseq = p.expLseq ∧ (t.port k).corr = p.corr + BitVec.ofNat 32 corr.toNat ∧
          (t.port k).uncorr = min 0xFFFF (p.uncorr + uncorr.toNat) ∧ OnlyChanges (.fab :: reporting) s t) ∧
      (r.crcOk = true → frameFormOk r = true → linkControl r.frame.type = false → r.lseq = p.expLseq → s.rst.drain = none →
        (r.frame.dchip = s.fab.chipId →
          let p1 := p.codewords corr.toNat uncorr.toNat
          let u := (s.setPort k { (if r.ackv then p1.acked r.ackseq else p1) with discard := false }).pumpPort k
          let v := u.setPort k { u.port k with expLseq := p.expLseq + 1#12 }
          exec (.frameReceive k idle words corr uncorr) s =
            .next ((v.linkFrame k (some p.expLseq) 0x10#8 0#64).deliver k r.frame).settle) ∧
        (r.frame.dchip ≠ s.fab.chipId → p.queue = [] →
          ∃ t, exec (.frameReceive k idle words corr uncorr) s = .next t ∧ (t.port k).expLseq = p.expLseq + 1#12 ∧
            (t.port k).misroute = min 0xFFFF (p.misroute + 1) ∧ OnlyChanges (.fab :: reporting) s t))

/-- R22, R248, R251, R252, R259 to R262: link start, lanes and ports. LINK_INIT goes out on aligned lanes; the exchange brings the port UP once the
chip number is assigned; the first lane retired retrains the port; a port that no LOADED, RUNNING or PARKED context of several members
uses goes down alone. -/
def Obligations.PortStates : Prop :=
  ∀ (s : State) (k : Fin 18),
    let p := s.port k
    let unused := ∀ n, n ∈ s.liveSlots → (s.slot n).members.length ≤ 1
    (∀ lanes : BitVec 4, p.state = .training → s.portsTrain = true → p.failed = 0#4 → lanes = 0xF#4 → ∃ t, exec (.lanesAligned k lanes) s = .next t ∧
      (t.port k).lanes = 0xF#4 ∧ (t.port k).aligned = true ∧ (t.port k).state = .training ∧ OnlyChanges [.fab] s t) ∧
    (p.state = .training → p.aligned = true → p.rcvdGot = false → p.retrain = false → ∃ t, exec (.linkInitSend k) s = .next t ∧
      (t.port k).rcvdSent = (p.rcvdSent || p.initGot) ∧ t.out.length = s.out.length + 2 ∧ OnlyChanges [.fab, .out] s t) ∧
    (∀ v0 v1 v2 : BitVec 16, v0 ≠ 0#16 → v1 ≠ 0#16 → v2 ≠ 0#16 → p.state = .training → p.aligned = true → p.initGot = false →
      ∃ t, exec (.linkInit k v0 v1 v2 false 1#8) s = .next t ∧ (t.port k).initGot = true ∧ (t.port k).expLseq = 0#12 ∧
        (t.port k).credits = { c0 := v0.toNat, c1 := v1.toNat, c2 := v2.toNat } ∧ (t.port k).state = .training ∧ OnlyChanges [.fab] s t) ∧
    (∀ v0 v1 v2 : BitVec 16, v0 ≠ 0#16 → v1 ≠ 0#16 → v2 ≠ 0#16 → p.state = .training → p.aligned = true → p.initGot = true →
      p.rcvdSent = true → s.fab.chipValid = true → s.portsTrain = true →
      ∃ t, exec (.linkInit k v0 v1 v2 true 1#8) s = .next t ∧ (t.port k).state = .up ∧ OnlyChanges (.fab :: reporting) s t) ∧
    (∀ v0 v1 v2 : BitVec 16, v0 ≠ 0#16 → v1 ≠ 0#16 → v2 ≠ 0#16 → p.state = .up → unused →
      ∃ t, exec (.linkInit k v0 v1 v2 true 1#8) s = .next t ∧ (t.port k).state = (if p.disable then .disabled else .down)) ∧
    (∀ lane : Fin 4, p.state = .up → p.failed = 0#4 → ∃ t, exec (.laneRetire k lane) s = .next t ∧ (t.port k).state = .up ∧
      (t.port k).retrain = true ∧ (∀ j : Fin 4, (t.port k).failed.getLsbD j = decide (j = lane)) ∧ OnlyChanges [.fab, .recorder] s t) ∧
    (p.state = .up → p.retrain = true → p.queue = [] → (p.replay = [] ∨ p.stale < 7) →
      ∃ t, exec (.laneRetrainDone k) s = .next t ∧ (t.port k).retrain = false ∧ (t.port k).lanes = ~~~p.failed ∧ (t.port k).replay = p.replay ∧
        (t.port k).replays = (if p.replay = [] then p.replays else min 0xFFFF (p.replays + 1)) ∧ (t.port k).late = [] ∧
        t.out = (((p.late.flatMap fun x => [frameWords none x.1 x.2, [idleWord]]) ++
          (if p.replay = [] then [] else [idleWord] :: p.replay.flatMap fun x => [frameWords (some x.1) none x.2, [idleWord]])).map fun ws =>
            Out.link k (deal (~~~p.failed) ws)).reverse ++ s.out ∧
        OnlyChanges [.fab, .out] s t) ∧
    (p.state = .up → unused → ∃ t, exec (.portDown k) s = .next t ∧ (t.port k).state = (if p.disable then .disabled else .down) ∧
      (t.port k).downs = min 0xFFFF (p.downs + 1) ∧ (t.port k).replay = [] ∧ (∀ j ≠ k.val, t.port j = s.port j) ∧
      OnlyChanges (.fab :: reporting) s t) ∧
    (p.state = .training → p.aligned = true → p.rcvdGot = false → unused → ∃ t, exec (.linkInitTimeout k) s = .next t ∧
      (t.port k).state = (if p.disable then .disabled else .down) ∧ (t.port k).downs = p.downs ∧ OnlyChanges (.fab :: reporting) s t) ∧
    (p.rcvdGot = true → exec (.linkInitTimeout k) s = .next s) ∧
    (s.portsTrain = true → p.state = .down → p.disable = false → ∃ t, exec (.portRetrainAttempt k) s = .next t ∧ (t.port k).state = .training ∧
      (t.port k).downs = p.downs ∧ OnlyChanges (.fab :: reporting) s t) ∧
    (s.hostUp 0 = true → s.l3Runs = false →
      (p.state = .down → ∃ t, exec (.disable 0 k true) s = .next t ∧ (t.port k).state = .disabled ∧ (t.port k).disable = true ∧
        OnlyChanges (.fab :: reporting) s t) ∧
      (p.state = .disabled → ∃ t, exec (.disable 0 k false) s = .next t ∧ (t.port k).state = (if s.portsTrain then .training else .down) ∧
        (t.port k).disable = false ∧
        OnlyChanges (.fab :: reporting) s t) ∧
      (p.state = .up → ∃ t, exec (.retrain 0 k) s = .next t ∧ t.port k = { p with retrain := true } ∧ OnlyChanges [.fab] s t) ∧
      (p.state = .up → ∃ t, exec (.restoreLanes 0 k) s = .next t ∧ (t.port k).failed = 0#4 ∧ (t.port k).lanes = p.lanes ∧
        (t.port k).retrain = true ∧ OnlyChanges [.fab, .recorder] s t) ∧
      (p.state = .down → s.portsTrain = true → ∃ t, exec (.restoreLanes 0 k) s = .next t ∧ (t.port k).failed = 0#4 ∧ (t.port k).state = .training ∧
        OnlyChanges (.fab :: reporting) s t))

/-- R223, R245, R246, R250, R258, R273: what an accepted frame does. MSG delivers its message; BARRIER holds an arrival for the running step
or the next, and ignores a repeat; ABORT ends the context with the frame's cause, and a copy of an abort acted on is a duplicate;
RCONTRIB opens an instance with its part; each gives its link credits back. -/
def Obligations.FramesAreDelivered : Prop :=
  ∀ (s : State) (k : Fin 18) (f : Frame),
    let w := f.w1.toNat
    let u := if f.vc = 3#2 then s else s.linkFrame k none 0x12#8 (BitVec.ofNat 64 ((f.len + 1) * 2 ^ (16 * f.vc.toNat)))
    let m := frameMsg { f with type := 0x01#8 }
    (m.kind = .data → exec (.msg k f) s = exec (.messageDeposit m) u) ∧
    (∀ (q : Nat) (r : Resident) (d : MboxDesc) (src : Nat), m.kind = .data → m.dstChip = s.fab.chipId → m.dstRow ≠ 63#6 →
      s.phys m.dstRow.toNat m.dstCol.toNat = some q → (s.core q).res = some r → s.genMatches r.slot m.srcChip m.gen = true →
      Tbl.get none (s.core q).desc m.mbox.toNat = some d → (s.core q).sourceOf d m = some src →
      m.seq = Tbl.get 0#16 (s.core q).expSeq (64 * m.mbox.toNat + src) →
      placeOk (Tbl.get Mbox.reset (s.core q).mbox m.mbox.toNat) src (((s.core q).source d src).share + 1) m = true →
      let at_ := d.base + subRing (s.core q) d src + 64 * m.offset.toNat
      ∃ t, exec (.msg k f) s = .next t ∧ (∀ j < m.payload.length, Mem.read8 (t.core q).sp (at_ + j) = m.payload.getD j 0#8) ∧
        Tbl.get 0#16 (t.core q).expSeq (64 * m.mbox.toNat + src) = m.seq + 1#16 ∧
        OnlyChanges ([.cores, .slots, .mesh, .fab] ++ reporting) s t) ∧
    (m.kind = .creditReturn → exec (.msg k f) s = exec (.creditReturn m) u) ∧
    (m.kind = .grant → ∃ v, exec (.grant m) u = .next v ∧ exec (.msg k f) s = .next v.settle) ∧
    (m.kind = .grantAck → ∃ v, exec (.grantAck m) u = .next v ∧ exec (.msg k f) s = .next v.settle) ∧
    (∀ (n : Nat) (m : Nat), s.jobSlot (w % 2 ^ 16) = some n → (s.slot n).memberIdx f.schip.toNat = some m →
      s.genMatches n f.schip (BitVec.ofNat 8 (w / 2 ^ 16)) = true →
      let a : Arrival := ⟨m, f.w3, w / 2 ^ 24 % 2 ^ 13⟩
      let st := (s.slot n).step
      (f.w2.toNat = st.index → (∀ b ∈ st.arrivals, b.member ≠ m) → ∃ t, exec (.barrier k f) s = .next t ∧
        (t.slot n).step.arrivals = st.arrivals ++ [a] ∧ (t.slot n).pw.idleMs = 0 ∧
        OnlyChanges ([.slots, .cores, .fab, .reg, .feed, .free] ++ reporting) s t) ∧
      (f.w2.toNat = st.index + 1 → (∀ b ∈ st.early, b.member ≠ m) → ∃ t, exec (.barrier k f) s = .next t ∧
        (t.slot n).step.early = st.early ++ [a] ∧ (t.slot n).step.arrivals = st.arrivals ∧ OnlyChanges (.slots :: .fab :: reporting) s t) ∧
      (f.w2.toNat < st.index → ∃ t, exec (.barrier k f) s = .next t ∧ t.fab.barDup = min 0xFFFF (s.fab.barDup + 1) ∧
        OnlyChanges (.fab :: reporting) s t) ∧
      (st.index + 1 < f.w2.toNat → (s.slot n).state = .running → ∃ t, exec (.barrier k f) s = .next t ∧ (t.slot n).state = .aborted ∧
        (t.slot n).cause = 0x06#8 ∧ t.fab.barLater = min 0xFFFF (s.fab.barLater + 1))) ∧
    (∀ (n : Nat) (m : Member), s.jobSlot (w % 2 ^ 16) = some n → (s.slot n).member f.schip.toNat = some m →
      m.gen = w / 2 ^ 16 % 2 ^ 8 →
      ((s.slot n).state = .running → ∃ t, exec (.abort k f) s = .next t ∧ (t.slot n).state = .aborted ∧
        (t.slot n).cause = BitVec.ofNat 8 (w / 2 ^ 24) ∧ t.fab.received = min 0xFFFF (s.fab.received + 1) ∧
        t.fab.sent = s.fab.sent ∧ OnlyChanges endingContext s t) ∧
      ((s.slot n).state = .aborted → (⟨w % 2 ^ 16, w / 2 ^ 16 % 2 ^ 8, f.schip, f.w2⟩ : AbortSeen) ∈ s.fab.acted →
        ∃ t, exec (.abort k f) s = .next t ∧ t.fab.dup = min 0xFFFF (s.fab.dup + 1) ∧ OnlyChanges [.fab, .out] s t)) ∧
    (∀ h : RedHead, s.redHead { f with type := 0x02#8 } = some h → h.desc.form ≠ 2 → s.fab.held = [] → s.fab.insts.length < 4096 →
      (∀ x ∈ s.fab.insts, x.is h.key = false) → ∃ t x, exec (.rcontrib k f) s = .next t ∧ t.fab.insts = s.fab.insts ++ [x] ∧
        x.is h.key = true ∧ x.parts = [⟨h.member, h.part, frameElems h.desc h.part f.payload, h.flag⟩] ∧ x.count = 0 ∧
        OnlyChanges [.fab, .out] s t) ∧
    (∀ (h : RedHead) (r : Nat) (x : RedInst), s.redHead { f with type := 0x03#8 } = some h → s.redReceiver h.key.slot h.desc = some r →
      x ∈ s.fab.insts → x.is h.key = true → x.sent = true → (∀ q ∈ x.results, q.part ≠ h.part) →
      let es := frameElems h.desc h.part f.payload
      let at_ := s.redDest h.key.slot h.key.chunk h.desc 0 + 16 * (256 * h.part)
      ∃ t, exec (.rresult k f) s = .next t ∧
        (∀ j < es.length, Mem.readLE (t.core r).sp (at_ + 16 * j) 16 = (es.getD j 0#128).toNat) ∧
        (∀ q ≠ r, t.core q = s.core q) ∧ t.fab.redStale = s.fab.redStale ∧ OnlyChanges [.cores, .fab, .out] s t)

/-! Contexts, partitions and repair (chapters 03 and 11). -/

/-- R22, R219, R326, R327, R330, R331, R340, R341: LOAD, START, ABORT and TEARDOWN of a function that reaches the slot. A load that
passes the checks is BUSY until it completes; one that fails is INVALID with its reason. A start sets the release instant; one too late
ends the context with cause 0x04. ABORT ends a context with cause 0x09; TEARDOWN leaves it TORN until the fence frees the slot. While a
result is BUSY the other commands are ignored and counted. -/
def Obligations.ContextCommands : Prop :=
  ∀ (s : State) (fn : Fin 64) (n : Fin 1024), s.hostUp fn = true → (fn = 0 ∨ fn.val = (s.slot n).owner.toNat) →
    let x := s.slot n
    let k := x.arg.toNat % 16
    let rel := if x.arg = 0#64 then x.prog.firstRel else x.arg.toNat
    (x.result = .busy → ∀ i : Sys2Proof.Instr, i = .load fn n ∨ i = .start fn n ∨ i = .park fn n ∨ i = .restore fn n →
      exec i s = .next (s.setSlot n { x with lost := min 0xFFFF (x.lost + 1) })) ∧
    (x.result ≠ .busy → s.serviceUp = false → ∀ i : Sys2Proof.Instr, i = .start fn n ∨ i = .park fn n ∨ i = .restore fn n →
      ∃ t, exec i s = .next t ∧ t.slot n = { x with result := .refusedService } ∧ OnlyChanges [.slots, .host, .out] s t) ∧
    (x.result ≠ .busy → s.serviceUp = true →
      (s.up.drained = false → x.state = .free → ((s.part k).valid = true → ∀ q ∈ s.partCores k, s.coreInReset q = false) →
        let u := s.readImage n (s.part k)
        (u.loadReason n k = 0 → ∃ t, exec (.load fn n) s = .next t ∧ (t.slot n).busy = some .load ∧ (t.slot n).state = .free ∧
          (t.slot n).result = .busy ∧ (t.slot n).gen = x.nextGen ∧ (t.slot n).part.toNat = k ∧
          (t.slot n).step.rel = (t.slot n).prog.firstRel ∧ OnlyChanges ([.cores, .slots, .mem] ++ reporting) s t) ∧
        (u.loadReason n k ≠ 0 → ∃ t, exec (.load fn n) s = .next t ∧
          t.slot n = { x with result := .invalid, reason := BitVec.ofNat 8 (u.loadReason n k) } ∧
          OnlyChanges ([.slots, .mem] ++ reporting) s t)) ∧
      (x.state = .loaded → s.rotating n = false →
        (s.inTime rel = true → ∃ t, exec (.start fn n) s = .next t ∧ (t.slot n).state = .loaded ∧ (t.slot n).result = .ok ∧
          (t.slot n).done = false ∧ (t.slot n).step.pendingRel = some rel ∧ OnlyChanges [.cores, .slots, .fab, .reg, .host, .out, .free] s t ∧
          (x.done = false → OnlyChanges [.slots, .reg, .host, .out, .free] s t)) ∧
        (s.inTime rel = false → ∃ t, exec (.start fn n) s = .next t ∧ (t.slot n).state = .aborted ∧ (t.slot n).cause = 0x04#8 ∧
          (t.slot n).step.missed = true ∧ (t.slot n).result = .ok ∧ OnlyChanges endingContext s t)) ∧
      (x.state ≠ .loaded → ∃ t, exec (.start fn n) s = .next t ∧ t.slot n = { x with result := .refusedState })) ∧
    (x.state ≠ .suspect → x.abortable = true → ∃ t, exec (.ctxAbort fn n) s = .next t ∧ (t.slot n).state = .aborted ∧
      (t.slot n).cause = 0x09#8 ∧ (t.slot n).result = .ok ∧ (t.slot n).busy = none ∧ OnlyChanges endingContext s t) ∧
    (x.state = .suspect → ∃ t, exec (.ctxAbort fn n) s = .next t ∧ (t.slot n).state = .aborted ∧ (t.slot n).cause = x.cause) ∧
    (x.state ≠ .suspect → x.abortable = false → ∃ t, exec (.ctxAbort fn n) s = .next t ∧ t.slot n = { x with result := .refusedState } ∧
      OnlyChanges [.slots, .host, .out] s t) ∧
    (x.state ≠ .suspect → x.tearable = true → s.svc ≠ .benched → ∃ t, exec (.teardown fn n) s = .next t ∧ (t.slot n).state = .torn ∧
      (t.slot n).result = .busy ∧ (t.slot n).cause = (if x.abortable then 0x09#8 else x.cause) ∧
      (∀ m ∈ t.mesh, s.msgOf n m = false) ∧ OnlyChanges (.mesh :: endingContext) s t) ∧
    (x.tearable = true → s.svc = .benched → ∃ t, exec (.teardown fn n) s = .next t ∧ (t.slot n).state = .free ∧
      (t.slot n).result = .ok) ∧
    (x.tearable = false → ∃ t, exec (.teardown fn n) s = .next t ∧ t.slot n = { x with result := .refusedState } ∧
      OnlyChanges [.slots, .host, .out] s t)

/-- R198, R285, R327, R334, R336, R337, R340: the rest of a context's life: a copy completes; PARK at LOADED takes the snapshot at once, at RUNNING
it waits for its step; a parked context holds no core; RESTORE writes the snapshot back and sets the release instant; a park area that
does not hold ends the context with reason 0x09; the fence resets the cores and frees the slot. -/
def Obligations.ContextCompletions : Prop :=
  ∀ (s : State) (n : Fin 1024),
    let x := s.slot n
    let cores := fun (t : State) => ∀ q ∈ s.coresOf n, t.core q = { Core.reset with drop := (s.core q).drop }
    (x.busy = some .load →
      (x.salt = 0#32 ∨ s.anyStopped = false → ∃ t, exec (.loadComplete n) s = .next t ∧
        t.slot n = { x with state := .loaded, busy := none, result := .ok } ∧ OnlyChanges ([.slots, .mem] ++ reporting) s t ∧
        (x.salt = 0#32 → OnlyChanges [.slots, .host, .out] s t)) ∧
      (x.salt ≠ 0#32 → s.anyStopped = true → exec (.loadComplete n) s = .next s)) ∧
    (∀ fn : Fin 64, s.hostUp fn = true → (fn = 0 ∨ fn.val = x.owner.toNat) → x.result ≠ .busy → s.serviceUp = true →
      (x.state = .loaded → ∃ t, exec (.park fn n) s = .next t ∧ (t.slot n).busy = some .park ∧ (t.slot n).result = .busy ∧
        (t.slot n).snapGood = true ∧ (t.slot n).state = .loaded ∧ (t.slot n).step.pendingRel = none ∧
        OnlyChanges [.cores, .slots, .mem, .recorder, .free] s t) ∧
      (x.state = .running → x.step.index ≤ x.arg.toNat → (x.prog.stepCount = 0 ∨ x.arg.toNat < x.prog.stepCount) →
        ∃ t, exec (.park fn n) s = .next t ∧ (t.slot n).parkPend = some x.arg.toNat ∧ (t.slot n).busy = some .park ∧
          (t.slot n).result = .busy ∧ (t.slot n).state = .running ∧ OnlyChanges [.slots] s t) ∧
      (x.state = .running → x.arg.toNat < x.step.index → ∃ t, exec (.park fn n) s = .next t ∧ t.slot n = { x with result := .badarg } ∧
        OnlyChanges [.slots, .host, .out] s t) ∧
      (x.state = .parked → s.occupant x.part.toNat = none → (∀ q ∈ s.partCores x.part.toNat, s.coreInReset q = false) →
        ∃ t, exec (.restore fn n) s = .next t ∧ (t.slot n).busy = some .restore ∧ (t.slot n).result = .busy ∧ (t.slot n).state = .parked ∧
          (t.slot n).step.pendingRel = some x.arg.toNat ∧ OnlyChanges [.cores, .slots] s t)) ∧
    (x.state = .running → x.busy = some .park → x.snapGood = false → x.parkPend = some x.step.index →
      (x.step.next = none → exec (.parkSnapshot n) s = .next s) ∧
      ∀ r q, x.step.next = some (r, q) → (x.members.length ≤ 1 ∨ s.dueAt r = true) →
      ∃ t, exec (.parkSnapshot n) s = .next t ∧ (t.slot n).snapGood = true ∧ (∀ q ∈ s.coresOf n, (t.core q).stopped = true) ∧
        OnlyChanges [.cores, .slots, .mem, .recorder, .free] s t) ∧
    (x.busy = some .park → x.snapGood = true → ∃ t, exec (.parkComplete n) s = .next t ∧ (t.slot n).state = .parked ∧
      (t.slot n).result = .ok ∧ (t.slot n).parkPend = none ∧ (t.slot n).snap = x.snap ∧ cores t ∧
      OnlyChanges ([.cores, .slots, .fab, .free] ++ reporting) s t) ∧
    (x.state = .parked → x.busy = some .restore →
      (x.snapGood = true → (s.touch x.park.toNat (s.parkLen n) (n + 1)).1 = true → x.done = false → s.rotating n = false →
        ∀ rel, x.step.pendingRel = some rel → s.inTime rel = true →
        ∃ t, exec (.restoreComplete n) s = .next t ∧ (t.slot n).state = .loaded ∧ (t.slot n).result = .ok ∧ (t.slot n).busy = none ∧
          (t.slot n).step.pendingRel = some rel ∧
          (∀ c ∈ x.snap, ∀ k, s.phys c.lrow c.lcol = some k → (∀ d ∈ x.snap, s.phys d.lrow d.lcol = some k → d = c) →
            t.core k = { c.core with res := some { slot := n, lrow := c.lrow, lcol := c.lcol }, drop := (s.core k).drop }) ∧
          OnlyChanges ([.cores, .slots, .fab, .mem, .reg, .free] ++ reporting) s t) ∧
      (x.snapGood = false → ∃ t, exec (.restoreComplete n) s = .next t ∧ (t.slot n).state = .aborted ∧ (t.slot n).reason = 0x09#8 ∧
        (t.slot n).result = .invalid)) ∧
    (x.state = .torn → s.svc ≠ .saving → (∀ q ∈ s.coresOf n, (s.core q).cut = false) →
      ∃ t, exec (.teardownFence n) s = .next t ∧ (t.slot n).state = .free ∧ (t.slot n).result = .ok ∧
        (t.slot n).nextGen = x.gen + 1#8 ∧ cores t ∧ OnlyChanges ([.cores, .slots, .fab, .mem, .mesh] ++ reporting) s t)

/-- R89, R92, R335: a write of PART_DEF by the physical function stores a definition that is free, in range and disjoint, or says why not;
a retirement goes into its keep register with the bits that failed regulators require; a repair boundary makes the active mask of every
row that waits its target mask, and of no other. -/
def Obligations.PartitionsAndRepair : Prop :=
  ∀ s : State,
    (s.hostUp 0 = true → ∀ (k : Fin 16) (v : BitVec 64),
      let p := partOfWord v.toNat
      let used := ∃ n ∈ s.liveSlots, (s.slot n).claims = true ∧ (s.slot n).part.toNat = k
      let gives := fun r : Nat => ∃ t, exec (.partDefWrite 0 k v) s = .next t ∧ t.part k = { s.part k with result := r } ∧
        (∀ j ≠ k.val, t.part j = s.part j) ∧ OnlyChanges [.parts] s t
      let stores := ∃ t, exec (.partDefWrite 0 k v) s = .next t ∧ t.part k = { p with result := 1 } ∧
        (∀ j ≠ k.val, t.part j = s.part j) ∧ OnlyChanges [.parts] s t
      let clash := ∃ j < 16, j ≠ k.val ∧ (s.part j).valid = true ∧ p.overlaps (s.part j) = true
      (used → gives 2) ∧
      (¬ used → v.getLsbD 32 = false → stores) ∧
      (¬ used → v.getLsbD 32 = true →
        (47 < p.row0 + p.nrows ∨ 31 < p.col0 + p.ncols → gives 3) ∧
        (p.row0 + p.nrows ≤ 47 → p.col0 + p.ncols ≤ 31 →
          (clash → gives 4) ∧
          (¬ clash → (∃ i ≤ p.nrows, s.rowPresent (p.row0 + i) = false) → gives 5) ∧
          (¬ clash → (∀ i ≤ p.nrows, s.rowPresent (p.row0 + i) = true) → stores)))) ∧
    (s.hostUp 0 = true → ∀ (r : Fin 48) (v : BitVec 36),
      (s.keepLimited (keepRetire r) = false → ∃ t, exec (.keepRetireWrite 0 r v) s = .next t ∧
        t.keep (keepRetire r) = (v ||| s.failedBits r).zeroExtend 64 ∧ (∀ o ≠ keepRetire r, t.keep o = s.keep o) ∧ OnlyChanges [.host] s t) ∧
      (s.keepLimited (keepRetire r) = true → ∃ t, exec (.keepRetireWrite 0 r v) s = .next t ∧ OnlyChanges [.recorder] s t)) ∧
    (s.serviceUp = true → ∃ t, exec .repairApply s = .next t ∧
      (∀ r, t.activeMask r = if r ∈ s.pendingRows then s.targetMask r else s.activeMask r) ∧
      (∀ r ∈ s.pendingRows, r ∈ t.grid.applying) ∧ t.grid.applyTill ≤ max s.grid.applyTill (s.lt + 300000) ∧
      OnlyChanges ([.grid, .reg] ++ endingContext) s t) ∧
    (s.serviceUp = false → exec .repairApply s = .next s)

/-! The region regulators (chapter 13). -/

/-- R366 to R371, R464: a command frame leaves only under an ACTIVE PTC, is put on its die's ring with its CRC and is awaited by its deadline; its node takes it once. A
repeat of the last SEQ is answered again and not acted on; an invalid argument is refused and leaves the node as it was; SET and START ramp to their
code, BIAS_LOAD stores a bias, GATE ramps the output off, TIE and UNTIE act on the region at a position of the cluster, CAL starts a
calibration, QUERY changes nothing; WAVE applies stored biases. What a ring inverts in a frame is discarded and counted. The polynomial's bit order in
the CRC and the node's supply are the model's choices (log entries 145, 143). -/
def Obligations.RingCommands : Prop :=
  ∀ (s : State) (f : RingFrame),
    let i := f.dst.toNat
    let x := s.region i
    let j := clusterOfRegion i
    (∀ (c : Sys2Proof.Instr) (op : Nat),
      (c = .set f ∧ op = 1) ∨ (c = .biasLoad f ∧ op = 2) ∨ (c = .tie f ∧ op = 4) ∨ (c = .untie f ∧ op = 5) ∨ (c = .cal f ∧ op = 6) ∨
      (∃ q : BitVec 4, c = .query q f ∧ op = q.toNat) ∨ (c = .gate f ∧ op = 8) ∨ (c = .regionStart f ∧ op = 9) →
      let cmd : RingCmd := { op, seq := f.seq.toNat, arg := f.arg.toNat, slew := f.slew.toNat }
      let w := cmd.word i
      let y : Region := { x with seq := f.seq.toNat, sent := x.sent ++ [{ cmd, timeouts := 0, check := false, due := s.lt + cmd.span x.setpt + 2000 }] }
      let u := (s.setRegion i y).emit (.ring f.die w)
      let z : Region := { y with nodeLast := some cmd, nodeResp := none }
      let answers := fun (t : State) (r : Nat) => ∃ v k, t.out = .ring f.die (respWord i cmd r v k) :: u.out ∧
        (r ≠ 2 → (t.region i).nodeResp = some (respWord i cmd r v k)) ∧ OnlyChanges [.reg, .out, .free] s t
      let alone := fun (t : State) => ∀ q ≠ i, t.region q = s.region q
      ((w.extractLsb' 0 56).toNat = i + op * 2 ^ 9 + f.seq.toNat * 2 ^ 13 + f.arg.toNat * 2 ^ 21 + f.slew.toNat * 2 ^ 29 ∧ ringOk w = true) ∧
      (cmd.valid = true ↔ f.slew.toNat ≤ 4 ∧ 1 ≤ op ∧ op ≤ 9 ∧ op ≠ 3 ∧ (op = 1 ∨ op = 9 → f.arg.toNat ≤ 160) ∧ (op = 2 → f.arg.toNat ≤ 44) ∧
        (op = 4 ∨ op = 5 → f.arg.toNat ≤ 3) ∧ (6 ≤ op → op ≤ 8 → f.arg = 0#8)) ∧
      (s.ptc.hasActive = false → exec c s = .next s) ∧
      (s.ptc.hasActive = true → i ≠ 0x1FF → (432 ≤ i ∨ dieOfRegion i ≠ f.die ∨ op = 3) → f.flip = 0#64 → exec c s = .next (s.emit (.ring f.die w))) ∧
      (s.ptc.hasActive = true → i < 432 → dieOfRegion i = f.die → op ≠ 3 → s.nodeLive i = true →
        (ringOk (w ^^^ f.flip) = false → exec c s = .next { u with reg := { u.reg with ringTo := min 0xFFF (s.reg.ringTo + 1) } }) ∧
        (f.flip = 0#64 →
          (cmd.valid = false → ∃ t, exec c s = .next t ∧ t.region i = y ∧ alone t ∧ answers t 2) ∧
          (cmd.valid = true → x.nodeLast.map RingCmd.seq = some f.seq.toNat →
            exec c s = .next (match x.nodeResp with
              | some r => u.emit (.ring f.die r)
              | none => u)) ∧
          (cmd.valid = true → x.nodeLast.map RingCmd.seq ≠ some f.seq.toNat →
            (op = 1 → ∃ t, exec c s = .next t ∧ alone t ∧ t.out = u.out ∧ OnlyChanges [.reg, .out] s t ∧ t.region i = { z with
              target := f.arg.toNat, slew := f.slew.toNat, ramping := some cmd,
              ref := if f.arg.toNat < x.ref ∧ s.inGroup j i = false then f.arg.toNat else x.ref }) ∧
            (op = 2 → ∃ t, exec c s = .next t ∧ alone t ∧ answers t 0 ∧
              t.region i = { z with bias := f.arg.toNat, nodeResp := (t.region i).nodeResp }) ∧
            (op = 4 → ∃ t, exec c s = .next t ∧ (t.region (mateOf i f.arg.toNat)).tie = true ∧ answers t 0 ∧
              (∀ q ∈ regionsOfCluster j, (t.region q).tie = true → (t.region q).mode.railed = true → (t.region q).ref = s.groupCode j) ∧
              (∀ q, q ∉ regionsOfCluster j → t.region q = s.region q)) ∧
            (op = 5 →
              (s.atGroup (mateOf i f.arg.toNat) = false → ∃ t, exec c s = .next t ∧ alone t ∧ t.out = u.out ∧ OnlyChanges [.reg, .out] s t ∧
                t.region i = { z with untie := some cmd }) ∧
              (s.atGroup (mateOf i f.arg.toNat) = true → ∃ t, exec c s = .next t ∧ (t.region (mateOf i f.arg.toNat)).tie = false ∧ answers t 0 ∧
                (t.region i).untie = none ∧ (∀ q, q ∉ regionsOfCluster j → t.region q = s.region q))) ∧
            (op = 6 →
              (s.reg.calActive = false → x.mode.railed = true → ∃ t, exec c s = .next t ∧ t.reg.calActive = true ∧ t.reg.calRegion = i ∧
                t.reg.calRing = some cmd ∧ (t.region i).cal = true ∧ (t.region i).tie = true ∧ (t.region i).mode = .carried ∧
                (t.region i).nodeResp = none ∧ t.out = u.out ∧ (∀ q, q ∉ regionsOfCluster j → t.region q = s.region q) ∧ OnlyChanges [.reg, .out] s t) ∧
              (s.reg.calActive = true ∨ x.mode.railed = false → ∃ t, exec c s = .next t ∧ alone t ∧ answers t 3 ∧
                t.reg.calActive = s.reg.calActive)) ∧
            (op = 7 → ∃ t, exec c s = .next t ∧ alone t ∧ answers t 0 ∧ t.region i = { z with nodeResp := (t.region i).nodeResp }) ∧
            (op = 8 → ∃ t, exec c s = .next t ∧ alone t ∧ t.out = u.out ∧ OnlyChanges [.reg, .out] s t ∧
              t.region i = { z with ref := 0, bellows := .off, ramping := some cmd, hold := false }) ∧
            (op = 9 → ∃ t, exec c s = .next t ∧ alone t ∧ t.out = u.out ∧ OnlyChanges [.reg, .out] s t ∧ t.region i = { z with
              target := f.arg.toNat, slew := f.slew.toNat, ramping := some cmd, enabled := true, bellows := .recharging }))))) ∧
    (s.ptc.hasActive = false → exec (.wave f) s = .next s) ∧
    (s.ptc.hasActive = true → i = 0x1FF → f.arg.toNat < 8 → f.flip = 0#64 → Tbl.get false s.reg.broken f.die = false →
      ∃ t w, exec (.wave f) s = .next t ∧ t.out = .ring f.die w :: s.out ∧ OnlyChanges [.reg, .out] s t ∧
      ∀ q < 432, t.region q = if dieOfRegion q = f.die ∧ waveOf (clusterOfRegion q) = f.arg.toNat ∧ (s.region q).mode.railed = true ∧ s.nodeLive q = true then
        { s.region q with raised := min (min 5 ((s.region q).bias / 8)) (160 - (s.region q).setpt), bias := 0, stages := true } else s.region q)

/-- R362, R364, R367, R369, R370, R372, R374, R474, R617: the nodes' own events: HOLD, the bellows, the self-limit; a settled set-point, which its node
answers; a response at the PTC, and the deadlines that repeat, check and fail a node; polls, and a broken ring. -/
def Obligations.RingNodesAnswer : Prop :=
  ∀ (s : State) (i : Fin 432),
    let x := s.region i
    let j := clusterOfRegion i
    let only := fun (c : Sys2Proof.Instr) (y : Region) => ∃ t, exec c s = .next t ∧ t.region i = y ∧
      (∀ q ≠ i.val, t.region q = s.region q) ∧ OnlyChanges [.reg] s t
    only (.holdAssert i) { x with hold := x.hold || x.mode.railed,
                                  holdsNow := if x.mode.railed = true ∧ x.hold = false then min 63 (x.holdsNow + 1) else x.holdsNow } ∧
    only (.holdRelease i) { x with hold := false } ∧
    (x.bellows = .full ∨ x.bellows = .recharging →
      only (.bellowsRelease i) { x with bellows := .releasing, releases := min 0xFFFF (x.releases + 1) }) ∧
    (x.bellows = .releasing → only (.bellowsStop i) { x with bellows := .recharging }) ∧
    (x.bellows = .recharging → only (.bellowsRechargeDone i) { x with bellows := .full }) ∧
    only (.regulatorSelfLimit i) { x with limited := x.limited || (s.inGroup j i && x.enabled && !x.regfail && !x.opened) } ∧
    only (.regulatorLimitRelease i) { x with limited := false } ∧
    (∀ l, x.ramping = none → exec (.setpointSettled i l) s = .next s) ∧
    (∀ (c : RingCmd) (l : Option (Fin 161)), x.ramping = some c → (∀ q ∈ regionsOfCluster j, (s.region q).untie = none) →
      let k := (l.map Fin.val).getD c.arg
      ∃ t r v u, exec (.setpointSettled i l) s = .next t ∧ (t.region i).nodeResp = some (respWord i c r v u) ∧
        t.out = .ring (dieOfRegion i) (respWord i c r v u) :: s.out ∧ (t.region i).ramping = none ∧
        (c.op ≠ 8 → (t.region i).setpt = k ∧ (s.inGroup j i = false → (t.region i).ref = k) ∧ r = (if l.isSome then 1 else 0) ∧
          (∀ n, l = some n → v = n.val)) ∧
        (c.op = 8 → (t.region i).setpt = 0 ∧ (t.region i).enabled = false ∧ (t.region i).stages = false ∧ (t.region i).raised = 0 ∧ r = 0) ∧
        (∀ q ∈ regionsOfCluster j, q ≠ i.val → t.region q = { s.region q with ref := (t.region q).ref }) ∧
        (∀ q, q ∉ regionsOfCluster j → t.region q = s.region q) ∧ OnlyChanges [.reg, .out, .free] s t) ∧
    (∀ die : Fin 2, s.ptc.hasActive = false → ∀ w, exec (.ringResponse die w) s = .next s) ∧
    (∀ (die : Fin 2) (c : RingCmd) (r v u : Nat), s.ptc.hasActive = true → dieOfRegion i = die → r ≤ 3 → v < 256 → u < 256 →
      c.op < 16 → c.seq < 256 →
      (x.sent.find? (fun e => e.cmd.seq = c.seq && e.cmd.op = c.op) = none → only (.ringResponse die (respWord i c r v u)) x) ∧
      (∀ e, x.sent.find? (fun e => e.cmd.seq = c.seq && e.cmd.op = c.op) = some e →
        let y : Region := { x with sent := x.sent.erase e, resp := r + 1, setpt := if r = 1 ∧ (c.op = 1 ∨ c.op = 9) then v else x.setpt }
        (c.op ≠ 7 ∨ x.stale = false → only (.ringResponse die (respWord i c r v u)) y) ∧
        (c.op = 7 → x.stale = true → ∃ m, only (.ringResponse die (respWord i c r v u)) { y with iout := u, vout := m }))) ∧
    (∀ (die : Fin 2) (w : BitVec 64), s.ptc.hasActive = true → ringOk w = false → ∃ t, exec (.ringResponse die w) s = .next t ∧
      t.reg = { s.reg with ringTo := min 0xFFF (s.reg.ringTo + 1) } ∧ OnlyChanges [.reg] s t) ∧
    (∀ (e : SentCmd) (rest : List SentCmd), x.sent = e :: rest → s.ptc.hasActive = true →
      (s.lt < e.due → exec (.ringCommandTimeout i) s = .next s.settle) ∧
      (e.due ≤ s.lt → e.check = false → e.timeouts = 0 → ∃ t, exec (.ringCommandTimeout i) s = .next t ∧
        (t.region i).sent = { e with timeouts := 1, due := s.lt + e.cmd.span x.setpt + 2000 } :: rest ∧
        t.reg.ringTo = min 0xFFF (s.reg.ringTo + 1) ∧ .ring (dieOfRegion i) (e.cmd.word i) ∈ t.out ∧ OnlyChanges ([.reg, .free] ++ reporting) s t) ∧
      (e.due ≤ s.lt → e.check = false → e.timeouts ≠ 0 →
        let q : RingCmd := { op := 7, seq := (x.seq + 1) % 256, arg := 0, slew := 0 }
        ∃ t, exec (.ringCommandTimeout i) s = .next t ∧
          (t.region i).sent = rest ++ [{ cmd := q, timeouts := 0, check := true, due := s.lt + q.span x.setpt + 2000 }] ∧ (t.region i).resp = 5 ∧
          .ring (dieOfRegion i) (q.word i) ∈ t.out ∧ OnlyChanges ([.reg, .free] ++ reporting) s t) ∧
      (e.due ≤ s.lt → e.check = true → x.regfail = false → x.mode.railed = true → ∃ t, exec (.ringCommandTimeout i) s = .next t ∧
        (t.region i).regfail = true ∧ ((t.region i).mode = .carried ∨ (t.region i).mode = .dark) ∧
        OnlyChanges ([.grid, .reg] ++ endingContext) s t)) ∧
    (∀ f : RingFrame, f.die.val = dieOfRegion i → f.dst.toNat = i → f.seq = BitVec.ofNat 8 (x.seq + 1) → f.arg = 0#8 → f.slew = 0#3 → f.flip = 0#64 →
      exec (.ringKeepalive i) s = exec (.query 7#4 f) s ∧ (x.stale = true → exec (.fluePoll i) s = exec (.query 7#4 f) s)) ∧
    (s.ptc.hasActive = true → s.nodeLive i = true → x.nodeLast.map RingCmd.seq ≠ some ((x.seq + 1) % 256) →
      let q : RingCmd := { op := 7, seq := (x.seq + 1) % 256, arg := 0, slew := 0 }
      let asks := fun c : Sys2Proof.Instr => ∃ t v u, exec c s = .next t ∧
        t.out = .ring (dieOfRegion i) (respWord i q 0 v u) :: .ring (dieOfRegion i) (q.word i) :: s.out ∧ (t.region i).nodeLast = some q ∧
        (t.region i).seq = q.seq ∧ (t.region i).setpt = x.setpt ∧ (∀ j ≠ i.val, t.region j = s.region j) ∧ OnlyChanges [.reg, .out, .free] s t
      asks (.ringKeepalive i) ∧ (x.stale = true → asks (.fluePoll i))) ∧
    (x.stale = false → exec (.fluePoll i) s = .next s) ∧
    ∀ die : Fin 2, (s.svc = .ready ∨ s.svc = .serving ∨ s.svc = .degraded) → s.rst.runs = [] →
      ∃ t, exec (.ringBroken die) s = .next t ∧ Tbl.get false t.reg.broken die = true ∧ t.rst.lastLevel = 3 ∧ t.rst.lastCause = 0x0B

/-- R373 to R384: the flue and what follows from it. The frame a region sends of its state, its oldest ripe hint with it, is its telemetry
once accepted, any other is counted; a region that finds a fault of its own closes its tie, and on overvoltage opens its output; the guard of a cluster with a carried region lowers the issue level, moves it with
the sum of the currents, and loses the cluster at level 1; a calibration ends with its trims or fails the regulator. -/
def Obligations.RegulatorFailures : Prop :=
  ∀ s : State,
    (∀ (i : Fin 432) (m : FlueSample),
      let x := s.region i
      let w := flueSeal (x.flueBody i s.rt.now.toNat m) ^^^ m.flip
      let good := m.flip = 0#80 ∧ ∀ q, x.fseq = some q → x.frames % 64 = (q + 1) % 64
      let alone := fun t : State => ∀ q ≠ i.val, t.region q = s.region q
      (s.ptc.hasActive = false → ∃ t, exec (.flueFrame i m) s = .next t ∧ t.region i = x.flueSent ∧ alone t ∧ OnlyChanges (.reg :: reporting) s t) ∧
      (s.ptc.hasActive = true →
        (good → (x.cond = 0 ∨ x.regfail = true) →
          ∃ t, exec (.flueFrame i m) s = .next t ∧ t.region i = { x.flueSent with
            vout := m.vout.toNat, iout := if x.mode.railed then m.iout.toNat else 0, temp := m.temp.toNat,
            telBellows := if x.mode.railed then x.bellows else .off, stale := false,
            holds := min 0xFFFF (x.holds + x.holdsNow % 64), fseq := some (x.frames % 64) } ∧ alone t ∧
            (∀ h, x.nextHint = some h → ∃ e ∈ t.draw.hints, e.region = i ∧ e.level = h.level % 16 ∧ s.rt.now.toNat ≤ e.at_) ∧
            OnlyChanges ([.reg, .draw] ++ reporting) s t) ∧
        (good → x.cond ≠ 0 → x.mode.railed = true → x.regfail = false →
          ∃ t, exec (.flueFrame i m) s = .next t ∧ (t.region i).regfail = true ∧ ((t.region i).mode = .carried ∨ (t.region i).mode = .dark)) ∧
        (flueOk w = false ∨ (m.flip = 0#80 ∧ ∃ q, x.fseq = some q ∧ x.frames % 64 ≠ (q + 1) % 64) →
          ∃ t, exec (.flueFrame i m) s = .next t ∧ t.reg.flueErr = min 0xFFF (s.reg.flueErr + 1) ∧
          t.region i = { x.flueSent with fseq := x.fseq.map fun p => (p + 1) % 64 } ∧ alone t ∧ OnlyChanges (.reg :: reporting) s t))) ∧
    (∀ lane : Fin 16,
      (s.ptc.hasActive = true → Tbl.get 0 s.reg.heardAt lane + 10000 ≤ s.lt → ∃ t, exec (.flueLaneSilent lane) s = .next t ∧
        Tbl.get false t.reg.silent lane = true ∧
        (∀ j < 432, t.region j = if laneOf j = lane then { s.region j with stale := true, fseq := none } else s.region j) ∧
        (∀ k < 76, t.feed.phase k = if phaseLane k + 12 = lane then { s.feed.phase k with stale := true, fseq := none } else s.feed.phase k) ∧
        OnlyChanges [.reg, .feed, .recorder, .free] s t) ∧
      (s.ptc.hasActive = false ∨ s.lt < Tbl.get 0 s.reg.heardAt lane + 10000 → exec (.flueLaneSilent lane) s = .next s)) ∧
    (∀ i : Fin 432, (s.region i).mode.railed = true → (s.region i).regfail = false → (s.region i).cond = 0 → ∀ (c : Sys2Proof.Instr) (k : Nat),
      (c = .stageFault i ∧ k = 1) ∨ (c = .railUndervoltFail i ∧ k = 2) ∨ (c = .railOvervoltFail i ∧ k = 3) →
      ∃ t, exec c s = .next t ∧ (t.region i).tie = true ∧ (t.region i).enabled = ((s.region i).enabled && decide (k ≠ 3)) ∧
        (t.region i).opened = decide (k = 3) ∧
        (t.region i).cond = k ∧ (∀ j, j ∉ regionsOfCluster (clusterOfRegion i) → t.region j = s.region j) ∧ OnlyChanges [.reg] s t) ∧
    (∀ j : Fin 108, s.ptc.absent = false →
      let x := s.cluster j
      let only := fun (c : Sys2Proof.Instr) (y : Cluster) => ∃ t, exec c s = .next t ∧ t.cluster j = y ∧
        (∀ k ≠ j.val, t.cluster k = s.cluster k) ∧ (∀ k, t.region k = s.region k) ∧ OnlyChanges [.reg] s t
      (x.guard = false → s.carried j = true → s.guardG j < s.flueSum j → only (.guardSum j) { x with guard := true, level := 8 }) ∧
      (x.guard = true →
        (s.carried j = false → only (.guardAdjust j) { x with guard := false, level := 16 }) ∧
        (s.carried j = true → s.flueSum j + 32 < s.guardG j → only (.guardAdjust j) { x with level := min 16 (x.level + 1) }) ∧
        (s.carried j = true → s.guardG j < s.flueSum j → only (.guardAdjust j) { x with level := max 1 (x.level - 2) }) ∧
        (x.level = 1 → x.dark = false → ∃ t, exec (.clusterLoss j) s = .next t ∧ (t.cluster j).dark = true ∧
          (∀ i ∈ regionsOfCluster j, (t.region i).mode = .dark) ∧
          (∀ n, (s.slot n).state = .running → (∃ q ∈ s.coresOf n, clusterOfCore q = j) →
            (t.slot n).state = .aborted ∧ (t.slot n).cause = 0x01#8) ∧ OnlyChanges ([.grid, .reg] ++ endingContext) s t))) ∧
    (s.reg.calActive = true → s.reg.calRegion < 432 →
      let r := s.reg.calRegion
      let j := clusterOfRegion r
      let back := fun (t : State) (k : Nat) => t.reg.calActive = false ∧
        t.region r = { s.region r with cal := false, mode := .powered, tie := false, ref := (t.region r).ref, nodeResp := (t.region r).nodeResp } ∧
        ((∀ q ∈ regionsOfCluster j, q ≠ r → (s.region q).tie = false) → (s.region r).ramping = none → (t.region r).ref = (s.region r).setpt) ∧
        (∀ c, s.reg.calRing = some c → ∃ v u, (t.region r).nodeResp = some (respWord r c k v u)) ∧
        (s.reg.calRing = none → (t.region r).nodeResp = (s.region r).nodeResp) ∧
        (∀ q, q ∉ regionsOfCluster j → t.region q = s.region q) ∧ OnlyChanges ([.reg, .free] ++ reporting) s t
      (s.reg.calDrop = none →
        (∀ g o : Int, g.natAbs ≤ 50 → o.natAbs ≤ 150 → ∃ t, exec (.calibrationDone g o) s = .next t ∧ back t 0) ∧
        (∀ g o : Int, 50 < g.natAbs ∨ 150 < o.natAbs → (s.region r).regfail = false → (s.region r).mode ≠ .dark →
          ∃ t, exec (.calibrationDone g o) s = .next t ∧ t.reg.calActive = false ∧ (t.region r).regfail = true) ∧
        exec .calibrationAbandon s = .next s) ∧
      (s.reg.calDrop ≠ none → ∃ t, exec .calibrationAbandon s = .next t ∧ back t 3)) ∧
    ∀ i : Fin 432, s.reg.calNext = i → (s.region i).mode = .powered → s.reg.calDays ≠ 0 → s.ptc.hasActive = true → s.calRefusal i = 0 →
      ∃ t, exec .autoCalibration s = .next t ∧ t.reg.calActive = true ∧ t.reg.calRegion = i ∧ t.reg.calNext = (i + 1) % 432 ∧
        (t.region i).mode = .carried ∧ OnlyChanges [.reg] s t

/-! The feed stage and the power chain (chapters 12 and 14). -/

/-- R388 to R397, R401, R407 to R413: the control law of a rail and its targets, trims, slots and LOCK, shedding and DEM, a phase that holds,
FORCED, a frame of the phase flue, and the writes of coefficients. -/
def Obligations.FeedStageRuns : Prop :=
  ∀ s : State,
    let only := fun (c : Sys2Proof.Instr) (k : Nat) (y : Phase) => ∃ t, exec c s = .next t ∧ t.feed.phase k = y ∧
      (∀ j ≠ k, t.feed.phase j = s.feed.phase j) ∧ OnlyChanges [.feed] s t
    (s.ptc.absent = false → s.ptc.hasActive = true → ∀ (r : Fin 7) (uv : Nat),
      let f := (railPhases r).foldl (fun f k => f.setPhase k (f.phase k).sampled) s.feed
      let c := s.feed.coef r
      let x := s.feed.loop r
      let n := f.nAct r
      let e : Rat := vSet r - (c.rll : Rat) * f.reported r x.iDem / 1000 - (uv : Rat) / 1000
      let acc := clampRat (-(c.accLim : Rat)) c.accLim (x.acc + (c.ki : Rat) / 16384 * e)
      let fb := (c.kp : Rat) / 1024 * e + acc + (c.kd : Rat) / 256 * (e - x.ePrev)
      let ff : Rat := if r = 0 then (c.kffPlan : Rat) / 256 * s.iPlan (s.rt.now.toNat + 125 * c.ffLead) + (c.kffFlue : Rat) / 256 * s.iFlue else 0
      let iDem := clampRat 0 ((n : Rat) * 35) (ff + (n : Rat) * fb)
      ∃ t, exec (.loopSample r uv) s = .next t ∧ (t.feed.loop r).acc = acc ∧ (t.feed.loop r).ePrev = e ∧ (t.feed.loop r).iDem = iDem ∧
        (r = 0 → (25 < e ∨ (n : Rat) * 30 < iDem) → t.feed.forced = true) ∧
        (r ≠ 0 → (∀ k ∈ f.active r, (f.phase k).mode ≠ .follow →
            (t.feed.phase k).target = clampRat 0 (if (f.phase k).hot then 25 else 35) (iDem / (n : Rat) + (f.phase k).trim)) ∧
          (∀ k, k ∉ railPhases r → t.feed.phase k = s.feed.phase k) ∧ OnlyChanges [.feed] s t) ∧
        OnlyChanges [.feed, .draw, .recorder] s t) ∧
    (∀ r : Fin 7,
      let ks := (railPhases r).filter fun k => decide ((s.feed.phase k).mode = .ccm)
      let mean : Rat := if ks = [] then 0 else ((ks.foldl (fun a k => a + (s.feed.phase k).iph) 0 : Nat) : Rat) / 16 / (ks.length : Rat)
      (∃ t, exec (.trimUpdate r) s = .next t ∧ OnlyChanges [.feed] s t ∧ ∀ k, t.feed.phase k = if k ∈ ks then
        { s.feed.phase k with trim := clampRat (-3) 3 ((s.feed.phase k).trim + (mean - ((s.feed.phase k).iph : Rat) / 16) / 16) }
        else s.feed.phase k) ∧
      ∃ t, exec (.slotRotation r) s = .next t ∧ OnlyChanges [.feed] s t ∧ ∀ k, t.feed.phase k = if k ∈ s.feed.active r then
        let q := ((s.feed.phase k).slot + 1) % max 1 (s.feed.nAct r)
        { s.feed.phase k with slot := q, turnOn := (s.feed.slotPh : Rat) * (2000 / 448) + (if r = 0 then 0 else 1000 / 56) +
          (q : Rat) * 2000 / ((max 1 (s.feed.nAct r) : Nat) : Rat) } else s.feed.phase k) ∧
    (∀ (ps : Nat) (err : Int),
      (1000000000000 ≤ 505000 * ps → 495000 * ps ≤ 1000000000000 → ∃ t, exec (.vrsyncEdge ps err) s = .next t ∧
        t.feed.lock = (s.feed.lock || decide (err.natAbs ≤ 25)) ∧ t.feed.respace = false ∧ t.feed.edgeAt = s.lt ∧ t.feed.badPeriods = 0 ∧
        OnlyChanges [.feed] s t ∧
        (s.feed.respace = true → ∀ (r : Fin 7) (j k : Nat), (s.feed.active r)[j]? = some k → (t.feed.phase k).slot = j)) ∧
      (505000 * ps < 1000000000000 ∨ 1000000000000 < 495000 * ps → ∃ t, exec (.vrsyncEdge ps err) s = .next t ∧
        t.feed = { s.feed with edgeAt := s.lt, badPeriods := s.feed.badPeriods + 1 } ∧ OnlyChanges [.feed] s t)) ∧
    (s.feed.lock = true → (s.feed.edgeAt + 2500 ≤ s.lt ∨ 16 ≤ s.feed.badPeriods) → ∃ t, exec .vrsyncLoss s = .next t ∧
      t.feed = { s.feed with lock := false, losses := min 0xFFFF (s.feed.losses + 1) } ∧ OnlyChanges [.feed, .recorder] s t) ∧
    (s.lt < s.feed.edgeAt + 2500 → s.feed.badPeriods < 16 → exec .vrsyncLoss s = .next s) ∧
    (s.feed.forcedAt + 1000 * s.feed.shedHold ≤ s.lt → ∃ t, exec .forcedExit s = .next t ∧ t.feed = { s.feed with forced := false } ∧
      OnlyChanges [.feed] s t) ∧
    (s.lt < s.feed.forcedAt + 1000 * s.feed.shedHold → exec .forcedExit s = .next s) ∧
    (s.feed.forced = true ∨ s.feed.nAct 0 ≤ s.feed.nReq ∨ s.lt < s.feed.shedAt + 2000 → exec .phaseShed s = .next s) ∧
    (∀ k l t0, s.feed.forced = false → s.feed.nReq < s.feed.nAct 0 → s.feedRises = false → s.feed.lowFrom = some t0 →
      t0 + 1000 * s.feed.shedHold ≤ s.lt → s.feed.shedAt + 2000 ≤ s.lt → s.feed.added = k :: l → (s.feed.phase k).mode = .ccm → only .phaseShed k { s.feed.phase k with mode := .shed, target := 0, trim := 0 }) ∧
    (∀ k : Fin 76,
      let p := s.feed.phase k
      (p.mode = .ccm → 32 ≤ p.low → (railOfPhase k ≠ 0 ∨ (s.feed.nAct 0 = s.feed.nMin ∧ s.feed.forced = false)) →
        only (.demEntry k) k { p with mode := .dem, trim := 0 }) ∧
      ∀ err : Int,
        (s.lt < (s.feed.loop (railOfPhase k)).sampledAt + 2000 → exec (.phaseHoldMode k err) s = .next s) ∧
        ((s.feed.loop (railOfPhase k)).sampledAt + 2000 ≤ s.lt →
          only (.phaseHoldMode k err) k (if p.mode = .failed ∨ (p.mode = .shed ∧ err ≤ 40) then p
            else if p.mode = .shed then { p with mode := .hold, base := 0, target := clampRat 0 35 err }
            else { p with mode := .hold, target := clampRat 0 (if p.hot then 25 else 35) (p.base + err) }))) ∧
    (∀ (k : Fin 76) (m : PhaseSample),
      let p := s.feed.phase k
      let y : Phase := { p with frames := (p.frames + 1) % 64 }
      let w := flueSeal (p.flueBody k m) ^^^ m.flip
      (s.ptc.hasActive = false → only (.phaseFlueFrame k m) k y) ∧
      (s.ptc.hasActive = true →
        (m.flip = 0#80 → (∀ q, p.fseq = some q → p.frames % 64 = (q + 1) % 64) → ∃ t, exec (.phaseFlueFrame k m) s = .next t ∧
          t.feed.phase k = { y with iph := m.iph.toNat, duty := m.duty.toNat, vin := m.vin.toNat, temp := m.temp.toNat, telMode := p.mode.code,
                                    fastMet := m.fast, stale := false, fseq := some (p.frames % 64) } ∧
          (∀ j ≠ k.val, t.feed.phase j = s.feed.phase j) ∧ OnlyChanges [.feed, .reg] s t) ∧
        (flueOk w = false ∨ (m.flip = 0#80 ∧ ∃ q, p.fseq = some q ∧ p.frames % 64 ≠ (q + 1) % 64) → ∃ t, exec (.phaseFlueFrame k m) s = .next t ∧
          t.feed.flueErr = min 0xFFF (s.feed.flueErr + 1) ∧ t.feed.phase k = { y with fseq := p.fseq.map fun q => (q + 1) % 64 } ∧
          (∀ j ≠ k.val, t.feed.phase j = s.feed.phase j) ∧ OnlyChanges [.feed] s t))) ∧
    (s.hostUp 0 = true → ∀ w : BitVec 64,
      let r := w.toNat % 8
      let i := w.toNat / 8 % 8
      let v := w.toNat / 65536 % 2048
      let c := (s.feed.coef r).put i v
      (s.ptc.switching = true → ∃ t, exec (.feedCoefWr 0 w) s = .next t ∧ t.feed.result = 4 ∧ (∀ q, t.feed.coef q = s.feed.coef q) ∧
        OnlyChanges [.feed] s t) ∧
      (s.ptc.switching = false →
        (r = 7 ∨ coefInRange r i v = false → ∃ t, exec (.feedCoefWr 0 w) s = .next t ∧ t.feed.result = 3 ∧
          (∀ q, t.feed.coef q = s.feed.coef q) ∧ OnlyChanges [.feed] s t) ∧
        (∀ b, r ≠ 7 → coefInRange r i v = true → c.broken = some b → ∃ t, exec (.feedCoefWr 0 w) s = .next t ∧ t.feed.result = 2 ∧
          t.feed.constraint = b ∧ (∀ q, t.feed.coef q = s.feed.coef q) ∧ OnlyChanges [.feed, .recorder] s t) ∧
        (r ≠ 7 → coefInRange r i v = true → c.broken = none → ∃ t, exec (.feedCoefWr 0 w) s = .next t ∧ t.feed.result = 1 ∧
          (∀ q, t.feed.coef q = if q = r then c else s.feed.coef q) ∧ OnlyChanges [.feed] s t))) ∧
    ∀ r : Fin 7, ∃ t, exec (.coefRevert r) s = .next t ∧ (∀ q, t.feed.coef q = if q = r.val then Coef.ofRail r else s.feed.coef q) ∧
      OnlyChanges [.feed, .recorder] s t

/-- R348, R349, R352, R353, R355, R400 to R406: failures of phases, events of VFEED and V12, the input stage opening and closing, a converter that
fails, and the fault of a privileged rail, which outside INIT decides an L3 reset. -/
def Obligations.PowerFailures : Prop :=
  ∀ s : State,
    let up := s.svc = .ready ∨ s.svc = .serving ∨ s.svc = .degraded
    (∀ k : Fin 76,
      let p := s.feed.phase k
      let fails := fun (c : Sys2Proof.Instr) (cause : Nat) => ∃ t, exec c s = .next t ∧ (t.feed.phase k).mode = .failed ∧
        (t.feed.phase k).cause = cause ∧ (t.feed.phase k).target = 0 ∧
        (railOfPhase k = 0 → OnlyChanges (.feed :: reporting) s t)
      p.mode ≠ .failed →
        fails (.fastLimitFail k) 2 ∧ (∀ w : Nat, 125 ≤ w → fails (.phaseOvertemp k w) 5) ∧
        (∀ i w : BitVec 10,
          (10 ≤ p.target → i.toNat < 32 → w.toNat < 32 → fails (.phaseOpen k i w) 1) ∧
          (p.target < 10 ∨ 32 ≤ i.toNat ∨ 32 ≤ w.toNat → exec (.phaseOpen k i w) s = .next s.settle)) ∧
        (∀ i w : BitVec 10,
          let d := (i.toNat - w.toNat) + (w.toNat - i.toNat)
          let near := fun v : BitVec 10 => nearMean (s.feed.meanOther k) v.toNat
          (d ≤ 80 ∨ 4 * d ≤ max i.toNat w.toNat → exec (.senseMismatch k i w) s = .next s.settle) ∧
          (80 < d → max i.toNat w.toNat < 4 * d →
            (near i = true → near w = true → exec (.senseMismatch k i w) s = .next s.settle) ∧
            (near i = true → near w = false → fails (.senseMismatch k i w) 3) ∧
            (near i = false → near w = false → fails (.senseMismatch k i w) 4) ∧
            (near i = false → near w = true → ∃ t, exec (.senseMismatch k i w) s = .next t ∧
              t.feed.phase k = { p with mode := .follow, sense := true, trim := 0 } ∧
              (∀ j ≠ k.val, t.feed.phase j = s.feed.phase j) ∧ OnlyChanges (.feed :: reporting) s t))) ∧
        ∀ w : Nat, w < 125 → ∃ t, exec (.phaseOvertemp k w) s = .next t ∧
          t.feed.phase k = { p with hot := decide (115 ≤ w), target := if 115 ≤ w ∧ 25 < p.target then 25 else p.target } ∧
          OnlyChanges (.feed :: reporting) s t) ∧
    (∃ t, exec (.vfeedWindowEvent 0) s = .next t ∧ t.feed.sags = min 0xFFF (s.feed.sags + 1) ∧
      OnlyChanges ([.feed, .free] ++ reporting) s t) ∧
    (up → s.rst.runs = [] → ∀ v : Fin 4, v ≠ 0 → ∃ t, exec (.vfeedWindowEvent v) s = .next t ∧
      (v ≠ 1 → ∀ k < 76, (s.feed.phase k).mode ≠ .failed → (t.feed.phase k).mode = .shed ∧ (t.feed.phase k).target = 0) ∧
      (v ≠ 3 → (t.rail 2).state = 2) ∧ t.rst.lastLevel = (if v = 3 then 4 else 3) ∧ t.rst.lastCause = 0x0A) ∧
    (∀ mv : Nat, 10500 ≤ mv → exec (.v12Loss mv) s = .next s) ∧
    (∀ mv : Nat, mv < 10500 → s.svc ≠ .off → ∃ t, exec (.v12Loss mv) s = .next t ∧ t.svc = .off ∧ t.cores = [] ∧ t.slots = [] ∧ ∀ k, (t.feed.phase k).mode = .shed) ∧
    (∀ (mv : Nat) (h : Bool), (if h then mv ≤ 58000 else 44000 ≤ mv) → exec (.inputStageOpen mv h) s = .next s) ∧
    (∀ (mv : Nat) (h : Bool), s.pwr.closed = true → s.svc ≠ .off → (if h then 58000 < mv else mv < 44000) → ∃ t, exec (.inputStageOpen mv h) s = .next t ∧ t.pwr.closed = false ∧ t.pwr.busMv = mv ∧
      t.rail 0 = { s.rail 0 with state := if t.carts.holdsBus then 3 else 2 } ∧ t.carts.openAt = some s.lt ∧ t.carts.cal = none ∧ t.draw.overDraw = false ∧
      (s.up.drained = true ∨ s.tray.pwrReq = true → (t.bay 0).isolated = true ∧ (t.bay 1).isolated = true) ∧
      OnlyChanges [.pwr, .carts, .up, .tray, .draw, .recorder] s t) ∧
    (∀ mv : Nat, s.pwr.closed = false → 45000 ≤ mv → mv ≤ 57000 → s.svc ≠ .off → ∃ t, exec (.inputStageClose mv) s = .next t ∧
      t.pwr.closed = true ∧ t.rail 0 = { s.rail 0 with state := 1 } ∧ t.carts.openAt = none ∧ OnlyChanges [.pwr, .carts, .up, .tray, .recorder] s t) ∧
    (∀ mv : Nat, mv < 45000 ∨ 57000 < mv → exec (.inputStageClose mv) s = .next s) ∧
    (∀ k : Fin 8, ∃ t, exec (.busConverterFail k) s = .next t ∧ (∀ j : Fin 8, (t.rail 1).units.getLsbD j = ((s.rail 1).units.getLsbD j || decide (j = k))) ∧
      (∀ q ≠ 1, t.rail q = s.rail q) ∧ OnlyChanges [.pwr, .recorder] s t) ∧
    (∀ (r : Fin 12) (mv : Nat), (railSpec r).inWindow mv = true → exec (.railFault r mv) s = .next s) ∧
    (∀ (r : Fin 12) (mv : Nat), 4 ≤ r.val → r.val ≤ 10 → (railSpec r).inWindow mv = false →
      (up → s.rst.runs = [] → ∃ t, exec (.railFault r mv) s = .next t ∧ t.rail r = { s.rail r with state := 2, faults := min 0xFF ((s.rail r).faults + 1) } ∧
        t.rst.lastLevel = 3 ∧ t.rst.lastCause = 0x0A ∧ (∀ q ≠ r.val, t.rail q = s.rail q)) ∧
      (s.svc = .init → Tbl.get false s.up.retried r = false → ∃ t, exec (.railFault r mv) s = .next t ∧
        t.rail r = { s.rail r with state := 2, faults := min 0xFF ((s.rail r).faults + 1) } ∧ Tbl.get false t.up.retried r = true ∧
        OnlyChanges [.pwr, .mem, .up, .recorder] s t))

/-! The draw budget and the cartridges (chapters 15 and 16). -/

/-- R415, R416, R419, R421, R428 to R432, R434, R435, R437, R438: P_store keeps the bus at the ramped target; a die above its allowance is
cut in proportion; the slow path takes one step of the class whose turn it is; distrust and the sensor check set after 1 ms; DRAW_LIMIT and
the brake bound P_ramp; a trajectory comes into force; telemetry is kept and its peaks are read and cleared. -/
def Obligations.DrawBudget : Prop :=
  ∀ s : State,
    let d := s.draw
    (∀ p : Nat, d.suspect = false → s.ptc.hasActive = true →
      (s.pwr.closed = true → s.svc ≠ .saving → ∃ t, exec (.storeControl p) s = .next t ∧ t.draw.measMw = p ∧
        t.draw.storeMw = max (-(s.carts.cAvail : Int)) (min ((p : Int) - t.draw.rampMw) s.carts.dAvail) ∧
        (d.brake = false → t.draw.rampMw ≤ d.rampMw + 1000 * d.ramp) ∧
        (s.carts.cal = none → ((t.bay 0).leg, (t.bay 1).leg) = s.carts.divide t.draw.storeMw) ∧ OnlyChanges [.draw, .carts, .recorder, .free] s t) ∧
      (s.pwr.closed = false → ∃ t, exec (.storeControl p) s = .next t ∧ t.draw.storeMw = (if s.carts.holdsBus then min p 3000000 else 0) ∧
        t.draw.rampMw = d.rampMw ∧ (s.carts.cal = none → ((t.bay 0).leg, (t.bay 1).leg) = s.carts.divide t.draw.storeMw) ∧
        OnlyChanges [.draw, .carts, .free] s t)) ∧
    (∀ (die : Fin 2) (e : Nat),
      let due := ∃ h ∈ d.hints, dieOfRegion h.region = die ∧ h.at_ ≤ s.rt.now.toNat + 200
      (Tbl.get 0 d.allowMw die < e → d.distrust = false → (Tbl.get 0 d.cutAt die = 0 ∨ Tbl.get 0 d.cutAt die + 200 ≤ s.lt) →
        ∀ c : Sys2Proof.Instr, c = .damperFastWindow die e ∨ (c = .hintCut die e ∧ due) →
          ∃ t, exec c s = .next t ∧ t.draw.level die = max 1 (d.level die * Tbl.get 0 d.allowMw die / e) ∧
            t.draw.level (1 - die.val) = d.level (1 - die.val) ∧ OnlyChanges [.draw] s t) ∧
      (¬due → exec (.hintCut die e) s = .next s) ∧
      (e ≤ Tbl.get 0 d.allowMw die →
        (due → ∃ t, exec (.hintCut die e) s = .next t ∧ t.draw = { d with hints := t.draw.hints } ∧
          (∀ h, h ∈ t.draw.hints ↔ h ∈ d.hints ∧ ¬(dieOfRegion h.region = die ∧ h.at_ ≤ s.rt.now.toNat + 200)) ∧ OnlyChanges [.draw] s t) ∧
        ∃ t, exec (.damperFastWindow die e) s = .next t ∧ (t.draw.level die = d.level die ∨ t.draw.level die = d.level die + 1) ∧
          OnlyChanges [.draw] s t)) ∧
    (∀ p o : Nat, s.ptc.hasActive = true → d.suspect = false → d.distrust = false → (∀ r, (s.feed.loop r).capped = false) →
      ∃ t, exec (.damperSlowPath p o) s = .next t ∧ OnlyChanges [.draw] s t ∧
        (s.aInt.1 < p →
          (s.turn = some 1 → t.draw.phiM = d.phiM - 1 ∧ t.draw.phiL = d.phiL ∧ t.draw.level0 = d.level0 ∧ t.draw.level1 = d.level1) ∧
          (s.turn = some 2 → t.draw.phiL = d.phiL - 1 ∧ t.draw.phiM = d.phiM ∧ t.draw.level0 = d.level0 ∧ t.draw.level1 = d.level1) ∧
          (s.turn = some 0 → t.draw.phiM = d.phiM ∧ t.draw.phiL = d.phiL ∧ t.draw.level0 = max 1 (d.level0 * s.aInt.1 / p) ∧
            t.draw.level1 = max 1 (d.level1 * s.aInt.1 / p)))) ∧
    (∀ e m f0 : Nat, s.ptc.hasActive = true → d.suspect = false → d.distrust = false → d.disFrom = some f0 → f0 + 1000000 ≤ s.lt → 25 * m < 100 * ((e - m) + (m - e)) →
      ∃ t, exec (.distrustCheck e m) s = .next t ∧ t.draw.distrust = true ∧ t.draw.distrusts = min 0xFF (d.distrusts + 1) ∧
        OnlyChanges [.draw, .recorder] s t) ∧
    (∀ e m : Nat, s.ptc.hasActive = true → d.suspect = false → d.distrust = false → 100 * ((e - m) + (m - e)) ≤ 25 * m → d.forced = [] →
      ∃ t, exec (.distrustCheck e m) s = .next t ∧ t.draw.distrust = false ∧ t.draw.disFrom = none ∧ OnlyChanges [.draw] s t) ∧
    (∀ a f0 : Nat, s.ptc.hasActive = true → d.suspect = false → d.senseFrom = some f0 → f0 + 1000000 ≤ s.lt →
      let b := s.pChk
      10 * a < 100 * ((a - b) + (b - a)) →
      ∃ t, exec (.sensorCheck a) s = .next t ∧ t.draw.suspect = true ∧ t.draw.chkMw = b ∧ OnlyChanges [.draw, .recorder] s t) ∧
    (∀ tr : Traj, d.pend = some tr →
      ((tr.points.headD { rt := 0, w := 0 }).rt ≤ s.rt.now.toNat → ∃ t, exec .trajectoryInForce s = .next t ∧
        t.draw = { d with traj := some tr, pend := none } ∧ OnlyChanges [.draw] s t) ∧
      (s.rt.now.toNat < (tr.points.headD { rt := 0, w := 0 }).rt → exec .trajectoryInForce s = .next s)) ∧
    (∀ duty : Fin 2001, let w := (5000 + 23 * duty.val) / 16
      600 ≤ w → w ≤ 2900 → ∃ t, exec (.drawLimitSample (some duty)) s = .next t ∧ t.draw.limit = w ∧
      t.draw.limitBad = false ∧ (d.brake = false → t.draw.rampMw ≤ 1000 * w) ∧ t.tray = { s.tray with dlPresent := true } ∧
      OnlyChanges [.draw, .tray] s t) ∧
    (∀ v : Option (Fin 2001), (∀ w, v = some w → (5000 + 23 * w.val) / 16 < 600 ∨ 2900 < (5000 + 23 * w.val) / 16) → ∃ t, exec (.drawLimitSample v) s = .next t ∧
      t.draw.limit = 600 ∧ t.draw.limitBad = true ∧ OnlyChanges [.draw, .tray, .recorder] s t) ∧
    (∃ t, exec .shelfBrakeAssert s = .next t ∧ t.draw = { d with brake := true, rampMw := 1000 * d.floor } ∧ t.carts.cal = none ∧
      OnlyChanges [.draw, .carts, .recorder] s t) ∧
    (∃ t, exec .shelfBrakeRelease s = .next t ∧ t.draw = { d with brake := false } ∧ OnlyChanges [.draw] s t) ∧
    (∀ w : BitVec 16, ∃ t, exec (.telFastEntry w) s = .next t ∧ t.draw.telCount = d.telCount + 1 ∧ t.draw.telLast = d.telCount % 256 ∧
      (Tbl.get TelFast.reset t.draw.tel (d.telCount % 256)).meas = w.toNat ∧ (Tbl.get TelFast.reset t.draw.tel (d.telCount % 256)).rt = s.rt.now ∧
      OnlyChanges [.draw] s t) ∧
    (∀ v c p : BitVec 16,
      let a : TelAvg := { v := v.toNat, i := c.toNat, p := p.toNat, t := d.tMax }
      ∃ t, exec (.telWindowEnd v c p) s = .next t ∧ t.draw.avgMs = a ∧
        t.draw.peaks = { p := max d.peaks.p a.p, i := max d.peaks.i a.i, v := min d.peaks.v a.v, t := max d.peaks.t a.t } ∧
        t.draw.tMax = 0 ∧ (∀ i < 12, (s.rail i).state = 0 → (t.rail i).mv = 0 ∧ (t.rail i).cur = 0) ∧
        OnlyChanges [.draw, .pwr, .tray, .free] s t) ∧
    (∀ fn : Fin 64, fn ≠ 0 → s.hostUp fn = true → ∃ t, exec (.telPeakRead fn) s = .next t ∧ t.out = .hostRead fn (toLE 8 0) false :: s.out ∧
      t.host.denyCw = min 0xFFFF (s.host.denyCw + 1) ∧ OnlyChanges [.host, .recorder, .out] s t) ∧
    (s.hostUp 0 = true → s.ptc.switching = false → ∃ t, exec (.telPeakRead 0) s = .next t ∧ t.out = .hostRead 0 (toLE 8 d.peaks.word) false :: s.out ∧
      t.draw = { d with peaks := Peaks.reset } ∧ OnlyChanges [.draw, .out] s t)

/-- R440 to R459: a sample beyond a limit isolates its bay with the cause; references, rests and learning; a calibration discharge moves
through its steps, ends with c and r or with a fault, or is abandoned; what is inserted is admitted, pre-charged or refused. -/
def Obligations.Cartridges : Prop :=
  ∀ (s : State) (b : Fin 2),
    let x := s.bay b
    let only := OnlyChanges [.carts, .pwr, .recorder] s
    (∀ m0 m1 : CartSample,
      let m := if b = 0 then m0 else m1
      let y := x.take m
      s.svc ≠ .saving →
      (x.state = .inService → y.runOpen < 2 → y.runCid < 2 → y.limitFault ≠ 0 → ∃ t, exec (.cartridgeSample m0 m1) s = .next t ∧
        (t.bay b).state = .fault ∧ (t.bay b).cause = y.limitFault ∧ (t.bay b).isolated = true ∧ OnlyChanges ([.carts, .pwr] ++ reporting) s t) ∧
      (x.state ≠ .absent → 2 ≤ y.runOpen ∨ 2 ≤ y.runCid → ∃ t, exec (.cartridgeSample m0 m1) s = .next t ∧ (t.bay b).state = .absent ∧
        (t.bay b).isolated = true ∧ OnlyChanges ([.carts, .pwr] ++ reporting) s t) ∧
      (x.state = .inService → y.runOpen < 2 → y.runCid < 2 → y.limitFault = 0 → y.runImb ≠ 10 → y.runDis ≠ 10 →
        ∃ t, exec (.cartridgeSample m0 m1) s = .next t ∧ (t.bay b).state = .inService ∧ (t.bay b).cells = m.cells ∧
          (t.bay b).charge = x.charge + (m.cur - x.offset) ∧ (t.bay b).suspect = x.suspect ∧ OnlyChanges ([.carts, .pwr] ++ reporting) s t)) ∧
    (∀ mv : Nat,
      (x.isolated = false → mv < 30800 ∨ 53200 < mv → ∃ t, exec (.legSelfIsolate b mv) s = .next t ∧ (t.bay b).isolated = true ∧
        t.bay (1 - b.val) = s.bay (1 - b.val) ∧ only t) ∧
      (x.isolated = true ∨ (30800 ≤ mv ∧ mv ≤ 53200) → exec (.legSelfIsolate b mv) s = .next s)) ∧
    (s.mayRest b = true → s.restTurn b = true → s.ptc.hasActive = true → ∃ t, exec (.legRestStart b) s = .next t ∧
      t.bay b = { x with resting := true, restFrom := s.lt } ∧ t.bay (1 - b.val) = s.bay (1 - b.val) ∧ OnlyChanges [.carts] s t) ∧
    (∀ (o : Int) (rm : Nat), x.resting = true → s.carts.cal = none → x.restFrom + 20000000 ≤ s.lt → ∃ t, exec (.legRestEnd b o rm) s = .next t ∧
      (t.bay b).resting = false ∧ (t.bay b).charge = 0 ∧ (t.bay b).offset = o ∧ (t.bay b).restAt = some s.lt ∧
      (t.bay b).vref = some (dmv x.vmin) ∧ t.bay (1 - b.val) = s.bay (1 - b.val) ∧ OnlyChanges [.carts, .pwr, .recorder, .host] s t) ∧
    (∀ (o : Int) (rm : Nat), s.lt < x.restFrom + 20000000 → exec (.legRestEnd b o rm) s = .next s) ∧
    (s.lt < x.refAt + 3600000000000 * s.carts.refMaxH → exec (.referenceOverdue b) s = .next s) ∧
    (x.state.serves = true → x.refAt + 3600000000000 * s.carts.refMaxH ≤ s.lt → ∃ t, exec (.referenceOverdue b) s = .next t ∧ (t.bay b).suspect = true ∧ only t) ∧
    (∀ t0, x.imbWait = true → x.imbFrom = some t0 → t0 + 600000000000 ≤ s.lt → ∃ t, exec (.imbalanceSettled b) s = .next t ∧ (t.bay b).imbWait = false ∧ only t) ∧
    (x.calWanted = true ∨ (s.carts.calDays ≠ 0 ∧ x.calAt + 86400000000000 * s.carts.calDays ≤ s.lt) → x.state = .inService →
      (s.calReason b = 0 → ∃ t c, exec (.cartCalDue b) s = .next t ∧ t.carts.cal = some c ∧ c.bay = b ∧ (t.bay 0).state = .calibrating ∧
        (t.bay 1).state = .calibrating ∧ only t) ∧
      (s.calReason b ≠ 0 → ∃ t, exec (.cartCalDue b) s = .next t ∧ t.carts.cal = s.carts.cal ∧ (t.bay b).calWanted = true ∧
        t.carts.calReason = s.calReason b ∧ only t)) ∧
    (x.calWanted = false → (s.carts.calDays = 0 ∨ s.lt < x.calAt + 86400000000000 * s.carts.calDays) → exec (.cartCalDue b) s = .next s) ∧
    (∀ (c : CartCal) (o : Int) (q rm : Nat), s.carts.cal = some c → c.bay = b →
      let ends := fun (t : State) (r : Nat) => t.carts.cal = none ∧ t.carts.calResult = r ∧ OnlyChanges ([.carts, .pwr] ++ reporting) s t
      (c.step = .prep → 90 ≤ x.soc → ∃ t d, exec (.calDischargeStep o q rm) s = .next t ∧ t.carts.cal = some d ∧ d.step = .rest0 ∧
        (t.bay b).resting = true ∧ t.carts.calResult = 2) ∧
      (c.step = .prep → x.soc < 85 → c.at_ + 60000000000 ≤ s.lt → ∃ t, exec (.calDischargeStep o q rm) s = .next t ∧ ends t 4 ∧
        t.carts.calReason = 7) ∧
      (c.step = .rest0 → c.from_ + 20000000 ≤ s.lt → ∃ t d, exec (.calDischargeStep o q rm) s = .next t ∧ t.carts.cal = some d ∧ d.step = .discharge ∧
        d.voc0 = dmv x.vmin ∧ (t.bay b).resting = false ∧ (t.bay b).charge = 0) ∧
      (c.step = .discharge → x.voc ≤ c.voc0 - 56000000 → ∃ t d, exec (.calDischargeStep o q rm) s = .next t ∧ t.carts.cal = some d ∧
        d.step = .rest1 ∧ (t.bay b).resting = true) ∧
      (c.step = .discharge → c.voc0 - 56000000 < x.voc → ∃ t, exec (.calDischargeStep o q rm) s = .next t ∧ t.carts.cal = some c) ∧
      (c.step = .rest0 ∨ c.step = .rest1 → s.lt < c.from_ + 20000000 → exec (.calDischargeStep o q rm) s = .next s.settle) ∧
      (c.step = .rest1 → c.from_ + 20000000 ≤ s.lt → c.voc0 ≠ x.voc →
        let n := q * 200000000
        let dv := (c.voc0 - x.voc).natAbs
        let cm := openDiv n dv
        (11000 * dv ≤ n → n ≤ 26400 * dv → ∃ t, exec (.calDischargeStep o q rm) s = .next t ∧ ends t 3 ∧ (t.bay b).cap = cm ∧ (t.bay b).esr = rm ∧
          (t.bay b).stale = false ∧ (t.bay b).suspect = false ∧ t.carts.cMeas = cm) ∧
        (n < 11000 * dv ∨ 26400 * dv < n → ∃ t, exec (.calDischargeStep o q rm) s = .next t ∧ ends t 5 ∧ (t.bay b).state = .fault ∧
          (t.bay b).cause = 6 ∧ (t.bay b).cap = x.cap)) ∧
      ∀ r : Fin 8, s.abandonHolds r = true → ∃ t, exec (.calDischargeAbandon r) s = .next t ∧ t.carts.cal = none ∧ t.carts.calResult = 4 ∧
        t.carts.calReason = r ∧ (t.bay b).cap = x.cap ∧ (t.bay b).esr = x.esr ∧ only t) ∧
    (∀ (ty : Bool) (n : BitVec 32) (m : CartSample), x.state = .absent → s.mayAdmit = true → m.cid = true →
      (∀ w ∈ m.temps, ∃ v, w = some v ∧ -40 ≤ v ∧ v ≤ 125) →
      let lo := m.cells.foldl min (m.cells.headD 0)
      let hi := m.cells.foldl max 0
      let into := fun (v : BayState) (k : Nat) => ∃ t, exec (.cartridgeInsertion b ty n m) s = .next t ∧ (t.bay b).state = v ∧ (t.bay b).cause = k
      let mild := ∀ w ∈ m.temps, ∀ v, w = some v → v < 70
      (ty = false → into .foreign 0) ∧
      (ty = true → (lo < 22000 → into .fault 2) ∧
        (22000 ≤ lo → n ∉ s.carts.deepSerials →
          (2000 ≤ hi - lo → into .fault 4) ∧
          (hi - lo < 2000 → ¬ mild → into .fault 3) ∧
          (hi - lo < 2000 → mild → lo < 25000 → into .admitting 0) ∧
          (hi - lo < 2000 → mild → 25000 ≤ lo → into .inService 0)))) ∧
    (s.mayAdmit = true → x.state = .admitting → x.precharge = true → 25000 ≤ x.vmin → ∃ t, exec (.admissionChargeDone b) s = .next t ∧
      (t.bay b).state = .inService ∧ (t.bay b).isolated = false ∧ OnlyChanges ([.carts, .pwr, .host] ++ reporting) s t)

/-! The PTC pair and its command set (chapter 17). -/

/-- R465 to R482: heartbeats; the loss of the ACTIVE PTC moves the baton and asserts absence; the successor becomes ACTIVE; checkpoints; what
absence of 5 ms and 50 ms brings; proving passes or fails. -/
def Obligations.PtcPair : Prop :=
  ∀ s : State,
    let p := s.ptc
    (∀ x : Fin 2, p.owner = some x.val →
      (p.switching = false → p.mode x = .active → ∃ t, exec .heartbeat s = .next t ∧ t.ptc = { p with heartAt := s.lt } ∧
        OnlyChanges (.ptc :: reporting) s t) ∧
      (p.switching = false → p.mode x = .standby → s.svc = .init → ∃ t, exec .heartbeat s = .next t ∧ t.ptc.mode x = .active ∧
        t.up.phase = 2 ∧ t.ptc.heartAt = s.lt ∧ (p.mode (1 - x.val) = .standby → t.ptc.mode (1 - x.val) = .proving)) ∧
      (∀ (c : Sys2Proof.Instr) (k : Nat), (c = .heartbeatLost ∧ k = 1 ∧ p.heartAt + 100000 ≤ s.lt) ∨ (c = .ptcFaultReport ∧ k = 2) → p.hasActive = true →
        ∃ t, exec c s = .next t ∧ t.ptc.mode x = .failed ∧ (t.ptc.fw x).failCause = k ∧ t.ptc.lastCause = k ∧ t.ptc.absent = true ∧
          t.ptc.switching = true ∧ t.ptc.epoch = p.epoch + 1#16 ∧
          t.ptc.owner = (if p.eligible (1 - x.val) then some (1 - x.val) else none) ∧ OnlyChanges (.ptc :: reporting) s t) ∧
      (p.switching = true → ∃ t, exec .takeover s = .next t ∧ t.ptc.mode x = .active ∧ t.ptc.absent = false ∧ t.ptc.switching = false ∧
        t.ptc.heartAt = s.lt ∧ t.ptc.owner = some x.val ∧ t.ptc.arbLog = [])) ∧
    (p.hasActive = false ∨ s.lt < p.heartAt + 100000 → exec .heartbeatLost s = .next s.settle) ∧
    (∀ (c : Ckpt) (ok : Bool) (us : BitVec 16), p.newest = some c → s.lt < c.lt + 1000000 → exec (.checkpoint ok us) s = .next s.settle) ∧
    (p.hasActive = true → (∀ c, p.newest = some c → c.lt + 1000000 ≤ s.lt) → ∀ us : BitVec 16,
      (∃ t c, exec (.checkpoint true us) s = .next t ∧ (if (p.number + 1) % 2 = 0 then t.ptc.buf0 else t.ptc.buf1) = some c ∧
        c.number = p.number + 1 ∧ c.reg = s.reg ∧ c.pwr = s.pwr ∧ c.draw = s.draw ∧ c.carts = s.carts ∧ c.feed = s.feed ∧ c.lt = s.lt ∧
        t.ptc.number = p.number + 1 ∧ t.ptc.failRun = 0 ∧ OnlyChanges (.ptc :: reporting) s t) ∧
      (p.failRun = 0 → ∃ t, exec (.checkpoint false us) s = .next t ∧ t.ptc.fails = min 0xFFFF (p.fails + 1) ∧ t.ptc.failRun = 1 ∧
        t.ptc.number = p.number ∧ t.ptc.switching = p.switching) ∧
      (∀ x : Fin 2, p.failRun = 1 → p.owner = some x.val → ∃ t, exec (.checkpoint false us) s = .next t ∧ t.ptc.lastCause = 3 ∧
        t.ptc.switching = true ∧ t.ptc.mode x = .failed)) ∧
    (p.absent = true → p.absentAt + 5000000 ≤ s.lt → ∃ t, exec .absence5ms s = .next t ∧
      (∀ i ∈ s.powered, (t.region i).setpt = min 160 (max (s.region i).setpt p.safeCode) ∧ (s.region i).ref ≤ (t.region i).ref ∧
        (t.region i).setpt ≤ (t.region i).ref) ∧
      t.draw.level0 = min s.draw.level0 8 ∧ t.draw.level1 = min s.draw.level1 8 ∧
      (∀ k < 56, (s.feed.phase k).mode = .shed → (t.feed.phase k).mode = .hold) ∧ OnlyChanges [.reg, .draw, .feed] s t) ∧
    (p.absent = false ∨ s.lt < p.absentAt + 5000000 → (∀ die < 2, Tbl.get false s.reg.broken die = false) → exec .absence5ms s = .next s) ∧
    (p.absent = false ∨ s.lt < p.absentAt + 50000000 → exec .absence50ms s = .next s.settle) ∧
    (p.absent = true → p.absentAt + 50000000 ≤ s.lt → (s.svc = .ready ∨ s.svc = .serving ∨ s.svc = .degraded) → s.rst.runs = [] →
      ∃ t, exec .absence50ms s = .next t ∧ t.rst.lastLevel = 4 ∧ t.ptc.arbLog = p.arbLog ++ [s.lt]) ∧
    (∀ x : Fin 2, p.find .resync = none → p.proveH ≠ 0 → p.proveAt + 3600000000000 * p.proveH ≤ s.lt → p.hasActive = true →
      p.find .standby = some x.val → ∃ t, exec .provingDue s = .next t ∧ t.ptc = { p.setMode x .proving with proveAt := s.lt } ∧ OnlyChanges [.ptc] s t) ∧
    (∀ (x : Fin 2) (w : BitVec 8) (self : Bool), p.find .proving = some x.val →
      (w = 0#8 → ∃ t, exec (.provingDone w self) s = .next t ∧ t.ptc.mode x = .standby ∧ t.ptc.proves = min 0xFFFF (p.proves + 1) ∧
        OnlyChanges (.ptc :: reporting) s t) ∧
      (w ≠ 0#8 → ∃ t, exec (.provingDone w self) s = .next t ∧ t.ptc.mode x = .failed ∧ t.ptc.proveFails = min 0xFFFF (p.proveFails + 1) ∧
        (t.ptc.fw x).failCause = (if self then 4 else 5) ∧ OnlyChanges (.ptc :: reporting) s t))

/-- R382, R461, R480, R483 to R487: a command of the set that reaches an idle interpreter ends at once with its STATUS and REASON, or runs
with its result PENDING; a repeat shows the result of the journal; while a command runs, a switch is under way, or in INIT or SAVING, the
answer is BUSY. A request of the rack that is a repeat or waits behind another is `TrayRequests`. -/
def Obligations.PtcCommands : Prop :=
  ∀ (s : State) (iss : PtcIssue), s.svc ≠ .off → (iss.rack = false → iss.func = 0 ∧ s.hostUp 0 = true) →
    (iss.rack = true → (s.ptc.hasActive = true ∨ s.ptc.switching = true) ∧ (∀ r ∈ s.tray.stored, ¬(r.type = 5 ∧ r.seq = iss.seq.toNat)) ∧
      (s.tray.queue = [] ∨ ∃ p q, s.tray.queue = (5, iss.seq.toNat, p) :: q)) →
    let p := s.ptc
    let shows := fun (c : Sys2Proof.Instr) (r : PtcResult) (cs : List Comp) => ∃ t, exec c s = .next t ∧ t.ptc.result = r ∧ OnlyChanges (cs ++ .ptc :: reporting) s t
    let ends := fun (c : Sys2Proof.Instr) (op : Nat) (st : PtcStatus) (k : Nat) => shows c (mkResult iss op st k 0) []
    (s.svc = .init ∨ s.svc = .saving ∨ p.switching = true →
      ∀ a : BitVec 64, ends (.prove iss a) 3 .busy 0 ∧ ends (.selftest iss a) 0x19 .busy 0 ∧ ends (.switch iss a) 1 .busy 0 ∧
        ends (.cartRelease iss a) 0x10 .busy 0) ∧
    (s.svc ≠ .init → s.svc ≠ .saving → p.switching = false →
      (∀ (e : JournalEntry) (r : PtcResult) (a : BitVec 64), p.repeated iss = some e → e.result = some r →
        shows (.status iss a) r [] ∧ shows (.selftest iss a) r [] ∧ shows (.fwStage iss a) r []) ∧
      (p.repeated iss = none → p.running.isSome = true → ∀ a : BitVec 64, ends (.status iss a) 0 .busy 0 ∧ ends (.regCal iss a) 0x18 .busy 0) ∧
      (p.repeated iss = none → p.running = none → ∀ a : BitVec 64,
        let n := a.toNat
        let runs := fun (c : Sys2Proof.Instr) (op : Nat) => ∃ t e, exec c s = .next t ∧ t.ptc.result = mkResult iss op .pending 0 0 ∧
          t.ptc.running = some e ∧ e.op = op ∧ e.tag = iss.tag.toNat ∧ e.result = none ∧ OnlyChanges (.ptc :: reporting) s t
        let refuses := fun (c : Sys2Proof.Instr) (op : Nat) => ∃ t k, exec c s = .next t ∧ t.ptc.result = mkResult iss op .refused k 0 ∧
          OnlyChanges (.free :: .ptc :: reporting) s t
        (a = 0#64 → ends (.status iss a) 0 .ok 0) ∧
        (a ≠ 0#64 → ends (.status iss a) 0 .badarg 0 ∧ ends (.switch iss a) 1 .badarg 0 ∧ ends (.prove iss a) 3 .badarg 0) ∧
        (a = 0#64 → p.switchRefusal ≠ 0 → ends (.switch iss a) 1 .refused p.switchRefusal) ∧
        (a = 0#64 → p.switchRefusal = 0 → p.owner.isSome = true → p.hasActive = true → ∃ t, exec (.switch iss a) s = .next t ∧
          t.ptc.result = mkResult iss 1 .pending 0 0 ∧ t.ptc.switching = true ∧ t.ptc.absent = true ∧ t.ptc.lastCause = 4 ∧
          t.ptc.number = p.number + 1) ∧
        (1 < n → ends (.returnPtc iss a) 2 .badarg 0) ∧
        (n ≤ 1 → (p.returnRefusal n ≠ 0 → ends (.returnPtc iss a) 2 .refused (p.returnRefusal n)) ∧
          (p.returnRefusal n = 0 → runs (.returnPtc iss a) 2 ∧ ∃ t, exec (.returnPtc iss a) s = .next t ∧ t.ptc.mode n = .resync)) ∧
        (a = 0#64 → p.proveRefusal ≠ 0 → ends (.prove iss a) 3 .refused p.proveRefusal) ∧
        (∀ x : Fin 2, a = 0#64 → p.find .standby = some x.val → runs (.prove iss a) 3 ∧ ∃ t, exec (.prove iss a) s = .next t ∧ t.ptc.mode x = .proving) ∧
        (255 < n → ends (.fwStage iss a) 4 .badarg 0) ∧
        (n ≤ 255 → (p.freeSlot = none → ends (.fwStage iss a) 4 .refused 1) ∧
          (∀ k, p.freeSlot = some k → ends (.fwStage iss a) 4 .ok 0 ∧ ∃ t, exec (.fwStage iss a) s = .next t ∧ t.ptc.staged = some k)) ∧
        (∀ (v : BitVec 32) (c f : Bool),
          (n = 0 ∨ 0x1000000 < n → ends (.fwUpdate iss a v c f) 5 .badarg 0) ∧
          (0 < n → n ≤ 0x1000000 → p.updateRefusal c f ≠ 0 → ends (.fwUpdate iss a v c f) 5 .refused (p.updateRefusal c f)) ∧
          (∀ x : Fin 2, 0 < n → n ≤ 0x1000000 → p.updateRefusal c f = 0 → p.find .standby = some x.val → runs (.fwUpdate iss a v c f) 5 ∧
            ∃ t, exec (.fwUpdate iss a v c f) s = .next t ∧ t.ptc.mode x = .resync ∧ (t.ptc.fw x).version = v)) ∧
        (432 ≤ n → ends (.regCal iss a) 0x18 .badarg 0) ∧
        (n < 432 → (s.region n).mode.railed = false → ends (.regCal iss a) 0x18 .refused 1) ∧
        (n < 432 → (s.region n).mode.railed = true →
          (s.calRefusal n ≠ 0 → ends (.regCal iss a) 0x18 .deferred (s.calRefusal n)) ∧
          (s.calRefusal n = 0 → shows (.regCal iss a) (mkResult iss 0x18 .ok 0 0) [.reg] ∧
            ∃ t, exec (.regCal iss a) s = .next t ∧ t.reg.calActive = true ∧ t.reg.calRegion = n ∧ (t.region n).mode = .carried)) ∧
        (3 < n → ends (.selftest iss a) 0x19 .badarg 0) ∧
        (n ≤ 3 → (s.selftestDefer n ≠ 0 → ends (.selftest iss a) 0x19 .deferred (s.selftestDefer n)) ∧
          (s.selftestDefer n = 0 → runs (.selftest iss a) 0x19)) ∧
        (1 < n → ends (.cartAdmit iss a) 0x11 .badarg 0 ∧ ends (.cartCal iss a) 0x12 .badarg 0) ∧
        (n ≤ 1 →
          let x := s.bay n
          (x.state = .released → ends (.cartRelease iss a) 0x10 .ok 0) ∧
          (x.state = .released → x.typeOk = false → ∃ t, exec (.cartAdmit iss a) s = .next t ∧
            (t.bay n).state = .foreign ∧ t.ptc.result = mkResult iss 0x11 .ok 0 0) ∧
          (x.state = .inService → s.carts.cal = none → s.lastServing n = true → ends (.cartRelease iss a) 0x10 .refused 1) ∧
          (x.state = .inService → s.carts.cal = none → s.lastServing n = false → ∃ t, exec (.cartRelease iss a) s = .next t ∧
            (t.bay n).state = .released ∧ (t.bay n).isolated = true ∧ (t.bay n).ind = true ∧ t.ptc.result = mkResult iss 0x10 .ok 0 0) ∧
          (x.state = .inService → refuses (.cartAdmit iss a) 0x11) ∧
          (x.state ≠ .inService → refuses (.cartCal iss a) 0x12) ∧
          (x.state = .inService → s.calReason n = 0 → ∃ t c, exec (.cartCal iss a) s = .next t ∧ t.carts.cal = some c ∧ c.bay = n ∧
            t.ptc.result = mkResult iss 0x12 .ok 0 0)))) ∧
    ∀ (e : JournalEntry) (w : BitVec 8), p.running = some e → e.op = 0x19 → ∃ t, exec (.ptcCommandDone w) s = .next t ∧ t.ptc.running = none ∧
      t.ptc.result = { status := .ok, rack := e.rack, reason := 0, tag := e.tag, op := 0x19, detail := w.toNat } ∧
      OnlyChanges (.ptc :: reporting) s t

/-! Resets, dumps and ember save (chapter 18). -/

/-- R491 to R499, R508, R510: the watchdog marks a slot; a detector decides an L1 of its core or an L3; RESET is refused or decided with its
cause; REPLAY starts an L1 that keeps the context; a reset that recovers ends its run, one that does not escalates. -/
def Obligations.ResetsAreDecided : Prop :=
  ∀ s : State,
    let up := s.svc = .ready ∨ s.svc = .serving ∨ s.svc = .degraded
    let l3 := fun (c : Sys2Proof.Instr) (cause : Nat) => ∃ t, exec c s = .next t ∧ t.rst.lastLevel = 3 ∧ t.rst.lastCause = cause ∧
      Tbl.get 0 t.rst.count 3 = min 0xFFFF (Tbl.get 0 s.rst.count 3 + 1) ∧ (t.rst.drain = some 3 ∨ t.svc = .benched)
    (∀ n : Fin 1024, (s.slot n).state ≠ .free → (s.slot n).pw.limit ≠ 0 → (s.slot n).pw.expired = false → (s.slot n).pw.limit ≤ (s.slot n).pw.idleMs →
      ∃ t, exec (.watchdogExpired n) s = .next t ∧ (t.slot n).pw.expired = true ∧ (t.slot n).pw.idleMs = (s.slot n).pw.idleMs ∧
        (t.host.int 0).cause.getLsbD 2 = true ∧ OnlyChanges [.slots, .host, .out, .recorder] s t) ∧
    (∀ n : Fin 1024, (s.slot n).pw.idleMs < (s.slot n).pw.limit → exec (.watchdogExpired n) s = .next s) ∧
    (up → s.rst.runs = [] → ∀ (k : Fin 1728) (r : Resident), (s.core k).res = some r → (s.slot r.slot).state = .running →
      let c := s.core k
      let l1 := fun (i : Sys2Proof.Instr) (cause : Nat) => ∃ t, exec i s = .next t ∧ t.rst.lastLevel = 1 ∧ t.rst.lastTarget = k ∧
        t.rst.lastCause = cause ∧ (t.slot r.slot).state = .aborted ∧ (t.slot r.slot).cause = 0x08#8 ∧ (t.core k).res = some r ∧
        (t.core k).sp = [] ∧ (t.core k).g = [] ∧ (t.core k).fault = none
      (c.m0 ≠ [] → l1 (.engineStall k false) 0x04) ∧ (c.m1 ≠ [] → l1 (.engineStall k true) 0x04) ∧
      (c.dmas ≠ [] → l1 (.dmaTimeout k) 0x05) ∧ (c.outbound ≠ [] → l1 (.sendCopyTimeout k) 0x06) ∧ (c.stopped = true → l1 (.stopOrderTimeout k) 0x03)) ∧
    (∀ (k : Fin 1728) (r : Resident), (s.core k).res = some r → (s.slot r.slot).state = .torn → (s.core k).stopped = true →
      ∃ t, exec (.stopOrderTimeout k) s = .next t ∧ t.core k = { s.core k with cut := true } ∧ OnlyChanges (.cores :: reporting) s t) ∧
    (∀ k : Fin 1728, (s.core k).stopped = false → exec (.stopOrderTimeout k) s = .next s.settle) ∧
    (up → s.rst.runs = [] → l3 .linkStall 0x07 ∧
      (∀ c : Fin 384, (c.val < 256 → (s.stack (stackOf c)).throt ≠ 3) → l3 (.channelStall c) 0x08) ∧
      ((∃ x ∈ s.fab.insts, ∃ d, s.redDesc x.slot x.desc = some d ∧ s.isFinal d x = true) → l3 .reductionStall 0x09)) ∧
    (s.hostUp 0 = true → ∀ (v : BitVec 3) (g : BitVec 11),
      (s.rstBusy = true → ∃ t, exec (.reset (.host 0) v g) s = .next t ∧ t.rst.result = 4 ∧ t.rst.runs = s.rst.runs) ∧
      (s.rstBusy = false → s.resetRefusal (.host 0) v.toNat g.toNat ≠ 0 → ∃ t, exec (.reset (.host 0) v g) s = .next t ∧
        t.rst.result = s.resetRefusal (.host 0) v.toNat g.toNat ∧ t.rst.runs = s.rst.runs ∧ t.rst.count = s.rst.count) ∧
      (s.rstBusy = false → s.resetRefusal (.host 0) v.toNat g.toNat = 0 → s.rst.runs = [] → (∀ n, (s.slot n).state ≠ .suspect) →
        ∃ t, exec (.reset (.host 0) v g) s = .next t ∧ t.rst.result = 1 ∧ t.rst.lastLevel = v.toNat ∧ t.rst.lastCause = 1 ∧
          t.rst.lastTarget = (if v.toNat ≤ 2 then g.toNat else 0)) ∧
      (v.toNat = 1 → 1727 < g.toNat → s.rstBusy = false → ∃ t, exec (.reset (.host 0) v g) s = .next t ∧ t.rst.result = 5) ∧
      (∀ q : BitVec 16, v.toNat < 3 → s.resetRefusal (.rack q) v.toNat g.toNat = 5)) ∧
    (s.hostUp 0 = true → s.rstBusy = false → ∀ g : BitVec 11,
      (s.replayRefusal g.toNat = 0 → ∃ t r, exec (.replay 0 g) s = .next t ∧ r ∈ t.rst.runs ∧ r.level = 1 ∧ r.replay = some g.toNat ∧
        r.target = (s.slot g.toNat).pw.fcore ∧ (t.slot g.toNat).state = .suspect ∧ t.rst.result = 1 ∧ t.rst.lastCause = 0x0D) ∧
      (s.replayRefusal g.toNat ≠ 0 → ∃ t, exec (.replay 0 g) s = .next t ∧ t.rst.result = s.replayRefusal g.toNat ∧ t.rst.runs = s.rst.runs)) ∧
    (∀ r : ResetRun, s.rst.runs = [r] →
      (∀ (g : BitVec 11) (fs : List (Fin 1728)), r.level = 1 → r.target = g.toNat → r.replay = none →
        ((∀ k ∈ fs, k.val ≠ g.toNat) → s.threeL1 g.toNat = false → ∃ t, exec (.resetRecovered 1 g fs) s = .next t ∧ t.rst.runs = [] ∧
          (r.cmd = true → t.rst.result = 2) ∧ t.host.keep = s.host.keep) ∧
        ((∃ k ∈ fs, k.val = g.toNat) → s.keepLimited (keepRetire (g.toNat / 36)) = false → ∃ t, exec (.resetRecovered 1 g fs) s = .next t ∧
          t.rst.runs = [] ∧ (t.keep (keepRetire (g.toNat / 36))).getLsbD (g.toNat % 36) = true) ∧
        (s.partitionOf g.toNat = none → r.at_ + recoverNs 1 ≤ s.lt → ∃ t, exec (.resetEscalation 1 g) s = .next t ∧ t.rst.lastLevel = 3 ∧ t.rst.lastCause = 0x0C ∧
          t.rst.lastEsc = true) ∧
        (s.lt < r.at_ + recoverNs 1 → exec (.resetEscalation 1 g) s = .next s.settle)) ∧
      (r.level = 3 → r.target = 0 → r.replay = none → s.recovered r = true → ∃ t, exec (.resetRecovered 3 0#11 []) s = .next t ∧ t.rst.runs = [] ∧
        ∀ n, (s.slot n).state = .loaded ∨ (s.slot n).state = .running → (t.slot n).state = .free ∧ (t.slot n).cause = 0x08#8))

/-- R501, R504 to R506, R512 to R520: dumps are taken, copied and freed by command; drain-discard ends in what the reset clears, tier 2 kept;
the save list is checked; a save starts, writes its parts in order, and ends in INIT or OFF; BENCH_CLEAR lifts the latch. -/
def Obligations.DumpsAndSaves : Prop :=
  ∀ s : State,
    (s.hostUp 0 = true → s.rstBusy = false →
      (s.svc ≠ .benched → ∀ n : Fin 1024,
        ((s.slot n).state = .loaded ∨ (s.slot n).state = .aborted ∨ (s.slot n).state = .suspect →
          ∃ t i d, exec (.dump 0 n) s = .next t ∧ t.rst.result = 1 ∧ t.rst.busyCmd = some (2, n.val) ∧ t.dumpAt i = some d ∧ d.slot = n ∧
            d.recs.map DumpRec.core = s.coresOf n ∧ (∀ r ∈ d.recs, r.regs = s.core r.core) ∧ OnlyChanges [.rst, .recorder] s t) ∧
        ((s.slot n).state = .free ∨ (s.slot n).state = .running → ∃ t, exec (.dump 0 n) s = .next t ∧ t.rst.result = 3 ∧ t.rst.dumps = s.rst.dumps)) ∧
      (∀ g : BitVec 11,
        (s.svc ≠ .benched → s.copyRefusal g.toNat = 0 → ∃ t, exec (.dumpCopy 0 g) s = .next t ∧ t.rst.busyCmd = some (3, g.toNat) ∧
          t.rst.result = 1 ∧ OnlyChanges [.rst] s t) ∧
        (s.svc = .benched → ∃ t, exec (.dumpCopy 0 g) s = .next t ∧ t.rst.result = 3) ∧
        (g.toNat < 64 → ∃ t, exec (.dumpFree 0 g) s = .next t ∧ t.dumpAt g.toNat = none ∧ t.rst.result = 2 ∧
          (∀ i ≠ g.toNat, t.dumpAt i = s.dumpAt i) ∧ OnlyChanges [.rst, .host, .out] s t) ∧
        (g = 0x7FF#11 → ∃ t, exec (.dumpFree 0 g) s = .next t ∧ t.rst.saveValid = false ∧ t.rst.dumps = s.rst.dumps ∧ t.rst.result = 2)) ∧
      (s.keepLimited keepBench = false → ∃ t, exec (.benchClear (.host 0)) s = .next t ∧
        (t.keep keepBench).getLsbD 16 = false ∧ (t.keep keepBench).getLsbD 17 = true ∧ t.rst.result = 2 ∧
        OnlyChanges [.rst, .host, .out, .recorder] s t) ∧
      (∀ a : BitVec 48, ∃ t, exec (.saveListWrite 0 a) s = .next t ∧ t.rst.saveAddr = a ∧
        t.rst.listState = (if a = 0#48 then 0 else if s.saveListOk a.toNat then 1 else 2) ∧ OnlyChanges [.rst] s t)) ∧
    (∀ op g : Nat, s.rst.busyCmd = some (op, g) →
      (op = 2 → ∀ b : Bool, ∃ t, exec (.rstCmdDone b) s = .next t ∧ t.rst.busyCmd = none ∧ t.rst.result = 2 ∧
        OnlyChanges [.rst, .host, .out] s t) ∧
      (op = 3 → (∃ t, exec (.rstCmdDone false) s = .next t ∧ t.rst.busyCmd = none ∧ t.rst.result = 6 ∧ t.rst.detail = 2 ∧
          OnlyChanges [.rst, .host, .out] s t) ∧
        ∀ d, g ≠ 0x7FF → s.dumpAt g = some d →
          let a := s.rst.arg.toNat % 2 ^ 48
          ∃ t, exec (.rstCmdDone true) s = .next t ∧ t.mem.read a d.bytes.length = d.bytes ∧ t.rst.result = 2 ∧
            (∀ q, q < a ∨ a + d.bytes.length ≤ q → t.mem.byte q = s.mem.byte q) ∧ OnlyChanges [.rst, .host, .out, .mem, .recorder] s t)) ∧
    (s.rst.drain = none ∨ s.lt < s.rst.drainAt + 50000 → exec .drainDiscardEnd s = .next s) ∧
    (s.rst.drain = some 3 → s.rst.drainAt + 50000 ≤ s.lt → ∃ t, exec .drainDiscardEnd s = .next t ∧ t.rst.drain = none ∧ t.mesh = [] ∧ t.fab.insts = [] ∧
      t.mem.fill = 1 ∧ t.mem.t1Filled = false ∧ t.mem.poison = [] ∧ t.mem.err1 = [] ∧ t.mem.err2 = (if s.mem.t2Filled then s.mem.err2 else []) ∧
      (∀ k, (t.core k).sp = [] ∧ (t.core k).g = [] ∧ (t.core k).res = (s.core k).res) ∧
      (∀ a, t2Base ≤ a → Mem.read8 t.mem.bytes a = if s.mem.t2Filled then Mem.read8 s.mem.bytes a else 0#8) ∧ (∀ a < t2Base, Mem.read8 t.mem.bytes a = 0#8) ∧
      ∀ p : Fin 18, (t.port p).replay = [] ∧ (t.port p).failed = (s.port p).failed ∧
        (t.port p).state = if (s.port p).disable then .disabled else .training) ∧
    (s.maySave = true →
      (let due := s.carts.eLow ≤ joule 3000 ∨ (s.carts.rideS ≠ 0 ∧ ∃ t0, s.carts.openAt = some t0 ∧ t0 + 1000000000 * s.carts.rideS ≤ s.lt)
       (due → ∃ t, exec .emberSaveTrigger s = .next t ∧ t.svc = .saving ∧ t.rst.drain = some 5 ∧ t.rst.drainAt = s.lt ∧ t.rst.runs = [] ∧
         t.rst.save.isSome = true) ∧ (¬ due → exec .emberSaveTrigger s = .next s)) ∧
      (∀ a b : Nat, s.tray.openedAt = some a → s.tray.tickAt = some b → a ≤ b + 1000000 → b ≤ a + 1000000 →
        ∃ t, exec .trayLoss s = .next t ∧ t.svc = .saving ∧ t.rst.drain = some 5)) ∧
    (s.maySave = false → exec .emberSaveTrigger s = .next s ∧ exec .trayLoss s = .next s) ∧
    (s.rst.drain = none → ∀ v : SaveRun, s.rst.save = some v →
      (v.step = 2 → ∃ t, exec .emberSavePartDone s = .next t ∧ t.rst.saveValid = true ∧ t.rst.saveComplete = false ∧ t.rst.saveParts = 1 ∧
        t.rst.save = some { step := if s.rst.cfgDump = 2 then 3 else 5, rest := v.rest }) ∧
      (v.step = 3 → ∃ t, exec .emberSavePartDone s = .next t ∧ t.rst.saveParts = s.rst.saveParts + 1 ∧
        t.rst.save = some { step := 5, rest := v.rest } ∧ OnlyChanges [.rst, .reg] s t) ∧
      (∀ e l, v.step = 5 → v.rest = e :: l → s.blocked e.base e.len = true → exec .emberSavePartDone s = .next s) ∧
      (∀ e l, v.step = 5 → v.rest = e :: l → s.blocked e.base e.len = false → ∃ t, exec .emberSavePartDone s = .next t ∧
        t.rst.saveParts = s.rst.saveParts + 1 ∧ t.rst.save = some { step := 5, rest := l } ∧ OnlyChanges ([.rst, .mem] ++ reporting) s t) ∧
      (∀ mv : BitVec 16, let ended := if 44000 ≤ mv.toNat ∧ mv.toNat ≤ 58000 then Service.init else Service.off
        (v.step = 5 → v.rest = [] → ∃ t, exec (.emberSaveDone mv) s = .next t ∧ t.rst.saveComplete = true ∧ t.rst.saveParts = s.rst.saveParts ∧
          t.rst.save = none ∧ t.svc = ended) ∧
        (v.step = 6 → ∃ t, exec (.emberSaveDone mv) s = .next t ∧ t.rst.saveComplete = s.rst.saveComplete ∧ t.svc = ended)))

/-! Device memory (chapters 09, 10 and 20). -/

/-- R290 to R297, R301, R303, R305, R311, R315 to R318, R320: the scrub reads the next codeword or page of its pass and corrects it or
reports it; hot channels and stack temperatures; salt rotation by stripes; row repair with its result and its keep register; injection and the
tier-2 strength. -/
def Obligations.MemoryMaintenance : Prop :=
  ∀ s : State,
    let m := s.mem
    let memOnly := OnlyChanges [.mem] s
    let loud := OnlyChanges [.mem, .recorder, .host, .out] s
    (s.scrubs false = true → m.t1Pass.pos < t1Words → ∀ es : List (Nat × Nat), (es.map Prod.fst).Nodup →
      (∀ e ∈ es, e.1 < 72 ∧ 0 < e.2 ∧ e.2 < 256) →
      let w := m.t1Pass.pos
      let errs := es.map fun e => (w, e.1, e.2)
      let k := stackOf (s.channelAt (64 * w))
      Tbl.get [] m.err1 w = [] →
        (es = [] → ∃ t, exec (.scrubRead false errs) s = .next t ∧ t.mem.bytes = m.bytes ∧ t.mem.poison = m.poison ∧ t.mem.err1 = m.err1 ∧
          t.mem.t1Pass = m.t1Pass.next t1Words s.lt ∧ memOnly t) ∧
        (es.length = 1 ∨ es.length = 2 → ∃ t, exec (.scrubRead false errs) s = .next t ∧ t.mem.bytes = m.bytes ∧ t.mem.poison = m.poison ∧
          Tbl.get [] t.mem.err1 w = [] ∧ (t.stack k).ce = min 0xFFFFFFFF ((s.stack k).ce + 1) ∧
          t.mem.t1Pass = m.t1Pass.next t1Words s.lt ∧ loud t) ∧
        (es.length = 3 ∨ es.length = 4 → ∃ t, exec (.scrubRead false errs) s = .next t ∧ Tbl.get false t.mem.poison w = true ∧
          t.mem.read (64 * w) 64 = List.replicate 64 0#8 ∧ (t.stack k).ue = min 0xFFFF ((s.stack k).ue + 1) ∧
          (t.host.int 0).cause.getLsbD 3 = true ∧ t.mem.t1Pass = m.t1Pass.next t1Words s.lt ∧ loud t)) ∧
    (s.scrubs true = true → m.t2Pass.pos < t2Pages → ∀ es : List (Nat × Nat), (es.map Prod.fst).Nodup →
      (∀ e ∈ es, e.1 < 2731 + 2 * s.t2t ∧ 0 < e.2 ∧ e.2 < 4096) → 1 ≤ es.length → es.length ≤ s.t2t →
      let p := m.t2Pass.pos
      Tbl.get [] m.err2 p = [] → ∃ t, exec (.scrubRead true (es.map fun e => (p, e.1, e.2))) s = .next t ∧ t.mem.bytes = m.bytes ∧
        Tbl.get [] t.mem.err2 p = [] ∧ t.mem.t2Ce = min 0xFFFFFFFF (m.t2Ce + 1) ∧ t.mem.t2Pass = m.t2Pass.next t2Pages s.lt ∧ loud t) ∧
    (∀ b : Bool,
      let h := if b then m.t2ScrubH else m.t1ScrubH
      let p := if b then m.t2Pass else m.t1Pass
      let ended := h ≠ 0 ∧ (if b then m.t2Filled else m.t1Filled) = true ∧ p.start + scrubNs h ≤ s.lt
      let q : Pass := if p.done then { Pass.reset with start := s.lt } else { p with overran := true }
      (ended → ∃ t, exec (.scrubPeriodEnd b) s = .next t ∧ memOnly t ∧
        t.mem = { m with t1Pass := if b then m.t1Pass else q, t2Pass := if b then q else m.t2Pass,
                         overruns := min 0xFFFF (m.overruns + (if p.done || p.overran then 0 else 1)) }) ∧
      (¬ ended → exec (.scrubPeriodEnd b) s = .next s)) ∧
    (m.waiting = [] → ∀ busy : List Nat, ∃ t, exec (.hotWindowEnd busy) s = .next t ∧ loud t ∧
      (∀ c < 256, (t.chan c).load = (s.chan c).total ∧ (t.chan c).run = [] ∧ (t.chan c).busyPct = min 100 (busy.getD c 0)) ∧
      ∀ c < 256, (s.chan c).hot = false →
        (t.chan c).hot = (m.isHot (s.chan c).total ((List.range 256).foldl (fun n c => n + (s.chan c).total) 0) &&
            decide (m.hotWindows ≤ min 0xFFFF ((s.chan c).hotWin + 1)) ||
          !m.isHot (s.chan c).total ((List.range 256).foldl (fun n c => n + (s.chan c).total) 0) && decide (m.hotWindows = 0))) ∧
    (∀ c : Fin 256,
      let due := (s.chan c).hot = true ∧ 1000 * ((s.chan c).repeats + 1) ≤ (s.chan c).hotMs
      (due → ∃ t, exec (.hotRepeat c) s = .next t ∧ (t.chan c).repeats = (s.chan c).repeats + 1 ∧ OnlyChanges [.mem, .recorder] s t) ∧
      (¬ due → exec (.hotRepeat c) s = .next s)) ∧
    (m.waiting = [] → ∀ (k : Fin 8) (w : BitVec 8), ∃ t, exec (.stackTempSample k w) s = .next t ∧ (t.stack k).temp = w.toNat ∧
      (100 ≤ w.toNat → (t.stack k).throt = 3) ∧ (92 ≤ w.toNat → w.toNat < 95 → (t.stack k).throt = 2) ∧
      (w.toNat < 88 → m.hotHoldS = 0 → (t.stack k).throt = 0) ∧ (∀ j ≠ k.val, t.stack j = s.stack j) ∧ OnlyChanges [.mem, .recorder] s t) ∧
    (s.hostUp 0 = true → s.l3Runs = false →
      (∀ (n : Fin 1024) (v : BitVec 32),
        let answers := fun r : Nat => ∃ t, exec (.memSaltRot 0 n v) s = .next t ∧ t.mem.saltResult = r ∧ t.mem.saltSlot = n ∧
          t.mem.rotation = (if r = 1 then some (n.val, v) else m.rotation) ∧ memOnly t
        let st := (s.slot n).state
        (st ≠ .loaded → st ≠ .parked → answers 3) ∧
        (st = .loaded ∨ st = .parked → (m.rotation.isSome = true → answers 4) ∧ (m.rotation = none → answers 1))) ∧
      (∀ v : BitVec 64,
        let w := v.toNat
        let row := BitVec.ofNat 32 w
        let k := w / 2 ^ 32 % 8
        let bad := w / 2 ^ 35 % 2 ^ 28 ≠ 0 ∨ w / 2 ^ 27 % 2 ^ 5 ≠ 0 ∨ 40959 < w / 2 ^ 11 % 2 ^ 16
        let answers := fun r : Nat => ∃ t, exec (.memRepairReq 0 v) s = .next t ∧ t.mem.repairResult = r ∧ t.mem.repairRow = row ∧
          t.mem.repairStack = k ∧ t.mem.remap = m.remap ∧ OnlyChanges [.mem, .recorder] s t
        (v.getLsbD 63 = false → exec (.memRepairReq 0 v) s = .next s) ∧
        (v.getLsbD 63 = true → (bad → answers 7) ∧
          (¬ bad → (m.repair.isSome = true ∨ s.pendingRepair.isSome = true → answers 4) ∧
            (m.repair = none → s.pendingRepair = none →
              (s.remapped k row = true → answers 5) ∧
              (s.remapped k row = false → s.freeSpare k = none → answers 3) ∧
              ∀ i, s.remapped k row = false → s.freeSpare k = some i → answers 1 ∧ ∃ t r, exec (.memRepairReq 0 v) s = .next t ∧
                t.mem.repair = some r ∧ r.stack = k ∧ r.row = row ∧ r.spare = i)))) ∧
      (∀ v : BitVec 64, ∃ t, exec (.memInject 0 v) s = .next t ∧ t.mem = { m with
        injAddr := v.extractLsb' 0 42, injNsym := v.extractLsb' 42 5, injArm := v.getLsbD 63 } ∧ memOnly t)) ∧
    (∀ (n : Nat) (v k : BitVec 32), m.rotation = some (n, v) →
      (s.anyStopped = true → exec (.saltRotationDone k) s = .next s) ∧
      (s.anyStopped = false → m.err1 = [] →
        (k.toNat < (s.slot n).stripes → ∃ t, exec (.saltRotationDone k) s = .next t ∧ t.mem.saltDone.toNat = max m.saltDone.toNat k.toNat ∧
          t.mem.rotation = m.rotation ∧ t.mem.bytes = m.bytes ∧ memOnly t) ∧
        ((s.slot n).stripes ≤ k.toNat → (s.slot n).step.pendingRel = none → ∃ t, exec (.saltRotationDone k) s = .next t ∧
          (t.slot n).salt = v ∧ t.mem.rotation = none ∧ t.mem.saltResult = 2 ∧ (∀ j ≠ n, t.slot j = s.slot j) ∧ t.mem.bytes = m.bytes ∧
          OnlyChanges [.slots, .mem, .recorder] s t))) ∧
    (m.repair = none → s.pendingRepair = none → exec .rowRepairStart s = .next s) ∧
    (∀ k e i : Nat, m.repair = none → s.pendingRepair = some (k, e) → s.freeSpare k = some i → ∃ t r, exec .rowRepairStart s = .next t ∧
      t.mem.repair = some r ∧ r.stack = k ∧ r.row = (s.logEntry k e).row ∧ r.spare = i ∧ t.mem.repairResult = 1 ∧ memOnly t) ∧
    (∀ r : Repair, m.repair = some r → (s.stack r.stack).throt = 3 → exec .rowRepairDone s = .next s) ∧
    (∀ r : Repair, m.repair = some r → (s.stack r.stack).throt ≠ 3 → m.err1 = [] → ∃ t, exec .rowRepairDone s = .next t ∧
      t.mem.repair = none ∧ Tbl.get none t.mem.remap (256 * r.stack + r.spare) = some r.row ∧
      (t.stack r.stack).kept = (s.stack r.stack).kept + 1 ∧
      t.mem.repairResult = (if s.keepLimited (keepRowmap r.stack r.spare) then 6 else 2) ∧
      (s.keepLimited (keepRowmap r.stack r.spare) = false → t.keep (keepRowmap r.stack r.spare) = BitVec.ofNat 64 (r.row.toNat + 2 ^ 32)) ∧
      t.mem.bytes = m.bytes ∧ OnlyChanges [.mem, .host, .recorder] s t) ∧
    (s.hostUp 0 = true → s.keepLimited keepT2Code = false → ∀ c : BitVec 2, ∃ t, exec (.keepT2CodeWrite 0 c) s = .next t ∧
      t.keep keepT2Code = c.zeroExtend 64 ∧ (∀ o ≠ keepT2Code, t.keep o = s.keep o) ∧ OnlyChanges [.host] s t)

/-- R278, R290, R293, R307, R507, R543, R544: the memory window. A write inside one codeword of tier 1 stores its bytes and no other; a read
returns them, or 0xFF where the codeword is poisoned; before the fill a read returns zeros and is recorded as early; an access to a stack at
level 3 waits; the aperture reaches the scratchpad of a core that does not run; what is not mapped is denied. -/
def Obligations.MemoryWindow : Prop :=
  ∀ (s : State) (a : BitVec 64), s.hostUp 0 = true →
    let n := a.toNat
    let w := n / 64
    let clean := Tbl.get false s.mem.poison w = false ∧ Tbl.get [] s.mem.err1 w = []
    let goes := fun k : Nat => s.blocked n k = false ∧ s.mem.waiting = []
    (∀ bs : List Byte, bs ≠ [] → n % 64 + bs.length ≤ 64 → n < t1End → goes bs.length → s.mem.t1Filled = true → s.mem.injArm = false →
      (bs.length = 64 ∨ clean) → ∃ t, exec (.mwWrite 0 a bs) s = .next t ∧ t.mem.read n bs.length = bs ∧
        (∀ q, q < n ∨ n + bs.length ≤ q → t.mem.byte q = s.mem.byte q) ∧ Tbl.get false t.mem.poison w = false ∧
        (t.chan (s.channelAt n)).wr = (s.chan (s.channelAt n)).wr + 1#32 ∧ OnlyChanges [.mem, .slots] s t) ∧
    (n % 64 = 0 → n < t1End → goes 64 → s.mem.t1Filled = true → Tbl.get [] s.mem.err1 w = [] →
      (Tbl.get false s.mem.poison w = false → ∃ t, exec (.mwRead 0 a 64#13) s = .next t ∧
        t.out = .hostRead 0 (s.mem.read n 64) false :: s.out ∧ t.mem.bytes = s.mem.bytes ∧
        (t.chan (s.channelAt n)).rd = (s.chan (s.channelAt n)).rd + 1#32 ∧ OnlyChanges [.mem, .out] s t) ∧
      (Tbl.get false s.mem.poison w = true → ∃ t, exec (.mwRead 0 a 64#13) s = .next t ∧
        t.out = .hostRead 0 (List.replicate 64 0xFF#8) true :: s.out ∧ t.mem.bytes = s.mem.bytes)) ∧
    (n % 64 = 0 → n < t1End → goes 64 → s.mem.t1Filled = false →
      (∃ t, exec (.mwRead 0 a 64#13) s = .next t ∧ t.out = .hostRead 0 (List.replicate 64 0#8) false :: s.out ∧
        t.mem = { s.mem with earlyAccess := true } ∧ OnlyChanges [.mem, .out] s t) ∧
      ∀ b : Byte, goes 1 → ∃ t, exec (.mwWrite 0 a [b]) s = .next t ∧ t.mem = { s.mem with earlyAccess := true } ∧ OnlyChanges [.mem] s t) ∧
    (n % 64 = 0 → n < t1End → s.blocked n 64 = true →
      (∃ t, exec (.mwRead 0 a 64#13) s = .next t ∧ OnlyChanges [.mem] s t ∧
        t.mem = { s.mem with waiting := s.mem.waiting ++ [{ fn := 0, addr := n, len := 64, bytes := none }] }) ∧
      ∀ bs : List Byte, bs.length = 64 → ∃ t, exec (.mwWrite 0 a bs) s = .next t ∧ OnlyChanges [.mem] s t ∧
        t.mem = { s.mem with waiting := s.mem.waiting ++ [{ fn := 0, addr := n, len := 64, bytes := some bs }] }) ∧
    (∀ (bs : List Byte) (q : Nat), bs ≠ [] → apBase ≤ n → n + bs.length ≤ apEnd → (n - apBase) % 0x80000 + bs.length ≤ 0x80000 →
      s.phys (apCore n).1 (apCore n).2 = some q →
      (s.coreRuns q = false → ∃ t, exec (.mwWrite 0 a bs) s = .next t ∧ Mem.read (t.core q).sp ((n - apBase) % 0x80000) bs.length = bs ∧
        (∀ x, x < (n - apBase) % 0x80000 ∨ (n - apBase) % 0x80000 + bs.length ≤ x → Mem.read8 (t.core q).sp x = Mem.read8 (s.core q).sp x) ∧
        (∀ j ≠ q, t.core j = s.core j) ∧ OnlyChanges [.cores] s t) ∧
      (s.coreRuns q = true → ∃ t, exec (.mwWrite 0 a bs) s = .next t ∧ OnlyChanges [.recorder] s t) ∧
      ∃ t, exec (.mwRead 0 a (BitVec.ofNat 13 bs.length)) s = .next t ∧ (bs.length < 8192 →
        t.out = .hostRead 0 (Mem.read (s.core q).sp ((n - apBase) % 0x80000) bs.length) false :: s.out ∧ OnlyChanges [.out] s t)) ∧
    (apEnd ≤ n →
      (∃ t, exec (.mwRead 0 a 8#13) s = .next t ∧ t.out = .hostRead 0 (List.replicate 8 0#8) false :: s.out ∧
        t.host.denyMw = min 0xFFFF (s.host.denyMw + 1) ∧ OnlyChanges [.host, .recorder, .out] s t) ∧
      ∀ b : Byte, ∃ t, exec (.mwWrite 0 a [b]) s = .next t ∧ t.host.denyMw = min 0xFFFF (s.host.denyMw + 1) ∧
        OnlyChanges [.host, .recorder] s t)

/-! The recorder and the host interface (chapters 19 and 20). -/

/-- R525 to R527, R531: a submission merges where R526 says so, is suppressed beyond the flood limit, or becomes the last record of the
ring with the next SEQ; a full queue loses it; the end of a second closes the flood counts; a clear needs its key and the SEQ it saw. -/
def Obligations.RecorderCommands : Prop :=
  ∀ s : State, s.svc ≠ .off →
    let r := s.recorder
    (∀ (type : BitVec 10) (key : BitVec 64) (vals : List (BitVec 64)), submitted type.toNat = true → vals.length = valueCount type.toNat →
      let ty := type.toNat
      let c := Sys2Proof.Instr.recordSubmit type key vals false
      let floods := floodExempt ty = false ∧ r.flood ≠ 0#16 ∧ r.flood.toNat ≤ Tbl.get 0 r.counts ty
      (r.lostPending = 0 →
        (∀ x, r.mergeTarget ty key = some x → ∃ t, exec c s = .next t ∧
          t.recorder.ring = (r.ring.map fun z =>
            if z.seq = x.seq then { x with rep := x.rep + 1, lastd := min 0xFFFF (r.opsec - x.opsec).toNat } else z) ∧
          t.recorder.nextSeq = r.nextSeq ∧ t.recorder.mod = r.mod + 1#16 ∧ OnlyChanges [.recorder] s t) ∧
        (r.mergeTarget ty key = none → floods → ∃ t, exec c s = .next t ∧ t.recorder.ring = r.ring ∧ t.recorder.nextSeq = r.nextSeq ∧
          Tbl.get 0 t.recorder.suppressed ty = Tbl.get 0 r.suppressed ty + 1 ∧ OnlyChanges [.recorder] s t) ∧
        (r.mergeTarget ty key = none → ¬ floods → ∃ t, exec c s = .next t ∧ NewRecord r ty key vals t ∧ t.recorder.mod = r.mod ∧
          Tbl.get 0 t.recorder.counts ty = Tbl.get 0 r.counts ty + 1 ∧ OnlyChanges [.recorder] s t)) ∧
      (r.lostPending ≠ 0 → ∃ t, exec c s = .next t ∧ t.recorder.lostPending = 0 ∧ OnlyChanges [.recorder] s t ∧
        (r.windowS = 0#16 → r.flood = 0#16 → t.recorder.nextSeq = r.nextSeq + 2#32)) ∧
      ∃ t, exec (.recordSubmit type key vals true) s = .next t ∧ t.recorder.ring = r.ring ∧ t.recorder.nextSeq = r.nextSeq ∧
        t.recorder.lost = min 0xFFFF (r.lost + 1) ∧ t.recorder.lostPending = r.lostPending + 1 ∧ OnlyChanges [.recorder] s t) ∧
    (r.opMs / 1000 ≤ r.second → exec .floodSecondEnd s = .next s) ∧
    (r.second < r.opMs / 1000 → ∃ t, exec .floodSecondEnd s = .next t ∧ t.recorder.suppressed = [] ∧ t.recorder.second = r.opMs / 1000 ∧ OnlyChanges [.recorder] s t ∧
      (∀ ty, ty ≠ 3 → ty ≠ 4 → Tbl.get 0 t.recorder.counts ty = 0) ∧
      (r.suppressed = [] → t.recorder.ring = r.ring) ∧
      (r.suppressed ≠ [] → t.recorder.floods = min 0xFFFF (r.floods + r.suppressed.length)) ∧
      ∀ ty n, r.suppressed = [(ty, n)] → ty < 1024 → r.lostPending = 0 → r.windowS = 0#16 →
        NewRecord r 4 (BitVec.ofNat 64 ty) [BitVec.ofNat 64 n] t) ∧
    (r.tickAt + 1000000 ≤ s.lt → ∃ t, exec .opsecTick s = .next t ∧ t.recorder = { r with opMs := r.opMs + 1, tickAt := s.lt } ∧
      OnlyChanges [.recorder] s t) ∧ (s.lt < r.tickAt + 1000000 → exec .opsecTick s = .next s) ∧
    (∀ (key : BitVec 16) (seq : BitVec 32),
      let kept := fun (t : State) (k : BitVec 2) => t.recorder = { r with clrResult := k }
      let cleared := fun (t : State) (src : Nat) => t.recorder.clrResult = 1#2 ∧ t.recorder.collapse = [r.nextSeq] ∧
        t.recorder.ring.length = 1 ∧ ∃ first last,
          NewRecord r 2 (BitVec.ofNat 64 src) [first, last, BitVec.ofNat 64 r.ring.length] t ∧
          (r.ring ≠ [] → first = r.tailSeq.zeroExtend 64 ∧ last = (r.nextSeq - 1#32).zeroExtend 64)
      (s.hostUp 0 = true → ∃ t, exec (.recClear (.host 0) key seq) s = .next t ∧ OnlyChanges [.recorder] s t ∧
        (key ≠ 0xC1EA#16 → kept t 2#2) ∧ (key = 0xC1EA#16 → seq ≠ r.nextSeq → kept t 3#2) ∧
        (key = 0xC1EA#16 → seq = r.nextSeq → cleared t 0)) ∧
      ∀ q : BitVec 16, Served s 0x0A q.toNat → ∃ t, exec (.recClear (.rack q) key seq) s = .next t ∧ OnlyChanges [.recorder, .tray, .out] s t ∧
        (key ≠ 0xC1EA#16 → kept t 2#2 ∧ Answered t 0x0A q.toNat 3 1 []) ∧
        (key = 0xC1EA#16 → seq ≠ r.nextSeq → kept t 3#2 ∧ Answered t 0x0A q.toNat 3 2 []) ∧
        (key = 0xC1EA#16 → seq = r.nextSeq → cleared t 1 ∧ Answered t 0x0A q.toNat 0 0 []))

/-- R534, R536, R598: a function level reset of a function with no context returns its interrupt block and its MSI-X table to reset, and
tears its RUNNING contexts down; PERST and D3hot cut a function off from its windows until they end; no configuration access arrives while
the link is down. -/
def Obligations.PortAndFunctions : Prop :=
  ∀ s : State,
    (∀ fn : Fin 64, s.linkUp = false → exec (.functionLevelReset fn) s = .next s ∧ ∀ on, exec (.d3hot fn on) s = .next s) ∧
    (∀ fn : Fin 64, s.linkUp = true →
      let quiet := ∀ n, (fn = 0 ∨ (s.slot n).owner.toNat = fn) → (s.slot n).tearable = false
      (fn ≠ 0 → quiet → ∃ t, exec (.functionLevelReset fn) s = .next t ∧ t.host.int fn = IntBlock.reset ∧
        (∀ f : Nat, f ≠ fn → t.host.int f = s.host.int f) ∧ (∀ v < 16, t.host.vecMasked fn v = true) ∧ OnlyChanges [.host] s t) ∧
      (fn = 0 → quiet → ∃ t, exec (.functionLevelReset fn) s = .next t ∧ (∀ f, t.host.int f = IntBlock.reset) ∧
        (∀ f v, t.host.vecMasked f v = true) ∧ OnlyChanges [.host] s t) ∧
      (s.svc ≠ .benched → (∀ n, (s.slot n).state ≠ .suspect) → ∃ t, exec (.functionLevelReset fn) s = .next t ∧
        ∀ n, (s.slot n).state = .running → (fn = 0 ∨ (s.slot n).owner.toNat = fn) → (t.slot n).state = .torn ∧ (t.slot n).result = .busy) ∧
      (∃ t, exec (.d3hot fn true) s = .next t ∧ t.hostUp fn = false ∧ (∀ f : Nat, f ≠ fn → t.hostUp f = s.hostUp f) ∧ OnlyChanges [.host] s t) ∧
      (∃ t, exec (.d3hot fn false) s = .next t ∧ t.hostUp fn = true ∧ (∀ f : Nat, f ≠ fn → t.hostUp f = s.hostUp f) ∧ OnlyChanges [.host] s t)) ∧
    (∃ t, exec .perstAssert s = .next t ∧ (∀ f, t.hostUp f = false) ∧ t.host.ints = s.host.ints ∧ t.host.keep = s.host.keep ∧
      OnlyChanges [.host] s t) ∧
    (∃ t, exec .perstRelease s = .next t ∧ t.host = { s.host with perst := false } ∧ OnlyChanges [.host] s t) ∧
    ∀ fn block : Fin 64, ∀ m : BitVec 8, s.hostUp fn = true →
      let old := s.host.int block
      ((fn = 0 ∨ fn = block) → ∃ t, exec (.intMaskWrite fn block m) s = .next t ∧ t.host.int block = { old with mask := m } ∧
        (∀ f : Nat, f ≠ block → t.host.int f = s.host.int f) ∧ OnlyChanges [.host, .out] s t ∧
        (old.mask &&& ~~~m &&& old.cause = 0#8 → t.out = s.out) ∧
        ∀ k < 8, old.mask &&& ~~~m &&& old.cause = BitVec.ofNat 8 (2 ^ k) → old.vector k < vectorsOf block →
          s.host.vecMasked block (old.vector k) = false → t.out = .msix block (old.vector k) :: s.out) ∧
      (fn ≠ 0 → fn ≠ block → ∃ t, exec (.intMaskWrite fn block m) s = .next t ∧ Denied s t fn 0 (0x10008 + 0x400 * block.val))

/-- R537, R539, R541, R546: a misaligned or badly sized access is counted and has no other effect; a whole or half write of GLB_SCRATCH stores what
it covers; a doorbell is the context command of its slot; a read gives
the register's word, and zeros to a function that may not read it; a write of KEEP_RETIRE is kept until its limit and never clears a failed core. -/
def Obligations.HostRegisterWrites : Prop :=
  ∀ (s : State) (v : BitVec 64),
    (∀ (fn : Fin 64) (dw : Bool) (off : BitVec 26) (len : BitVec 13), s.hostUp fn = false → exec (.registerWrite fn dw off len (some v)) s = .next s) ∧
    (∀ (fn : Fin 64) (off : BitVec 26) (len : BitVec 13), s.hostUp fn = true →
      ¬ ((len = 8#13 ∧ off.toNat % 8 = 0) ∨ (len = 4#13 ∧ off.toNat % 4 = 0)) →
      exec (.registerWrite fn false off len (some v)) s = .next { s with host := { s.host with badAcc := s.host.badAcc + 1#32 } }) ∧
    (s.hostUp 0 = true →
      let old := s.host.scratch
      let put := fun x : BitVec 64 => (.next { s with host := { s.host with scratch := x } } : Host.Outcome State Fault Refusal)
      exec (.registerWrite 0 false 0x28#26 8#13 (some v)) s = put v ∧
      exec (.registerWrite 0 false 0x28#26 4#13 (some v)) s = put (old.extractLsb' 32 32 ++ v.extractLsb' 0 32) ∧
      exec (.registerWrite 0 false 0x2C#26 4#13 (some v)) s = put (v.extractLsb' 0 32 ++ old.extractLsb' 0 32)) ∧
    (∀ (fn : Fin 64) (n : Fin 1024), s.hostUp fn = true →
      let door := fun (x : BitVec 64) => exec (.registerWrite fn true (BitVec.ofNat 26 (8 * n.val)) 8#13 (some x)) s
      let mine := fn = 0 ∨ (s.slot n).owner.toNat = fn
      (16 ≤ v.toNat → door v = .next { s with host := { s.host with badAcc := s.host.badAcc + 1#32 } }) ∧
      (mine → door 1#64 = exec (.load fn n) s ∧ door 2#64 = exec (.start fn n) s ∧ door 5#64 = exec (.ctxAbort fn n) s ∧
        door 6#64 = exec (.teardown fn n) s) ∧
      (¬ mine → v.toNat < 16 → ∃ t, door v = .next t ∧ Denied s t fn 1 (8 * n.val)) ∧
      (∃ t, exec (.registerWrite fn false (BitVec.ofNat 26 (0x10000 + 0x400 * fn.val)) 8#13 (some v)) s = .next t ∧
        t.host.int fn = { s.host.int fn with cause := (s.host.int fn).cause &&& ~~~ v.extractLsb' 0 8 } ∧
        (∀ f : Nat, f ≠ fn → t.host.int f = s.host.int f) ∧ OnlyChanges [.host] s t)) ∧
    (∀ (fn : Fin 64) (off : BitVec 26), s.hostUp fn = true → off.toNat % 8 = 0 →
      let c := Sys2Proof.Instr.registerWrite fn false off 8#13 none
      let b := off.toNat
      let u := { s with free := s.free + 1 }
      (fn = 0 → b ≠ 0x82048 → ∃ t, exec c s = .next t ∧ t.out = .hostRead 0 (toLE 8 (u.cwWord b)) false :: s.out ∧ OnlyChanges [.free, .out] s t) ∧
      (b = 0 → u.cwWord b = 0x1F3C + 0xD200 * 2 ^ 16 + 0xB1 * 2 ^ 32 + 2 ^ 40) ∧ (b = 0x28 → u.cwWord b = s.host.scratch.toNat) ∧
      (b = 0x1010 → u.cwWord b = s.rt.offset.toNat) ∧
      (fn ≠ 0 → cwAssigned b = true → s.vfReads fn b = false → ∃ t, exec c s = .next t ∧
        t.out = .hostRead fn (List.replicate 8 0#8) false :: s.out ∧ t.host.denyCw = min 0xFFFF (s.host.denyCw + 1) ∧
        OnlyChanges [.free, .out, .host, .recorder] s t)) ∧
    (s.hostUp 0 = true → ∀ row : Fin 48,
      let b := keepRetire row
      let w := v.extractLsb' 0 36 ||| s.failedBits row
      let c := Sys2Proof.Instr.keepWrite 0 (BitVec.ofNat 16 (0x800 + 8 * row.val)) 8#13 v
      (s.keepLimited b = false → ∃ t, exec c s = .next t ∧ t.keep b = w.zeroExtend 64 ∧
        Tbl.get 0 t.host.keepCount b = Tbl.get 0 s.host.keepCount b + 1 ∧ (∀ o ≠ b, t.keep o = s.keep o) ∧ OnlyChanges [.host] s t) ∧
      (s.keepLimited b = true → ∃ t, exec c s = .next t ∧ OnlyChanges [.recorder] s t)) ∧
    (s.hostUp 0 = true → s.keepLimited keepBench = false → ∃ t, exec (.keepWrite 0 0xC00#16 8#13 v) s = .next t ∧
      (t.keep keepBench).extractLsb' 0 4 = (if v.extractLsb' 0 4 = 0#4 then 1#4 else if v.extractLsb' 0 4 > 8#4 then 8#4 else v.extractLsb' 0 4) ∧
      (t.keep keepBench).extractLsb' 16 2 = (s.keep keepBench).extractLsb' 16 2 ∧ OnlyChanges [.host] s t)

/-- R345, R405, R414, R531, R586: a write of a virtual function to a register of the physical function changes nothing but the denial count,
GLB_DENY_LAST and the recorder. -/
def Obligations.GatedWritesAreDenied : Prop :=
  ∀ (s : State) (fn : Fin 64), fn ≠ 0 → s.hostUp fn = true →
    let denied := fun (c : Sys2Proof.Instr) (off : Nat) => ∃ t, exec c s = .next t ∧ Denied s t fn 0 off
    (∀ key seq, denied (.recClear (.host fn) key seq) 0xD0028) ∧ (∀ w, denied (.ceiling (.host fn) w) 0x82000) ∧
    denied (.drain fn) 0x208 ∧ denied (.undrain fn) 0x208 ∧ (∀ e, denied (.svcJoin fn e) 0x210) ∧
    (∀ n v, denied (.memSaltRot fn n v) 0x70018) ∧ (∀ v, denied (.memRepairReq fn v) 0x74018) ∧ (∀ v, denied (.memInject fn v) 0x74028) ∧
    (∀ c, denied (.keepT2CodeWrite fn c) 0xC0A00) ∧ (∀ (r : Fin 48) v, denied (.keepRetireWrite fn r v) (0xC0800 + 8 * r.val)) ∧
    (∀ w, denied (.feedCoefWr fn w) 0x86018) ∧ (∀ v, denied (.registerWrite fn false 0x28#26 8#13 (some v)) 0x28) ∧
    (∀ (tag : BitVec 16) (arg : BitVec 64), denied (.status { rack := false, func := fn, seq := 0#16, tag } arg) 0x80020 ∧
      denied (.prove { rack := false, func := fn, seq := 0#16, tag } arg) 0x80020 ∧ denied (.regCal { rack := false, func := fn, seq := 0#16, tag } arg) 0x80020) ∧
    ∀ n : Fin 1024, (s.slot n).owner.toNat ≠ fn → denied (.load fn n) (0x20040 + 128 * n.val) ∧
      denied (.start fn n) (0x20040 + 128 * n.val) ∧ denied (.park fn n) (0x20040 + 128 * n.val) ∧
      denied (.ctxAbort fn n) (0x20040 + 128 * n.val) ∧ denied (.teardown fn n) (0x20040 + 128 * n.val)

/-! The tray serial link (chapter 21). -/

/-- R566 to R573: a new request of the rack that is next to be acted on is answered once, as its row says, and does what its row says; one whose
payload is too short is BADARG (log entry 96). A repeat gets the stored response; one behind another waits; with no PTC ACTIVE none is
acted on (log entry 152). -/
def Obligations.TrayRequests : Prop :=
  ∀ (s : State) (seq : BitVec 16), s.svc ≠ .off →
    let q := seq.toNat
    let only := fun (t : State) => OnlyChanges [.tray, .out] s t
    let answers := fun (c : Sys2Proof.Instr) (ty status reason : Nat) (pay : List Byte) =>
      ∃ t, exec c s = .next t ∧ Answered t ty q status reason pay ∧ only t ∧ t.tray.rtDelay = s.tray.rtDelay
    (Served s 1 q → ∃ t, exec (.tslStatus seq) s = .next t ∧ Answered t 1 q 0 0 s.statusPayload ∧ t.tray.lostSince = false ∧ only t) ∧
    s.statusPayload.length = 24 ∧ s.statusPayload.take 2 = [BitVec.ofNat 8 s.svc.code, s.degrade.zeroExtend 8] ∧
    (s.statusPayload.drop 16).take 4 = toLE 4 s.recorder.nextSeq.toNat ∧
    (Served s 0x0B q → answers (.keepalive seq) 0x0B 0 0 []) ∧
    (s.ptc.hasActive = false → ∀ p, ∀ c ∈ [Sys2Proof.Instr.tslStatus seq, .keepalive seq, .ident seq p, .membRead seq p, .jobAbort seq p,
      .recRead seq p, .traj seq p], exec c s = .next s) ∧
    (∀ r, s.ptc.hasActive = true → (s.tray.stored.find? fun r => decide (r.type = 0x0B) && decide (r.seq = q)) = some r →
      exec (.keepalive seq) s = .next { s with out := .tray (tslFrame 0x0B 1 q r.status r.reason r.payload) :: s.out }) ∧
    (∀ x l, s.ptc.hasActive = true → (∀ r ∈ s.tray.stored, ¬(r.type = 0x0B ∧ r.seq = q)) → s.tray.queue = x :: l →
      (∀ y ∈ s.tray.queue, ¬(y.1 = 0x0B ∧ y.2.1 = q)) →
      (l.length < 3 → exec (.keepalive seq) s = .next { s with tray := { s.tray with link := true, heardAt := s.lt, queue := s.tray.queue ++ [(0x0B, q, [])] } }) ∧
      (3 ≤ l.length → answers (.keepalive seq) 0x0B 4 0 [])) ∧
    (∀ p : List Byte, (Served s 2 q → p.length < 8 → answers (.ident seq p) 2 5 0 []) ∧ (Served s 7 q → p.length < 4 → answers (.membRead seq p) 7 5 0 []) ∧
      (Served s 8 q → p.length < 2 → answers (.jobAbort seq p) 8 5 0 []) ∧ (Served s 9 q → p.length < 6 → answers (.recRead seq p) 9 5 0 [])) ∧
    (Served s 2 q → ∀ (chip fl ph : BitVec 8) (off rd : BitVec 16),
      let p := [chip, fl] ++ toLE 2 off.toNat ++ [ph, 0#8] ++ toLE 2 rd.toNat
      let c := Sys2Proof.Instr.ident seq p
      let fits := rd.toNat ≤ 2000 ∧ ph.toNat ≤ 7
      (¬ fits → answers c 2 5 0 []) ∧
      (fits → fl.getLsbD 0 = true → s.fab.chipValid = true → chip ≠ s.fab.chipId → (∃ n, (s.slot n).state ≠ .free) → answers c 2 6 0 []) ∧
      (fits → fl.getLsbD 0 = true → s.fab.chipValid = false → chip ≠ 0#8 → (∃ n, (s.slot n).state ≠ .free ∧ (s.slot n).noChip = true) →
        answers c 2 6 0 []) ∧
      (fits → fl.getLsbD 0 = false → ∃ t, exec c s = .next t ∧ Answered t 2 q 0 0 [] ∧ t.fab = s.fab ∧
        t.rt.offset.toNat = (if fl.getLsbD 1 then min off.toNat 2000 else s.rt.offset.toNat) ∧ t.rt.now = s.rt.now ∧
        t.feed.slotPh = (if fl.getLsbD 2 then ph.toNat else s.feed.slotPh) ∧
        t.tray.rtDelay = (if fl.getLsbD 3 then rd.toNat else s.tray.rtDelay) ∧ OnlyChanges [.tray, .out, .rt, .feed, .recorder] s t) ∧
      (fits → fl = 1#8 → s.slots = [] → ∃ t, exec c s = .next t ∧ Answered t 2 q 0 0 [] ∧ t.fab.chipId = chip ∧ t.fab.chipValid = true ∧
        t.up.identDone = true ∧ (∀ k, (s.port k).state ≠ .training → t.port k = s.port k) ∧ OnlyChanges ([.fab, .up] ++ reporting) s t)) ∧
    (Served s 7 q → ∀ n first : BitVec 16,
      let c := Sys2Proof.Instr.membRead seq (toLE 2 n.toNat ++ toLE 2 first.toNat)
      let x := s.slot n.toNat
      (1023 < n.toNat → answers c 7 5 0 []) ∧
      (n.toNat ≤ 1023 → x.state = .free → answers c 7 6 0 []) ∧
      (n.toNat ≤ 1023 → x.state ≠ .free → ∃ pay, answers c 7 0 0 pay ∧ pay.take 2 = [BitVec.ofNat 8 x.state.code, x.gen] ∧
        (pay.drop 2).take 4 = toLE 2 x.job.toNat ++ toLE 2 x.members.length ∧
        pay.length = 18 + 8 * min 32 (x.members.length - first.toNat))) ∧
    (Served s 8 q → ∀ job : BitVec 16,
      let c := Sys2Proof.Instr.jobAbort seq (toLE 2 job.toNat)
      let mine := fun n => (s.slot n).job = job ∧
        ((s.slot n).state = .loaded ∨ (s.slot n).state = .running ∨ (s.slot n).state = .parked)
      ((∀ n, ¬ mine n) → answers c 8 6 0 []) ∧
      ∀ n, mine n → (∀ m, mine m → m = n) → ∃ t, exec c s = .next t ∧ Answered t 8 q 0 0 [] ∧ (t.slot n).state = .aborted ∧
        (t.slot n).cause = 0x09#8 ∧ (∀ m ≠ n, t.slot m = s.slot m) ∧ OnlyChanges endingContext s t) ∧
    (Served s 9 q → ∀ (seg : BitVec 8) (a n : BitVec 16),
      let c := Sys2Proof.Instr.recRead seq ([seg, 0#8] ++ toLE 2 a.toNat ++ toLE 2 n.toNat)
      let fits := seg.toNat ≤ 127 ∧ a.toNat % 8 = 0 ∧ n.toNat % 8 = 0 ∧ 8 ≤ n.toNat ∧ n.toNat ≤ 256 ∧ a.toNat + n.toNat ≤ 0x8000
      let r := s.recorder
      (¬ fits → answers c 9 5 0 []) ∧
      (fits → ∃ pay, answers c 9 0 0 pay ∧ pay.length = 16 + n.toNat ∧
        pay.take 16 = toLE 8 (r.head + 2 ^ 32 * r.nextSeq.toNat) ++ toLE 8 (r.tail + 2 ^ 32 * r.tailSeq.toNat) ∧
        (pay.drop 16).take 8 = toLE 8 (r.wordAt (0x8000 * seg.toNat + a.toNat)).toNat)) ∧
    (Served s 3 q → ∀ (id : BitVec 16) (n : BitVec 8) (body : List Byte),
      let c := Sys2Proof.Instr.traj seq (toLE 2 id.toNat ++ [n, 0#8] ++ body)
      (n.toNat = 0 ∨ 32 < n.toNat ∨ body.length ≠ 12 * n.toNat → answers c 3 5 0 []) ∧
      ∀ (rt : BitVec 64) (w : BitVec 16), n = 1#8 → body = toLE 8 rt.toNat ++ toLE 2 w.toNat ++ [0#8, 0#8] →
        let tr : Traj := { id := id.toNat, points := [{ rt := rt.toNat, w := max 600 (min 2900 w.toNat) }] }
        (s.rt.now ≤ rt → ∃ t, exec c s = .next t ∧ Answered t 3 q 0 0 [] ∧ t.draw = { s.draw with pend := some tr } ∧
          t.ptc = { s.ptc with trajs := tr :: s.ptc.trajs } ∧ OnlyChanges [.draw, .ptc, .tray, .out] s t) ∧
        (rt < s.rt.now → ∃ t, exec c s = .next t ∧ Answered t 3 q 3 2 [] ∧ t.draw = { s.draw with refused := min 0xFFFF (s.draw.refused + 1) } ∧
          OnlyChanges [.draw, .tray, .out] s t)) ∧
    (Served s 4 q → ∀ w : BitVec 16,
      (w.toNat < 600 ∨ 2900 < w.toNat → answers (.ceiling (.rack seq) w) 4 5 0 []) ∧
      (600 ≤ w.toNat → w.toNat ≤ 2900 → ∃ t, exec (.ceiling (.rack seq) w) s = .next t ∧ Answered t 4 q 0 0 [] ∧
        t.draw = { s.draw with ceiling := w.toNat } ∧ OnlyChanges [.draw, .recorder, .tray, .out] s t))

/-- R567, R568, R571, R572: a damaged frame is counted; a repeat receives the stored response and is not acted on; an unknown request is
BADARG; a fifth request is BUSY; any other waits its turn. Telemetry leaves only while a PTC is ACTIVE, and a link that has been silent for
10 ms is lost and ends the trajectories. -/
def Obligations.TrayFrames : Prop :=
  ∀ s : State, s.svc ≠ .off →
    (∀ bs : List Byte, tslParse bs = none → ∃ t, exec (.tslFrameReceive bs) s = .next t ∧
      t.tray = { s.tray with badFrames := min 0xFFFF (s.tray.badFrames + 1) } ∧ OnlyChanges [.tray] s t) ∧
    (∀ (body : List Byte) (crc : BitVec 32), crc ≠ crc32c body → tslParse (body ++ toLE 4 crc.toNat) = none) ∧
    (∀ (type : BitVec 8) (seq : BitVec 16) (p : List Byte), p.length ≤ 512 →
      let ty := type.toNat
      let q := seq.toNat
      let op := payNat p 0 1
      let c := Sys2Proof.Instr.tslFrameReceive (tslFrame ty 0 q 0 0 p)
      let new := ∀ r ∈ s.tray.stored, ¬ (r.type = ty ∧ r.seq = q)
      let idle := ∀ x ∈ s.tray.queue, ¬ (x.1 = ty ∧ x.2.1 = q)
      let heard := { s.tray with link := true, heardAt := s.lt }
      (¬ new → ∃ t, exec c s = .next t ∧ t.tray = heard ∧ OnlyChanges [.tray, .out] s t ∧
        (s.ptc.hasActive = true → ∃ r ∈ s.tray.stored, r.type = ty ∧ r.seq = q ∧
          t.out = .tray (tslFrame ty 1 q r.status r.reason r.payload) :: s.out)) ∧
      (new → ¬ idle → ∃ t, exec c s = .next t ∧ t.tray = heard ∧ OnlyChanges [.tray] s t) ∧
      (new → idle →
        let known := 1 ≤ ty ∧ ty ≤ 0x0B ∧ (ty = 6 → 3 ≤ op ∧ op ≤ 5)
        (¬ known → ∃ t, exec c s = .next t ∧ Answered t ty q 5 0 [] ∧ t.tray.queue = s.tray.queue ∧ OnlyChanges [.tray, .out] s t) ∧
        (known → 4 ≤ s.tray.queue.length → ∃ t, exec c s = .next t ∧ Answered t ty q 4 0 [] ∧ t.tray.queue = s.tray.queue ∧
          OnlyChanges [.tray, .out] s t) ∧
        (known → s.tray.queue.length < 4 → (ty = 5 → op ∈ ptcOps) → ∃ t, exec c s = .next t ∧
          t.tray = { heard with queue := s.tray.queue ++ [(ty, q, p)] } ∧ OnlyChanges [.tray] s t) ∧
        (s.tray.queue.length < 4 → ty = 5 → op ∉ ptcOps → s.svc ≠ .init → s.svc ≠ .saving → s.ptc.switching = false → s.ptc.running = none →
          s.ptc.repeated { rack := true, func := 0, seq, tag := BitVec.ofNat 16 (payNat p 2 2) } = none → ∃ t, exec c s = .next t ∧
          t.ptc.result.status = .badarg ∧ t.ptc.result.op = op ∧ t.ptc.result.rack = true ∧ t.tray.queue = s.tray.queue ∧
          OnlyChanges (.ptc :: reporting) s t))) ∧
    (s.ptc.hasActive = false → exec .telem s = .next s) ∧
    (s.ptc.hasActive = true → ∃ t pay, exec .telem s = .next t ∧ t.out = .tray (tslFrame 0x40 2 s.tray.ownSeq 0 0 pay) :: s.out ∧ pay.length = 72 ∧
      t.tray = { s.tray with ownSeq := (s.tray.ownSeq + 1) % 65536 } ∧ OnlyChanges [.tray, .out] s t) ∧
    (let silent := s.tray.link = true ∧ s.tray.heardAt + 10000000 ≤ s.lt
     (¬ silent → exec .tslLinkLost s = .next s) ∧
     (silent → ∃ t, exec .tslLinkLost s = .next t ∧ t.draw = { s.draw with traj := none, pend := none } ∧
       t.tray = { s.tray with link := false, linkLosses := min 0xFFFF (s.tray.linkLosses + 1), lostSince := true } ∧
       OnlyChanges [.tray, .draw] s t))

/-! PMBus, I3C and the test access port (chapters 21 and 23). -/

/-- R574: the read commands and what each returns; a write of a read-only command and an unsupported one set the CML status; CLEAR_FAULTS
clears the status bytes; MFR_PEAK_RESET starts a new hold, and no read does. The layouts of the status bytes and of the block replies are
PMBus 1.4's (log entry 51). -/
def Obligations.PmbusCommands : Prop :=
  ∀ s : State, s.svc ≠ .off →
    let y := s.tray
    let a := s.draw.avgMs
    let pk := s.draw.rackPeaks
    let gives := fun (c : Sys2Proof.Instr) (bs : List Byte) => exec c s = .next { s with out := .pmbus bs :: s.out }
    let cml := fun (c : Sys2Proof.Instr) (b : Nat) => exec c s = .next { s with tray := { y with stCml := y.stCml ||| b } }
    gives (.operation false true) [0x80#8] ∧ (∀ b, cml (.operation true b) (if b then 0x80 else 0x20)) ∧
    gives .capability [0xC0#8] ∧ gives .pmbusRevision [0x44#8] ∧
    exec (.clearFaults true) s = .next { s with tray := { y with stInput := 0, stTemp := 0, stCml := 0 } } ∧ cml (.clearFaults false) 0x20 ∧
    (∃ b : BitVec 8, gives .statusByte [b] ∧ (∃ h : BitVec 8, gives .statusWord [b, h] ∧ (h.getLsbD 5 = true ↔ y.stInput ≠ 0)) ∧
      (b.getLsbD 3 = y.stInput.testBit 4) ∧ (b.getLsbD 2 = true ↔ y.stTemp ≠ 0) ∧ (b.getLsbD 1 = true ↔ y.stCml ≠ 0)) ∧
    gives .statusInput [BitVec.ofNat 8 y.stInput] ∧ gives .statusTemperature [BitVec.ofNat 8 y.stTemp] ∧ gives .statusCml [BitVec.ofNat 8 y.stCml] ∧
    (∃ acc roll cnt : List Byte, gives .readEin (6#8 :: (acc ++ roll ++ cnt)) ∧ leNat acc + 32768 * leNat roll = y.ein % 2 ^ 23 ∧
      leNat cnt = y.einN % 2 ^ 24 ∧ acc.length = 2 ∧ roll.length = 1 ∧ cnt.length = 3) ∧
    gives .readVin (linear11 a.v 1000) ∧ gives .readIin (linear11 a.i 100) ∧ gives .readPin (linear11 a.p 1) ∧ gives .readTemperature1 (linear11 a.t 1) ∧
    gives .mfrId (6#8 :: [0x4B#8, 0x65#8, 0x61#8, 0x76#8, 0x6F#8, 0x72#8]) ∧
    gives .mfrModel (9#8 :: [0x4B#8, 0x56#8, 0x2D#8, 0x44#8, 0x58#8, 0x4D#8, 0x32#8, 0x2D#8, 0x41#8]) ∧
    gives .mfrSerial (8#8 :: toLE 8 s.host.serial.toNat) ∧
    gives .mfrVinMin (linear11 44 1) ∧ gives .mfrVinMax (linear11 58 1) ∧ gives .mfrPinMax (linear11 2900 1) ∧
    gives .mfrPeakPin (linear11 pk.p 1) ∧ gives .mfrPeakIin (linear11 pk.i 100) ∧ gives .mfrMinVin (linear11 pk.v 1000) ∧ gives .mfrPeakTemp (linear11 pk.t 1) ∧
    exec (.mfrPeakReset true) s = .next { s with draw := { s.draw with rackPeaks := { p := 0, i := 0, v := 0xFFFF, t := 0 } } } ∧
    cml (.mfrPeakReset false) 0x20 ∧ cml (.pmbusUnsupported true) 0x80 ∧ cml (.pmbusUnsupported false) 0x20

/-- R575: SETDASA gives the target at 0x30 + SLOT_ID its address, RSTDAA takes it, ENEC and DISEC switch the interrupts, GETSTATUS and a
sensor read answer only at the address; a threshold raises one interrupt until the value has fallen 5 °C below it.

R605, R606: the test access port. IDCODE shifts out 0x1D200B5D, BYPASS one zero; SAMPLE/PRELOAD shows the contacts and loads the boundary
register; EXTEST, CLAMP and HIGHZ act only in BENCHED or in INIT before the bus converters start, and elsewhere select BYPASS with a record. -/
def Obligations.SensorBusAndTestPort : Prop :=
  (
  ∀ s : State, s.svc ≠ .off →
    let y := s.tray
    let put := fun (f : Tray) => (.next { s with tray := f } : Host.Outcome State Fault Refusal)
    (∀ st dyn : BitVec 7, exec (.setdasa st dyn) s =
      if st.toNat = 0x30 + y.slotId ∧ y.dynAddr = none then put { y with dynAddr := some dyn } else .next s) ∧
    exec .rstdaa s = put { y with dynAddr := none } ∧
    (∀ (addr : Option (BitVec 7)) (ev : BitVec 8),
      let hit := (addr = none ∨ addr = y.dynAddr) ∧ ev.getLsbD 0 = true
      exec (.enec addr ev) s = put (if hit then { y with ibi := true } else y) ∧
      exec (.disec addr ev) s = put (if hit then { y with ibi := false } else y)) ∧
    (∀ (addr : BitVec 7) (index : BitVec 8) (v : BitVec 16),
      (y.dynAddr ≠ some addr → exec (.getstatus addr) s = .next s ∧ exec (.sensorRead addr index v) s = .next s) ∧
      (y.dynAddr = some addr →
        (∃ t b0 b1, exec (.getstatus addr) s = .next t ∧ t.out = .i3c [b0, b1] :: s.out ∧ b1 &&& 0x3F#8 = 0#8 ∧ OnlyChanges [.free, .out] s t) ∧
        (index.toNat < 3 → ∃ t, exec (.sensorRead addr index v) s = .next t ∧ t.out = .i3c (toLE 2 v.toNat) :: s.out ∧
          t.sensor index.toNat = v.toInt ∧ OnlyChanges [.tray, .out] s t) ∧
        (index = 7#8 → exec (.sensorRead addr index v) s = .next { s with out := .i3c (toLE 2 s.cool.dp) :: s.out }) ∧
        (7 < index.toNat → exec (.sensorRead addr index v) s = .next { s with out := .i3c [0#8, 0#8] :: s.out }))) ∧
    ∀ k : Fin 4,
      let v := s.sensor (3 + k.val)
      let lim : Int := if k.val < 2 then 950 else 650
      let off := Tbl.get false y.armedOff (3 + k.val)
      let fires := lim ≤ v ∧ off = false ∧ y.ibi = true ∧ y.dynAddr.isSome = true
      (fires → ∃ t, exec (.sensorThresholdIbi k) s = .next t ∧ t.out = .i3c [BitVec.ofNat 8 (3 + k.val)] :: s.out ∧
        Tbl.get false t.tray.armedOff (3 + k.val) = true ∧ OnlyChanges [.tray, .out] s t) ∧
      (v ≤ lim - 50 → ∃ t, exec (.sensorThresholdIbi k) s = .next t ∧ Tbl.get false t.tray.armedOff (3 + k.val) = false ∧
        OnlyChanges [.tray] s t) ∧
      (¬ fires → lim - 50 < v → exec (.sensorThresholdIbi k) s = .next s)
  ) ∧
  (
  ∀ (s : State) (pins data : BitVec 212), s.svc ≠ .off →
    let shows := fun (c : Sys2Proof.Instr) (i : TapInstr) (b : BitVec 212) (bits : List Bool) =>
      exec c s = .next { s with tap := { instr := i, boundary := b }, out := .tdo bits :: s.out }
    let cells := fun w : BitVec 212 => (List.range 212).map w.getLsbD
    let acts := s.svc = .benched ∨ (s.svc = .init ∧ s.up.started = 0)
    shows .idcode .idcode s.tap.boundary ((List.range 32).map (0x1D200B5D#32).getLsbD) ∧ shows .bypass .bypass s.tap.boundary [false] ∧
    shows (.samplePreload pins data) .samplePreload data (cells pins) ∧
    (acts → shows (.extest pins data) .extest data (cells pins) ∧
      exec .clamp s = .next { s with tap := { s.tap with instr := .clamp } } ∧
      exec .highz s = .next { s with tap := { s.tap with instr := .highz } }) ∧
    (¬ acts → ∀ c ∈ [Sys2Proof.Instr.extest pins data, .clamp, .highz], ∃ t, exec c s = .next t ∧
      t.tap = { s.tap with instr := .bypass } ∧ t.recorder ≠ s.recorder ∧ OnlyChanges [.tap, .recorder, .free] s t)
  )

/-! Bring-up, draining, coolant and trips (chapters 22 to 24). -/

/-- R23, R577, R579, R586 to R589: power on starts INIT with a new PCYC and everything but the kept state at reset; coolant is waited for; INIT
ends in FILLING, or BENCHED at the limit; the fill ends in READY or DEGRADED; a rail that fails twice, or a memory that fails, asks for a power
cycle; draining needs every slot FREE; a join needs the epoch; the fall of VAUX is OFF. -/
def Obligations.BringUpCommands : Prop :=
  ∀ s : State,
    let requested := fun (t : State) => ∃ r ∈ t.rst.runs, r.level = 4
    let kept := fun (t : State) => t.host.keep = s.host.keep ∧ t.host.keepCount = s.host.keepCount ∧ t.host.serial = s.host.serial ∧
      t.grid.fuse = s.grid.fuse ∧ t.recorder.opMs = s.recorder.opMs ∧ t.rst.dumps = s.rst.dumps ∧ t.lt = s.lt ∧ t.pending = s.pending ∧
      ∀ r < 48, t.activeMask r = s.targetMask r
    let blank := fun (t : State) => t.slots = [] ∧ t.cores = [] ∧ t.parts = [] ∧ t.mesh = [] ∧ t.mem = { MemSys.reset with fuse := s.mem.fuse } ∧ t.rt = RackTime.reset ∧
      t.fab = Fabric.reset ∧ t.host.scratch = 0#64 ∧ t.up.joined = false ∧ t.up.drained = false
    (∀ mv : BitVec 16,
      (s.svc = .off ∧ 44000 ≤ mv.toNat ∧ mv.toNat ≤ 58000 → ∃ t, exec (.powerOn mv) s = .next t ∧ t.svc = .init ∧ t.degrade = 0#5 ∧
        t.recorder.pcyc = s.recorder.pcyc + 1#24 ∧ t.pwr.busMv = mv.toNat ∧ t.pwr.closed = true ∧ t.up.phase = 1 ∧ t.host.changes = 0#32 ∧
        kept t ∧ blank t) ∧
      (¬ (s.svc = .off ∧ 44000 ≤ mv.toNat ∧ mv.toNat ≤ 58000) → exec (.powerOn mv) s = .next s)) ∧
    (s.svc = .off ∨ s.pwr.closed = true → exec .vauxFall s = .next s) ∧
    (s.svc ≠ .off → s.pwr.closed = false → ∃ t, exec .vauxFall s = .next t ∧ t.svc = .off ∧ kept t ∧ blank t) ∧
    (∀ dp : BitVec 16, ∃ t, exec (.coolantHoldCheck dp) s = .next t ∧ t.cool = { s.cool with dp := dp.toNat } ∧
      OnlyChanges [.cool, .up, .tray, .recorder, .free] s t ∧
      let first := s.svc = .init ∧ s.ptc.hasActive = true ∧ s.up.coolOk = false ∧ s.up.phase = 2
      let again := s.svc = .init ∧ s.ptc.hasActive = true ∧ s.up.coolOk = false ∧ s.up.phase = 5 ∧ s.up.checkAt + 1000000000 ≤ s.lt
      (first → dp.toNat < 40 → t.up = { s.up with phase := 5, checkAt := s.lt }) ∧
      (again → dp.toNat < 40 → t.up = { s.up with checkAt := s.lt }) ∧
      (first ∨ again → 40 ≤ dp.toNat → t.up = { s.up with phase := 2, coolOk := true }) ∧ (¬ first → ¬ again → t.up = s.up) ∧
      (¬ (first ∧ dp.toNat < 40) → t.recorder = s.recorder)) ∧
    (let go := s.svc = .init ∧ s.ptc.hasActive = true ∧ s.up.phase = 3
     (∀ rf cf m, ¬ go → exec (.initTrainingDone rf cf m) s = .next s) ∧
     (∀ rf cf, go → ∃ t, exec (.initTrainingDone rf cf false) s = .next t ∧ requested t ∧ t.svc = .init) ∧
     ∀ rf cf, go → ∃ t, exec (.initTrainingDone rf cf true) s = .next t ∧ t.svc = (if s.benchAtLimit then .benched else .filling) ∧
       t.cool.stackTrip = false ∧ (s.keepLimited keepBench = false → (t.keep keepBench).getLsbD 17 = false) ∧
       (s.benchAtLimit = false → t.up.phase = 4 ∧ t.mem.fill = 1 ∧ t.mem.t2Code = ((s.keep keepT2Code).extractLsb' 0 2).toNat) ∧
       (s.benchAtLimit = false → (t.rail 3).state = 1) ∧ (rf = [] → cf = [] → ∀ r < 48, t.activeMask r = s.targetMask r)) ∧
    (∀ (t2 : Bool) (pct : BitVec 7),
      let filled := if t2 then s.mem.t2Filled else s.mem.t1Filled
      let other := if t2 then s.mem.t1Filled else s.mem.t2Filled
      let c := Sys2Proof.Instr.fillComplete t2 pct
      (s.mem.fill ≠ 1 ∨ s.rst.drain.isSome = true ∨ filled = true → exec c s = .next s) ∧
      (s.mem.fill = 1 → s.rst.drain = none → filled = false →
        (pct.toNat < 100 → exec c s = .next { s with mem := if t2 then { s.mem with t2Pct := max s.mem.t2Pct pct.toNat }
          else { s.mem with t1Pct := max s.mem.t1Pct pct.toNat } }) ∧
        (100 ≤ pct.toNat → other = false → ∃ t, exec c s = .next t ∧ (if t2 then t.mem.t2Filled else t.mem.t1Filled) = true ∧
          t.mem.fill = 1 ∧ t.mem.bytes = s.mem.bytes ∧ OnlyChanges [.mem] s t) ∧
        (100 ≤ pct.toNat → other = true → s.svc = .filling → ∃ t, exec c s = .next t ∧
          t.svc = (if s.degradeIn .ready = 0#5 then .ready else .degraded) ∧ t.degrade = s.degradeIn .ready ∧ t.mem.t1Filled = true ∧
          t.mem.t2Filled = true ∧ t.mem.fill = 2 ∧ t.mem.fillMs = openDiv (s.lt - s.mem.fillAt) 1000000 ∧ t.up.phase = 0 ∧
          t.up.upMs = min 0xFFFF ((s.lt - s.up.initAt) / 1000000) ∧ t.mem.bytes = s.mem.bytes ∧ OnlyChanges ([.mem, .up] ++ reporting) s t))) ∧
    (∀ rail : Fin 12,
      let starting := s.startingRail = some rail.val ∧ (s.rail rail).state ≠ 1
      (¬ starting → exec (.railStartTimeout rail) s = .next s) ∧
      (starting → Tbl.get false s.up.retried rail = false → ∃ t, exec (.railStartTimeout rail) s = .next t ∧
        Tbl.get false t.up.retried rail = true ∧ (∀ i : Nat, i ≠ rail → Tbl.get false t.up.retried i = Tbl.get false s.up.retried i) ∧
        OnlyChanges [.up] s t) ∧
      (starting → Tbl.get false s.up.retried rail = true → ∃ t, exec (.railStartTimeout rail) s = .next t ∧ requested t)) ∧
    (let ready := requested s ∧ s.rst.drain = none ∧ s.tray.pwrReq = false
     (¬ ready → exec .pwrCycleRequest s = .next s) ∧
     (ready → ∃ t, exec .pwrCycleRequest s = .next t ∧ t.tray.pwrReq = true ∧ t.out.head? = some .pwrCycle ∧ (∀ f, t.hostUp f = false) ∧
       t.mesh = [] ∧ t.rst.runs = s.rst.runs ∧ t.up.phase = 6 ∧ ∀ k < 18, (t.port k).state ≠ .up)) ∧
    (s.hostUp 0 = true →
      (∃ t, exec (.drain 0) s = .next t ∧ OnlyChanges [.up] s t ∧
        ((s.svc = .ready ∨ s.svc = .degraded) → (∀ n, (s.slot n).state = .free) → t.up = { s.up with drained := true, result := 1 }) ∧
        (¬ (s.svc = .ready ∨ s.svc = .degraded) ∨ (∃ n, (s.slot n).state ≠ .free) → t.up = { s.up with result := 2 })) ∧
      (∃ t, exec (.undrain 0) s = .next t ∧ t.up = { s.up with drained := false, result := 1 } ∧ OnlyChanges [.up] s t) ∧
      ∀ e : BitVec 24, ∃ t, exec (.svcJoin 0 e) s = .next t ∧ OnlyChanges [.up] s t ∧
        (e = s.up.epoch → t.up = { s.up with joined := true, result := 1 }) ∧ (e ≠ s.up.epoch → t.up = { s.up with result := 4 }))

/-- R600, R610 to R612, R614: a hundred samples below 4.0 kPa lose the flow and take the cartridges' charge, a thousand at or above return it;
at 105 °C a die goes to issue level 1 and the lowest clock; at 110 °C, at 105 °C after 10 ms, or where a stack stays at level 3, an L3 with
cause THERMAL holds the dies in reset until the plate is cool and the coolant flows. -/
def Obligations.CoolantAndTrips : Prop :=
  ∀ s : State,
    (∀ dp : BitVec 16, ∃ t, exec (.flowSample dp) s = .next t ∧ t.cool.dp = dp.toNat ∧ OnlyChanges [.cool, .tray, .carts, .pwr, .recorder] s t ∧
      (s.svc ≠ .off → dp.toNat < 40 →
        t.cool.above = 0 ∧ t.cool.below = s.cool.below + 1 ∧ (t.cool.noFlow = true ↔ s.cool.noFlow = true ∨ 99 ≤ s.cool.below) ∧
        (99 ≤ s.cool.below → s.cool.noFlow = false → t.cool.losses = min 0xFFFF (s.cool.losses + 1) ∧ t.carts.cAvail = 0) ∧
        (s.cool.below < 99 ∨ s.cool.noFlow = true → t.cool.losses = s.cool.losses ∧ t.carts = s.carts)) ∧
      (s.svc ≠ .off → 40 ≤ dp.toNat →
        t.cool.below = 0 ∧ t.cool.above = s.cool.above + 1 ∧ (t.cool.noFlow = true ↔ s.cool.noFlow = true ∧ s.cool.above < 999) ∧
        t.cool.losses = s.cool.losses ∧ (s.cool.above < 999 ∨ s.cool.noFlow = false → t.carts = s.carts))) ∧
    (∀ i : Fin 432, s.svc ≠ .off →
      let c := Sys2Proof.Instr.thermalTrip i
      let die := dieOfRegion i
      let temp := (s.region i).temp
      let cut := Tbl.get none s.cool.trip die
      let after := ∃ t0, cut = some t0 ∧ t0 + 10000000 ≤ s.lt
      let cold := ∀ j < 432, dieOfRegion j = die → (s.region j).temp < 105
      (temp < 105 → ¬ (after ∧ cold) → exec c s = .next s.settle) ∧
      (temp < 105 → after → cold → ∃ t, exec c s = .next t ∧ Tbl.get none t.cool.trip die = none ∧ OnlyChanges (.cool :: reporting) s t) ∧
      (105 ≤ temp → temp < 110 → cut ≠ none → ¬ after → exec c s = .next s.settle) ∧
      (105 ≤ temp → temp < 110 → cut = none → ∃ t, exec c s = .next t ∧
        (if die = 0 then t.draw.level0 = 1 else t.draw.level1 = 1) ∧ Tbl.get none t.cool.trip die = some s.lt ∧
        (∀ j < 432, dieOfRegion j = die → (t.region j).cap = 0 ∧ (t.region j).nextClock = none) ∧
        (∀ j < 432, dieOfRegion j ≠ die → t.region j = s.region j) ∧ t.rst = s.rst ∧ OnlyChanges ([.reg, .cool, .draw] ++ reporting) s t) ∧
      (110 ≤ temp ∨ (105 ≤ temp ∧ after) → s.rst.runs = [] →
        s.svc = .ready ∨ s.svc = .serving ∨ s.svc = .degraded ∨ s.svc = .filling → ∃ t, exec c s = .next t ∧
        (t.svc = .benched ∨ (t.cool.held = true ∧ ∃ r ∈ t.rst.runs, r.level = 3 ∧ r.cause = 0x0E)))) ∧
    (∀ k : Fin 8,
      let long := (s.stack k).throt = 3 ∧ 10000 ≤ (s.stack k).level3Ms
      (¬ long → exec (.stackL3Trip k) s = .next s.settle) ∧
      (long → s.rst.runs = [] → s.svc = .ready ∨ s.svc = .serving ∨ s.svc = .degraded ∨ s.svc = .filling →
        ∃ t, exec (.stackL3Trip k) s = .next t ∧ (t.svc = .benched ∨
          (t.cool.held = true ∧ t.cool.stackTrip = true ∧ ∃ r ∈ t.rst.runs, r.level = 3 ∧ r.cause = 0x0E)))) ∧
    ∀ plate dp : BitVec 16, ∃ t, exec (.thermalHoldRelease plate dp) s = .next t ∧ OnlyChanges [.cool, .tray] s t ∧
      t.cool.held = (if plate.toInt ≤ 600 ∧ 40 ≤ dp.toNat then false else s.cool.held)

/-! Reset, and the whole machine. -/

/-- R19, R23, R236, R276, R297, R321, R339, R439, R462, R488, R521, R533, R548, R551, R577: what the module holds at the start of INIT, and the
canonical form of its memories. Only values that the register tables give are named. -/
def Obligations.ResetState : Prop :=
  let s := State.reset
  s.svc = .init ∧ s.degrade = 0#5 ∧ s.up.phase = 1 ∧ s.up.joined = false ∧ s.pending = [] ∧
  (∀ n, (s.slot n).state = .free ∧ (s.slot n).owner = 0#6 ∧ (s.slot n).result = .idle ∧ (s.slot n).nextGen = 0#8) ∧
  (∀ k, (s.part k).valid = false) ∧ (∀ f, s.host.int f = { cause := 0#8, mask := 0xFF#8, vec := 0#32, slots := [] }) ∧
  s.rt.state = .none ∧ s.rt.now = 0#64 ∧ s.rt.holdLimit = 100#10 ∧ s.fab.chipValid = false ∧
  s.mem.hotRatio = 8 ∧ s.mem.hotFloor = 125000 ∧ s.mem.hotWindows = 100 ∧ s.mem.hotHoldS = 10 ∧ s.mem.t1ScrubH = 24 ∧ s.mem.rowLimit = 16 ∧
  s.mem.autoRepair = true ∧ s.mem.bytes = [] ∧ s.draw.ceiling = 2400 ∧ s.draw.fMax = 42 ∧ s.draw.vfLo = 32 ∧ s.draw.vfHi = 96 ∧
  s.carts.setPct = 80 ∧ s.carts.refMaxH = 24 ∧ s.carts.calDays = 30 ∧ s.ptc.proveH = 24 ∧ s.ptc.safeCode = 96 ∧
  s.recorder.windowS = 3600#16 ∧ s.recorder.flood = 200#16 ∧ s.host.scratch = 0#64 ∧ s.host.badAcc = 0#32 ∧ s.wf ∧ s.keepBound

/-- R8, R523, R541: every command completes; it takes none of the commands that wait; the memories keep their canonical form; no keep register
is written beyond 200,000 times, and one that has been is fixed; the recorder's milliseconds and the write counts never fall. -/
def Obligations.EveryStepKeepsTheForm : Prop :=
  (∀ (c : Sys2Proof.Instr) (s : State), ∃ t, exec c s = .next t ∧ t.pending = s.pending) ∧
  ∀ s t : State, step s = .next t →
    t.pending = s.pending.tail ∧ (s.wf → t.wf) ∧ (s.keepBound → t.keepBound) ∧ s.recorder.opMs ≤ t.recorder.opMs ∧
    (∀ off, Tbl.get 0 s.host.keepCount off ≤ Tbl.get 0 t.host.keepCount off) ∧
    ∀ off, 200000 ≤ Tbl.get 0 s.host.keepCount off → t.keep off = s.keep off

/-! Formats and exact sums (chapter 02). -/

/-- R30 to R33, R39, R42: in every format, a code that does not denote NaN encodes again to itself with no flag, under every rounding mode;
an infinity does where saturation is not selected. -/
def Obligations.FormatsRoundTrip : Prop :=
  ∀ (f : Fmt) (mode : RMode) (c : Nat), c < 2 ^ f.width →
    let v := decodeElem f c none
    (v.isNan = false → v.isInf = false → ∀ sat, encode f mode sat false v = (c, 0#8)) ∧
    (v.isInf = true → encode f mode false false v = (c, 0#8)) ∧
    (v.isNan = true → ∃ k, f.nanCode = some k ∧ ∀ sat scaled, encode f mode sat scaled v = (k, 0#8))

/-- R40: rounding is once, from the exact value: a magnitude m × 2^e in units of 2^(e + k) goes to one of its two neighbours, exactly where it
is one; RNE takes the nearer and on a tie the even one, RTZ the lower, RDN and RUP the one that the sign selects. -/
def Obligations.RoundingIsExact : Prop :=
  ∀ (mode : RMode) (neg : Bool) (m k : Nat) (e : Int),
    let r := roundTo mode neg m e (e + k)
    let n := r.1
    (r.2 = true ↔ n * 2 ^ k ≠ m) ∧ (m / 2 ^ k = n ∨ m / 2 ^ k + 1 = n) ∧ (r.2 = false ↔ m % 2 ^ k = 0) ∧
    (mode = .rne → 2 * (n * 2 ^ k) ≤ 2 * m + 2 ^ k ∧ 2 * m ≤ 2 * (n * 2 ^ k) + 2 ^ k ∧
      (2 * (m % 2 ^ k) = 2 ^ k → n % 2 = 0)) ∧
    (mode = .rtz → n = m / 2 ^ k) ∧
    (mode = .rdn → if neg then m ≤ n * 2 ^ k else n * 2 ^ k ≤ m) ∧
    (mode = .rup → if neg then n * 2 ^ k ≤ m else m ≤ n * 2 ^ k)

/-- R51, R52, R58, R66, R267: a sum in the accumulation format, its flags and its count of window mismatches depend on the terms and not on
their order: a finite element keeps its window, and its significand is the sum of what it was and of every placed term, modulo 2^112. So it
is for KAF values on one window, for the products an MMA adds to an element, and for the contributions of a reduction instance. -/
def Obligations.SumsIgnoreOrder : Prop :=
  (∀ (k : KafBits) (E S : Int) (vs : List FVal), kafRead k = .fin E S → (∀ v ∈ vs, v.isNan = false ∧ v.isInf = false) →
    let placed := fun v : FVal => match v with
      | .fin neg m e => (placeTerm neg m e E).1
      | _ => 0
    (kafAddTerms k E vs).1.extractLsb' 0 112 = BitVec.ofInt 112 (S + (vs.map placed).sum) ∧
    (kafAddTerms k E vs).1.extractLsb' 112 16 = k.extractLsb' 112 16) ∧
  (∀ (E : Int) (ks ls : List KafBits), ks.Perm ls → kafSum E ks = kafSum E ls) ∧
  (∀ (k : KafBits) (E : Int) (vs ws : List FVal), vs.Perm ws → kafAddTerms k E vs = kafAddTerms k E ws) ∧
  ∀ (d : RedDesc) (x : RedInst) (cs ds : List Contribution), d.form ≠ 2 → cs.Perm ds →
    cs.foldl (fun a c => (a.add d c).1) x = ds.foldl (fun a c => (a.add d c).1) x
end

