-- ==== Sys2Proof/Laws/Table.lean ====
section
/-! SUPPORT. What reading a table after a write gives, and that a write keeps the canonical form. -/

namespace Sys2Proof.Machine

variable {α : Type} [DecidableEq α] (d : α)

omit [DecidableEq α] in
@[simp] theorem Tbl.get_nil (n : Nat) : Tbl.get d [] n = d := rfl

/-- Reading the key just written gives the value written. -/
@[simp] theorem Tbl.get_set_same (t : Tbl α) (n : Nat) (v : α) : Tbl.get d (Tbl.set d t n v) n = v := by
  induction t with
  | nil => by_cases h : v = d <;> simp [Tbl.set, Tbl.get, h]
  | cons kw t ih =>
    obtain ⟨k, w⟩ := kw
    by_cases hk : n = k
    · by_cases h : v = d
      · subst hk; subst h; simpa [Tbl.set] using ih
      · simp [Tbl.set, hk, h, Tbl.get]
    · by_cases h : n < k ∧ v ≠ d
      · simp [Tbl.set, hk, h, Tbl.get]
      · simp [Tbl.set, hk, h, Tbl.get, ih]

/-- Reading any other key gives what it read before. -/
theorem Tbl.get_set_ne (t : Tbl α) {n m : Nat} (v : α) (hm : m ≠ n) :
    Tbl.get d (Tbl.set d t n v) m = Tbl.get d t m := by
  induction t with
  | nil => by_cases h : v = d <;> simp [Tbl.set, Tbl.get, h, hm]
  | cons kw t ih =>
    obtain ⟨k, w⟩ := kw
    by_cases hk : n = k
    · subst hk
      by_cases h : v = d
      · simpa [Tbl.set, h, Tbl.get, hm] using ih
      · simp [Tbl.set, h, Tbl.get, hm]
    · by_cases h : n < k ∧ v ≠ d
      · simp [Tbl.set, hk, h, Tbl.get, hm]
      · simp [Tbl.set, hk, h, Tbl.get, ih]

theorem Tbl.get_set (t : Tbl α) (n m : Nat) (v : α) :
    Tbl.get d (Tbl.set d t n v) m = if m = n then v else Tbl.get d t m := by
  by_cases h : m = n
  · subst h; simp
  · simp [h, Tbl.get_set_ne d t v h]

/-- A table well formed above a higher bound is well formed above a lower one. -/
theorem Tbl.wfFrom_mono {a b : Nat} (hab : a ≤ b) (t : Tbl α) (h : Tbl.wfFrom d b t = true) :
    Tbl.wfFrom d a t = true := by
  cases t with
  | nil => rfl
  | cons kw t =>
    obtain ⟨k, w⟩ := kw
    simp [Tbl.wfFrom] at h ⊢
    exact ⟨⟨by omega, h.1.2⟩, h.2⟩

theorem Tbl.wfFrom_set (t : Tbl α) (lo n : Nat) (v : α) (hn : lo ≤ n) (h : Tbl.wfFrom d lo t = true) :
    Tbl.wfFrom d lo (Tbl.set d t n v) = true := by
  induction t generalizing lo with
  | nil => by_cases hv : v = d <;> simp [Tbl.set, Tbl.wfFrom, hv, hn]
  | cons kw t ih =>
    obtain ⟨k, w⟩ := kw
    simp only [Tbl.wfFrom, Bool.and_eq_true, decide_eq_true_eq] at h
    obtain ⟨⟨hlo, hw⟩, ht⟩ := h
    by_cases hk : n = k
    · subst hk
      by_cases hv : v = d
      · have := ih lo (by omega) (Tbl.wfFrom_mono d (by omega) t ht)
        simpa [Tbl.set, hv] using hv ▸ this
      · simp [Tbl.set, hv, Tbl.wfFrom, hn, ht]
    · by_cases hc : n < k ∧ v ≠ d
      · have : n + 1 ≤ k := hc.1
        simp [Tbl.set, hk, hc, Tbl.wfFrom, hn, hw, ht, this]
      · by_cases hnk : n < k
        · have hv : v = d := by
            by_cases hv : v = d
            · exact hv
            · exact absurd ⟨hnk, hv⟩ hc
          have : ∀ (u : Tbl α) (j : Nat), n < j → Tbl.wfFrom d j u = true → Tbl.wfFrom d j (Tbl.set d u n v) = true := by
            intro u
            induction u with
            | nil => intro j _ _; simp [Tbl.set, hv, Tbl.wfFrom]
            | cons qr u ihu =>
              obtain ⟨q, r⟩ := qr
              intro j hj hu
              simp only [Tbl.wfFrom, Bool.and_eq_true, decide_eq_true_eq] at hu
              have hq : n ≠ q := by omega
              simp [Tbl.set, hq, hv, Tbl.wfFrom, hu.1.1, hu.1.2]
              exact hv ▸ ihu (q + 1) (by omega) hu.2
          simp [Tbl.set, hk, hc, Tbl.wfFrom, hlo, hw]
          exact this t (k + 1) (by omega) ht
        · simp [Tbl.set, hk, hc, Tbl.wfFrom, hlo, hw]
          exact ih (k + 1) (by omega) ht

/-- A write keeps the canonical form. -/
theorem Tbl.wf_set (t : Tbl α) (n : Nat) (v : α) (h : Tbl.wf d t = true) : Tbl.wf d (Tbl.set d t n v) = true :=
  Tbl.wfFrom_set d t 0 n v (Nat.zero_le n) h

/-- Writing the same value again changes nothing. -/
theorem Tbl.set_set_same (t : Tbl α) (n : Nat) (v : α) : Tbl.set d (Tbl.set d t n v) n v = Tbl.set d t n v := by
  induction t with
  | nil => by_cases h : v = d <;> simp [Tbl.set, h]
  | cons kw t ih =>
    obtain ⟨k, w⟩ := kw
    by_cases hk : n = k
    · by_cases h : v = d
      · subst h; simpa [Tbl.set, hk] using (hk ▸ ih)
      · simp [Tbl.set, hk, h]
    · by_cases h : n < k ∧ v ≠ d
      · simp [Tbl.set, hk, h]
      · simp only [Tbl.set, hk, h, if_false, ih]

/-- The last write of a key counts, where the first was of no default. -/
theorem Tbl.set_set (t : Tbl α) (n : Nat) (v w : α) (hv : v ≠ d) : Tbl.set d (Tbl.set d t n v) n w = Tbl.set d t n w := by
  induction t with
  | nil => by_cases h : w = d <;> simp [Tbl.set, hv, h]
  | cons kw t ih =>
    obtain ⟨k, x⟩ := kw
    by_cases hk : n = k
    · subst hk; simp [Tbl.set, hv]
    · by_cases h : n < k
      · by_cases hw : w = d
        · simp [Tbl.set, hv, h, hw, hk]
        · simp [Tbl.set, hv, h, hw, hk]
      · simp only [Tbl.set, hk, h, if_false, false_and, ih]

end Sys2Proof.Machine
end

