-- ==== Sys2Proof/Laws/State.lean ====
section
/-! SUPPORT. One lemma per field per update: an update leaves every field but its own as it was, and its own component reads as
written. Later proofs unfold no record update. -/

namespace Sys2Proof.Machine

variable (s : State)

/-! setCore -/

@[simp] theorem State.setCore_pending (k : Nat) (c : Core) : (s.setCore k c).pending = s.pending := rfl
@[simp] theorem State.setCore_free (k : Nat) (c : Core) : (s.setCore k c).free = s.free := rfl
@[simp] theorem State.setCore_out (k : Nat) (c : Core) : (s.setCore k c).out = s.out := rfl
@[simp] theorem State.setCore_lt (k : Nat) (c : Core) : (s.setCore k c).lt = s.lt := rfl
@[simp] theorem State.setCore_svc (k : Nat) (c : Core) : (s.setCore k c).svc = s.svc := rfl
@[simp] theorem State.setCore_degrade (k : Nat) (c : Core) : (s.setCore k c).degrade = s.degrade := rfl
@[simp] theorem State.setCore_grid (k : Nat) (c : Core) : (s.setCore k c).grid = s.grid := rfl
@[simp] theorem State.setCore_slots (k : Nat) (c : Core) : (s.setCore k c).slots = s.slots := rfl
@[simp] theorem State.setCore_parts (k : Nat) (c : Core) : (s.setCore k c).parts = s.parts := rfl
@[simp] theorem State.setCore_rt (k : Nat) (c : Core) : (s.setCore k c).rt = s.rt := rfl
@[simp] theorem State.setCore_fab (k : Nat) (c : Core) : (s.setCore k c).fab = s.fab := rfl
@[simp] theorem State.setCore_mem (k : Nat) (c : Core) : (s.setCore k c).mem = s.mem := rfl
@[simp] theorem State.setCore_mesh (k : Nat) (c : Core) : (s.setCore k c).mesh = s.mesh := rfl
@[simp] theorem State.setCore_reg (k : Nat) (c : Core) : (s.setCore k c).reg = s.reg := rfl
@[simp] theorem State.setCore_pwr (k : Nat) (c : Core) : (s.setCore k c).pwr = s.pwr := rfl
@[simp] theorem State.setCore_feed (k : Nat) (c : Core) : (s.setCore k c).feed = s.feed := rfl
@[simp] theorem State.setCore_draw (k : Nat) (c : Core) : (s.setCore k c).draw = s.draw := rfl
@[simp] theorem State.setCore_carts (k : Nat) (c : Core) : (s.setCore k c).carts = s.carts := rfl
@[simp] theorem State.setCore_ptc (k : Nat) (c : Core) : (s.setCore k c).ptc = s.ptc := rfl
@[simp] theorem State.setCore_rst (k : Nat) (c : Core) : (s.setCore k c).rst = s.rst := rfl
@[simp] theorem State.setCore_recorder (k : Nat) (c : Core) : (s.setCore k c).recorder = s.recorder := rfl
@[simp] theorem State.setCore_host (k : Nat) (c : Core) : (s.setCore k c).host = s.host := rfl
@[simp] theorem State.setCore_tray (k : Nat) (c : Core) : (s.setCore k c).tray = s.tray := rfl
@[simp] theorem State.setCore_up (k : Nat) (c : Core) : (s.setCore k c).up = s.up := rfl
@[simp] theorem State.setCore_cool (k : Nat) (c : Core) : (s.setCore k c).cool = s.cool := rfl
@[simp] theorem State.setCore_tap (k : Nat) (c : Core) : (s.setCore k c).tap = s.tap := rfl

/-! setSlot -/

@[simp] theorem State.setSlot_pending (n : Nat) (x : Slot) : (s.setSlot n x).pending = s.pending := rfl
@[simp] theorem State.setSlot_free (n : Nat) (x : Slot) : (s.setSlot n x).free = s.free := rfl
@[simp] theorem State.setSlot_out (n : Nat) (x : Slot) : (s.setSlot n x).out = s.out := rfl
@[simp] theorem State.setSlot_lt (n : Nat) (x : Slot) : (s.setSlot n x).lt = s.lt := rfl
@[simp] theorem State.setSlot_svc (n : Nat) (x : Slot) : (s.setSlot n x).svc = s.svc := rfl
@[simp] theorem State.setSlot_degrade (n : Nat) (x : Slot) : (s.setSlot n x).degrade = s.degrade := rfl
@[simp] theorem State.setSlot_grid (n : Nat) (x : Slot) : (s.setSlot n x).grid = s.grid := rfl
@[simp] theorem State.setSlot_cores (n : Nat) (x : Slot) : (s.setSlot n x).cores = s.cores := rfl
@[simp] theorem State.setSlot_parts (n : Nat) (x : Slot) : (s.setSlot n x).parts = s.parts := rfl
@[simp] theorem State.setSlot_rt (n : Nat) (x : Slot) : (s.setSlot n x).rt = s.rt := rfl
@[simp] theorem State.setSlot_fab (n : Nat) (x : Slot) : (s.setSlot n x).fab = s.fab := rfl
@[simp] theorem State.setSlot_mem (n : Nat) (x : Slot) : (s.setSlot n x).mem = s.mem := rfl
@[simp] theorem State.setSlot_mesh (n : Nat) (x : Slot) : (s.setSlot n x).mesh = s.mesh := rfl
@[simp] theorem State.setSlot_reg (n : Nat) (x : Slot) : (s.setSlot n x).reg = s.reg := rfl
@[simp] theorem State.setSlot_pwr (n : Nat) (x : Slot) : (s.setSlot n x).pwr = s.pwr := rfl
@[simp] theorem State.setSlot_feed (n : Nat) (x : Slot) : (s.setSlot n x).feed = s.feed := rfl
@[simp] theorem State.setSlot_draw (n : Nat) (x : Slot) : (s.setSlot n x).draw = s.draw := rfl
@[simp] theorem State.setSlot_carts (n : Nat) (x : Slot) : (s.setSlot n x).carts = s.carts := rfl
@[simp] theorem State.setSlot_ptc (n : Nat) (x : Slot) : (s.setSlot n x).ptc = s.ptc := rfl
@[simp] theorem State.setSlot_rst (n : Nat) (x : Slot) : (s.setSlot n x).rst = s.rst := rfl
@[simp] theorem State.setSlot_recorder (n : Nat) (x : Slot) : (s.setSlot n x).recorder = s.recorder := rfl
@[simp] theorem State.setSlot_host (n : Nat) (x : Slot) : (s.setSlot n x).host = s.host := rfl
@[simp] theorem State.setSlot_tray (n : Nat) (x : Slot) : (s.setSlot n x).tray = s.tray := rfl
@[simp] theorem State.setSlot_up (n : Nat) (x : Slot) : (s.setSlot n x).up = s.up := rfl
@[simp] theorem State.setSlot_cool (n : Nat) (x : Slot) : (s.setSlot n x).cool = s.cool := rfl
@[simp] theorem State.setSlot_tap (n : Nat) (x : Slot) : (s.setSlot n x).tap = s.tap := rfl

/-! setPart -/

@[simp] theorem State.setPart_pending (k : Nat) (x : Part) : (s.setPart k x).pending = s.pending := rfl
@[simp] theorem State.setPart_free (k : Nat) (x : Part) : (s.setPart k x).free = s.free := rfl
@[simp] theorem State.setPart_out (k : Nat) (x : Part) : (s.setPart k x).out = s.out := rfl
@[simp] theorem State.setPart_lt (k : Nat) (x : Part) : (s.setPart k x).lt = s.lt := rfl
@[simp] theorem State.setPart_svc (k : Nat) (x : Part) : (s.setPart k x).svc = s.svc := rfl
@[simp] theorem State.setPart_degrade (k : Nat) (x : Part) : (s.setPart k x).degrade = s.degrade := rfl
@[simp] theorem State.setPart_grid (k : Nat) (x : Part) : (s.setPart k x).grid = s.grid := rfl
@[simp] theorem State.setPart_cores (k : Nat) (x : Part) : (s.setPart k x).cores = s.cores := rfl
@[simp] theorem State.setPart_slots (k : Nat) (x : Part) : (s.setPart k x).slots = s.slots := rfl
@[simp] theorem State.setPart_rt (k : Nat) (x : Part) : (s.setPart k x).rt = s.rt := rfl
@[simp] theorem State.setPart_fab (k : Nat) (x : Part) : (s.setPart k x).fab = s.fab := rfl
@[simp] theorem State.setPart_mem (k : Nat) (x : Part) : (s.setPart k x).mem = s.mem := rfl
@[simp] theorem State.setPart_mesh (k : Nat) (x : Part) : (s.setPart k x).mesh = s.mesh := rfl
@[simp] theorem State.setPart_reg (k : Nat) (x : Part) : (s.setPart k x).reg = s.reg := rfl
@[simp] theorem State.setPart_pwr (k : Nat) (x : Part) : (s.setPart k x).pwr = s.pwr := rfl
@[simp] theorem State.setPart_feed (k : Nat) (x : Part) : (s.setPart k x).feed = s.feed := rfl
@[simp] theorem State.setPart_draw (k : Nat) (x : Part) : (s.setPart k x).draw = s.draw := rfl
@[simp] theorem State.setPart_carts (k : Nat) (x : Part) : (s.setPart k x).carts = s.carts := rfl
@[simp] theorem State.setPart_ptc (k : Nat) (x : Part) : (s.setPart k x).ptc = s.ptc := rfl
@[simp] theorem State.setPart_rst (k : Nat) (x : Part) : (s.setPart k x).rst = s.rst := rfl
@[simp] theorem State.setPart_recorder (k : Nat) (x : Part) : (s.setPart k x).recorder = s.recorder := rfl
@[simp] theorem State.setPart_host (k : Nat) (x : Part) : (s.setPart k x).host = s.host := rfl
@[simp] theorem State.setPart_tray (k : Nat) (x : Part) : (s.setPart k x).tray = s.tray := rfl
@[simp] theorem State.setPart_up (k : Nat) (x : Part) : (s.setPart k x).up = s.up := rfl
@[simp] theorem State.setPart_cool (k : Nat) (x : Part) : (s.setPart k x).cool = s.cool := rfl
@[simp] theorem State.setPart_tap (k : Nat) (x : Part) : (s.setPart k x).tap = s.tap := rfl

/-! setRegion -/

@[simp] theorem State.setRegion_pending (i : Nat) (x : Region) : (s.setRegion i x).pending = s.pending := rfl
@[simp] theorem State.setRegion_free (i : Nat) (x : Region) : (s.setRegion i x).free = s.free := rfl
@[simp] theorem State.setRegion_out (i : Nat) (x : Region) : (s.setRegion i x).out = s.out := rfl
@[simp] theorem State.setRegion_lt (i : Nat) (x : Region) : (s.setRegion i x).lt = s.lt := rfl
@[simp] theorem State.setRegion_svc (i : Nat) (x : Region) : (s.setRegion i x).svc = s.svc := rfl
@[simp] theorem State.setRegion_degrade (i : Nat) (x : Region) : (s.setRegion i x).degrade = s.degrade := rfl
@[simp] theorem State.setRegion_grid (i : Nat) (x : Region) : (s.setRegion i x).grid = s.grid := rfl
@[simp] theorem State.setRegion_cores (i : Nat) (x : Region) : (s.setRegion i x).cores = s.cores := rfl
@[simp] theorem State.setRegion_slots (i : Nat) (x : Region) : (s.setRegion i x).slots = s.slots := rfl
@[simp] theorem State.setRegion_parts (i : Nat) (x : Region) : (s.setRegion i x).parts = s.parts := rfl
@[simp] theorem State.setRegion_rt (i : Nat) (x : Region) : (s.setRegion i x).rt = s.rt := rfl
@[simp] theorem State.setRegion_fab (i : Nat) (x : Region) : (s.setRegion i x).fab = s.fab := rfl
@[simp] theorem State.setRegion_mem (i : Nat) (x : Region) : (s.setRegion i x).mem = s.mem := rfl
@[simp] theorem State.setRegion_mesh (i : Nat) (x : Region) : (s.setRegion i x).mesh = s.mesh := rfl
@[simp] theorem State.setRegion_pwr (i : Nat) (x : Region) : (s.setRegion i x).pwr = s.pwr := rfl
@[simp] theorem State.setRegion_feed (i : Nat) (x : Region) : (s.setRegion i x).feed = s.feed := rfl
@[simp] theorem State.setRegion_draw (i : Nat) (x : Region) : (s.setRegion i x).draw = s.draw := rfl
@[simp] theorem State.setRegion_carts (i : Nat) (x : Region) : (s.setRegion i x).carts = s.carts := rfl
@[simp] theorem State.setRegion_ptc (i : Nat) (x : Region) : (s.setRegion i x).ptc = s.ptc := rfl
@[simp] theorem State.setRegion_rst (i : Nat) (x : Region) : (s.setRegion i x).rst = s.rst := rfl
@[simp] theorem State.setRegion_recorder (i : Nat) (x : Region) : (s.setRegion i x).recorder = s.recorder := rfl
@[simp] theorem State.setRegion_host (i : Nat) (x : Region) : (s.setRegion i x).host = s.host := rfl
@[simp] theorem State.setRegion_tray (i : Nat) (x : Region) : (s.setRegion i x).tray = s.tray := rfl
@[simp] theorem State.setRegion_up (i : Nat) (x : Region) : (s.setRegion i x).up = s.up := rfl
@[simp] theorem State.setRegion_cool (i : Nat) (x : Region) : (s.setRegion i x).cool = s.cool := rfl
@[simp] theorem State.setRegion_tap (i : Nat) (x : Region) : (s.setRegion i x).tap = s.tap := rfl

/-! setCluster -/

@[simp] theorem State.setCluster_pending (j : Nat) (x : Cluster) : (s.setCluster j x).pending = s.pending := rfl
@[simp] theorem State.setCluster_free (j : Nat) (x : Cluster) : (s.setCluster j x).free = s.free := rfl
@[simp] theorem State.setCluster_out (j : Nat) (x : Cluster) : (s.setCluster j x).out = s.out := rfl
@[simp] theorem State.setCluster_lt (j : Nat) (x : Cluster) : (s.setCluster j x).lt = s.lt := rfl
@[simp] theorem State.setCluster_svc (j : Nat) (x : Cluster) : (s.setCluster j x).svc = s.svc := rfl
@[simp] theorem State.setCluster_degrade (j : Nat) (x : Cluster) : (s.setCluster j x).degrade = s.degrade := rfl
@[simp] theorem State.setCluster_grid (j : Nat) (x : Cluster) : (s.setCluster j x).grid = s.grid := rfl
@[simp] theorem State.setCluster_cores (j : Nat) (x : Cluster) : (s.setCluster j x).cores = s.cores := rfl
@[simp] theorem State.setCluster_slots (j : Nat) (x : Cluster) : (s.setCluster j x).slots = s.slots := rfl
@[simp] theorem State.setCluster_parts (j : Nat) (x : Cluster) : (s.setCluster j x).parts = s.parts := rfl
@[simp] theorem State.setCluster_rt (j : Nat) (x : Cluster) : (s.setCluster j x).rt = s.rt := rfl
@[simp] theorem State.setCluster_fab (j : Nat) (x : Cluster) : (s.setCluster j x).fab = s.fab := rfl
@[simp] theorem State.setCluster_mem (j : Nat) (x : Cluster) : (s.setCluster j x).mem = s.mem := rfl
@[simp] theorem State.setCluster_mesh (j : Nat) (x : Cluster) : (s.setCluster j x).mesh = s.mesh := rfl
@[simp] theorem State.setCluster_pwr (j : Nat) (x : Cluster) : (s.setCluster j x).pwr = s.pwr := rfl
@[simp] theorem State.setCluster_feed (j : Nat) (x : Cluster) : (s.setCluster j x).feed = s.feed := rfl
@[simp] theorem State.setCluster_draw (j : Nat) (x : Cluster) : (s.setCluster j x).draw = s.draw := rfl
@[simp] theorem State.setCluster_carts (j : Nat) (x : Cluster) : (s.setCluster j x).carts = s.carts := rfl
@[simp] theorem State.setCluster_ptc (j : Nat) (x : Cluster) : (s.setCluster j x).ptc = s.ptc := rfl
@[simp] theorem State.setCluster_rst (j : Nat) (x : Cluster) : (s.setCluster j x).rst = s.rst := rfl
@[simp] theorem State.setCluster_recorder (j : Nat) (x : Cluster) : (s.setCluster j x).recorder = s.recorder := rfl
@[simp] theorem State.setCluster_host (j : Nat) (x : Cluster) : (s.setCluster j x).host = s.host := rfl
@[simp] theorem State.setCluster_tray (j : Nat) (x : Cluster) : (s.setCluster j x).tray = s.tray := rfl
@[simp] theorem State.setCluster_up (j : Nat) (x : Cluster) : (s.setCluster j x).up = s.up := rfl
@[simp] theorem State.setCluster_cool (j : Nat) (x : Cluster) : (s.setCluster j x).cool = s.cool := rfl
@[simp] theorem State.setCluster_tap (j : Nat) (x : Cluster) : (s.setCluster j x).tap = s.tap := rfl

/-! setPort -/

@[simp] theorem State.setPort_pending (p : Nat) (x : Port) : (s.setPort p x).pending = s.pending := rfl
@[simp] theorem State.setPort_free (p : Nat) (x : Port) : (s.setPort p x).free = s.free := rfl
@[simp] theorem State.setPort_out (p : Nat) (x : Port) : (s.setPort p x).out = s.out := rfl
@[simp] theorem State.setPort_lt (p : Nat) (x : Port) : (s.setPort p x).lt = s.lt := rfl
@[simp] theorem State.setPort_svc (p : Nat) (x : Port) : (s.setPort p x).svc = s.svc := rfl
@[simp] theorem State.setPort_degrade (p : Nat) (x : Port) : (s.setPort p x).degrade = s.degrade := rfl
@[simp] theorem State.setPort_grid (p : Nat) (x : Port) : (s.setPort p x).grid = s.grid := rfl
@[simp] theorem State.setPort_cores (p : Nat) (x : Port) : (s.setPort p x).cores = s.cores := rfl
@[simp] theorem State.setPort_slots (p : Nat) (x : Port) : (s.setPort p x).slots = s.slots := rfl
@[simp] theorem State.setPort_parts (p : Nat) (x : Port) : (s.setPort p x).parts = s.parts := rfl
@[simp] theorem State.setPort_rt (p : Nat) (x : Port) : (s.setPort p x).rt = s.rt := rfl
@[simp] theorem State.setPort_mem (p : Nat) (x : Port) : (s.setPort p x).mem = s.mem := rfl
@[simp] theorem State.setPort_mesh (p : Nat) (x : Port) : (s.setPort p x).mesh = s.mesh := rfl
@[simp] theorem State.setPort_reg (p : Nat) (x : Port) : (s.setPort p x).reg = s.reg := rfl
@[simp] theorem State.setPort_pwr (p : Nat) (x : Port) : (s.setPort p x).pwr = s.pwr := rfl
@[simp] theorem State.setPort_feed (p : Nat) (x : Port) : (s.setPort p x).feed = s.feed := rfl
@[simp] theorem State.setPort_draw (p : Nat) (x : Port) : (s.setPort p x).draw = s.draw := rfl
@[simp] theorem State.setPort_carts (p : Nat) (x : Port) : (s.setPort p x).carts = s.carts := rfl
@[simp] theorem State.setPort_ptc (p : Nat) (x : Port) : (s.setPort p x).ptc = s.ptc := rfl
@[simp] theorem State.setPort_rst (p : Nat) (x : Port) : (s.setPort p x).rst = s.rst := rfl
@[simp] theorem State.setPort_recorder (p : Nat) (x : Port) : (s.setPort p x).recorder = s.recorder := rfl
@[simp] theorem State.setPort_host (p : Nat) (x : Port) : (s.setPort p x).host = s.host := rfl
@[simp] theorem State.setPort_tray (p : Nat) (x : Port) : (s.setPort p x).tray = s.tray := rfl
@[simp] theorem State.setPort_up (p : Nat) (x : Port) : (s.setPort p x).up = s.up := rfl
@[simp] theorem State.setPort_cool (p : Nat) (x : Port) : (s.setPort p x).cool = s.cool := rfl
@[simp] theorem State.setPort_tap (p : Nat) (x : Port) : (s.setPort p x).tap = s.tap := rfl

/-! modCore -/

@[simp] theorem State.modCore_pending (k : Nat) (f : Core → Core) : (s.modCore k f).pending = s.pending := rfl
@[simp] theorem State.modCore_free (k : Nat) (f : Core → Core) : (s.modCore k f).free = s.free := rfl
@[simp] theorem State.modCore_out (k : Nat) (f : Core → Core) : (s.modCore k f).out = s.out := rfl
@[simp] theorem State.modCore_lt (k : Nat) (f : Core → Core) : (s.modCore k f).lt = s.lt := rfl
@[simp] theorem State.modCore_svc (k : Nat) (f : Core → Core) : (s.modCore k f).svc = s.svc := rfl
@[simp] theorem State.modCore_degrade (k : Nat) (f : Core → Core) : (s.modCore k f).degrade = s.degrade := rfl
@[simp] theorem State.modCore_grid (k : Nat) (f : Core → Core) : (s.modCore k f).grid = s.grid := rfl
@[simp] theorem State.modCore_slots (k : Nat) (f : Core → Core) : (s.modCore k f).slots = s.slots := rfl
@[simp] theorem State.modCore_parts (k : Nat) (f : Core → Core) : (s.modCore k f).parts = s.parts := rfl
@[simp] theorem State.modCore_rt (k : Nat) (f : Core → Core) : (s.modCore k f).rt = s.rt := rfl
@[simp] theorem State.modCore_fab (k : Nat) (f : Core → Core) : (s.modCore k f).fab = s.fab := rfl
@[simp] theorem State.modCore_mem (k : Nat) (f : Core → Core) : (s.modCore k f).mem = s.mem := rfl
@[simp] theorem State.modCore_mesh (k : Nat) (f : Core → Core) : (s.modCore k f).mesh = s.mesh := rfl
@[simp] theorem State.modCore_reg (k : Nat) (f : Core → Core) : (s.modCore k f).reg = s.reg := rfl
@[simp] theorem State.modCore_pwr (k : Nat) (f : Core → Core) : (s.modCore k f).pwr = s.pwr := rfl
@[simp] theorem State.modCore_feed (k : Nat) (f : Core → Core) : (s.modCore k f).feed = s.feed := rfl
@[simp] theorem State.modCore_draw (k : Nat) (f : Core → Core) : (s.modCore k f).draw = s.draw := rfl
@[simp] theorem State.modCore_carts (k : Nat) (f : Core → Core) : (s.modCore k f).carts = s.carts := rfl
@[simp] theorem State.modCore_ptc (k : Nat) (f : Core → Core) : (s.modCore k f).ptc = s.ptc := rfl
@[simp] theorem State.modCore_rst (k : Nat) (f : Core → Core) : (s.modCore k f).rst = s.rst := rfl
@[simp] theorem State.modCore_recorder (k : Nat) (f : Core → Core) : (s.modCore k f).recorder = s.recorder := rfl
@[simp] theorem State.modCore_host (k : Nat) (f : Core → Core) : (s.modCore k f).host = s.host := rfl
@[simp] theorem State.modCore_tray (k : Nat) (f : Core → Core) : (s.modCore k f).tray = s.tray := rfl
@[simp] theorem State.modCore_up (k : Nat) (f : Core → Core) : (s.modCore k f).up = s.up := rfl
@[simp] theorem State.modCore_cool (k : Nat) (f : Core → Core) : (s.modCore k f).cool = s.cool := rfl
@[simp] theorem State.modCore_tap (k : Nat) (f : Core → Core) : (s.modCore k f).tap = s.tap := rfl

/-! modSlot -/

@[simp] theorem State.modSlot_pending (n : Nat) (f : Slot → Slot) : (s.modSlot n f).pending = s.pending := rfl
@[simp] theorem State.modSlot_free (n : Nat) (f : Slot → Slot) : (s.modSlot n f).free = s.free := rfl
@[simp] theorem State.modSlot_out (n : Nat) (f : Slot → Slot) : (s.modSlot n f).out = s.out := rfl
@[simp] theorem State.modSlot_lt (n : Nat) (f : Slot → Slot) : (s.modSlot n f).lt = s.lt := rfl
@[simp] theorem State.modSlot_svc (n : Nat) (f : Slot → Slot) : (s.modSlot n f).svc = s.svc := rfl
@[simp] theorem State.modSlot_degrade (n : Nat) (f : Slot → Slot) : (s.modSlot n f).degrade = s.degrade := rfl
@[simp] theorem State.modSlot_grid (n : Nat) (f : Slot → Slot) : (s.modSlot n f).grid = s.grid := rfl
@[simp] theorem State.modSlot_cores (n : Nat) (f : Slot → Slot) : (s.modSlot n f).cores = s.cores := rfl
@[simp] theorem State.modSlot_parts (n : Nat) (f : Slot → Slot) : (s.modSlot n f).parts = s.parts := rfl
@[simp] theorem State.modSlot_rt (n : Nat) (f : Slot → Slot) : (s.modSlot n f).rt = s.rt := rfl
@[simp] theorem State.modSlot_fab (n : Nat) (f : Slot → Slot) : (s.modSlot n f).fab = s.fab := rfl
@[simp] theorem State.modSlot_mem (n : Nat) (f : Slot → Slot) : (s.modSlot n f).mem = s.mem := rfl
@[simp] theorem State.modSlot_mesh (n : Nat) (f : Slot → Slot) : (s.modSlot n f).mesh = s.mesh := rfl
@[simp] theorem State.modSlot_reg (n : Nat) (f : Slot → Slot) : (s.modSlot n f).reg = s.reg := rfl
@[simp] theorem State.modSlot_pwr (n : Nat) (f : Slot → Slot) : (s.modSlot n f).pwr = s.pwr := rfl
@[simp] theorem State.modSlot_feed (n : Nat) (f : Slot → Slot) : (s.modSlot n f).feed = s.feed := rfl
@[simp] theorem State.modSlot_draw (n : Nat) (f : Slot → Slot) : (s.modSlot n f).draw = s.draw := rfl
@[simp] theorem State.modSlot_carts (n : Nat) (f : Slot → Slot) : (s.modSlot n f).carts = s.carts := rfl
@[simp] theorem State.modSlot_ptc (n : Nat) (f : Slot → Slot) : (s.modSlot n f).ptc = s.ptc := rfl
@[simp] theorem State.modSlot_rst (n : Nat) (f : Slot → Slot) : (s.modSlot n f).rst = s.rst := rfl
@[simp] theorem State.modSlot_recorder (n : Nat) (f : Slot → Slot) : (s.modSlot n f).recorder = s.recorder := rfl
@[simp] theorem State.modSlot_host (n : Nat) (f : Slot → Slot) : (s.modSlot n f).host = s.host := rfl
@[simp] theorem State.modSlot_tray (n : Nat) (f : Slot → Slot) : (s.modSlot n f).tray = s.tray := rfl
@[simp] theorem State.modSlot_up (n : Nat) (f : Slot → Slot) : (s.modSlot n f).up = s.up := rfl
@[simp] theorem State.modSlot_cool (n : Nat) (f : Slot → Slot) : (s.modSlot n f).cool = s.cool := rfl
@[simp] theorem State.modSlot_tap (n : Nat) (f : Slot → Slot) : (s.modSlot n f).tap = s.tap := rfl

/-! modRegion -/

@[simp] theorem State.modRegion_pending (i : Nat) (f : Region → Region) : (s.modRegion i f).pending = s.pending := rfl
@[simp] theorem State.modRegion_free (i : Nat) (f : Region → Region) : (s.modRegion i f).free = s.free := rfl
@[simp] theorem State.modRegion_out (i : Nat) (f : Region → Region) : (s.modRegion i f).out = s.out := rfl
@[simp] theorem State.modRegion_lt (i : Nat) (f : Region → Region) : (s.modRegion i f).lt = s.lt := rfl
@[simp] theorem State.modRegion_svc (i : Nat) (f : Region → Region) : (s.modRegion i f).svc = s.svc := rfl
@[simp] theorem State.modRegion_degrade (i : Nat) (f : Region → Region) : (s.modRegion i f).degrade = s.degrade := rfl
@[simp] theorem State.modRegion_grid (i : Nat) (f : Region → Region) : (s.modRegion i f).grid = s.grid := rfl
@[simp] theorem State.modRegion_cores (i : Nat) (f : Region → Region) : (s.modRegion i f).cores = s.cores := rfl
@[simp] theorem State.modRegion_slots (i : Nat) (f : Region → Region) : (s.modRegion i f).slots = s.slots := rfl
@[simp] theorem State.modRegion_parts (i : Nat) (f : Region → Region) : (s.modRegion i f).parts = s.parts := rfl
@[simp] theorem State.modRegion_rt (i : Nat) (f : Region → Region) : (s.modRegion i f).rt = s.rt := rfl
@[simp] theorem State.modRegion_fab (i : Nat) (f : Region → Region) : (s.modRegion i f).fab = s.fab := rfl
@[simp] theorem State.modRegion_mem (i : Nat) (f : Region → Region) : (s.modRegion i f).mem = s.mem := rfl
@[simp] theorem State.modRegion_mesh (i : Nat) (f : Region → Region) : (s.modRegion i f).mesh = s.mesh := rfl
@[simp] theorem State.modRegion_pwr (i : Nat) (f : Region → Region) : (s.modRegion i f).pwr = s.pwr := rfl
@[simp] theorem State.modRegion_feed (i : Nat) (f : Region → Region) : (s.modRegion i f).feed = s.feed := rfl
@[simp] theorem State.modRegion_draw (i : Nat) (f : Region → Region) : (s.modRegion i f).draw = s.draw := rfl
@[simp] theorem State.modRegion_carts (i : Nat) (f : Region → Region) : (s.modRegion i f).carts = s.carts := rfl
@[simp] theorem State.modRegion_ptc (i : Nat) (f : Region → Region) : (s.modRegion i f).ptc = s.ptc := rfl
@[simp] theorem State.modRegion_rst (i : Nat) (f : Region → Region) : (s.modRegion i f).rst = s.rst := rfl
@[simp] theorem State.modRegion_recorder (i : Nat) (f : Region → Region) : (s.modRegion i f).recorder = s.recorder := rfl
@[simp] theorem State.modRegion_host (i : Nat) (f : Region → Region) : (s.modRegion i f).host = s.host := rfl
@[simp] theorem State.modRegion_tray (i : Nat) (f : Region → Region) : (s.modRegion i f).tray = s.tray := rfl
@[simp] theorem State.modRegion_up (i : Nat) (f : Region → Region) : (s.modRegion i f).up = s.up := rfl
@[simp] theorem State.modRegion_cool (i : Nat) (f : Region → Region) : (s.modRegion i f).cool = s.cool := rfl
@[simp] theorem State.modRegion_tap (i : Nat) (f : Region → Region) : (s.modRegion i f).tap = s.tap := rfl

/-! modPort -/

@[simp] theorem State.modPort_pending (p : Nat) (f : Port → Port) : (s.modPort p f).pending = s.pending := rfl
@[simp] theorem State.modPort_free (p : Nat) (f : Port → Port) : (s.modPort p f).free = s.free := rfl
@[simp] theorem State.modPort_out (p : Nat) (f : Port → Port) : (s.modPort p f).out = s.out := rfl
@[simp] theorem State.modPort_lt (p : Nat) (f : Port → Port) : (s.modPort p f).lt = s.lt := rfl
@[simp] theorem State.modPort_svc (p : Nat) (f : Port → Port) : (s.modPort p f).svc = s.svc := rfl
@[simp] theorem State.modPort_degrade (p : Nat) (f : Port → Port) : (s.modPort p f).degrade = s.degrade := rfl
@[simp] theorem State.modPort_grid (p : Nat) (f : Port → Port) : (s.modPort p f).grid = s.grid := rfl
@[simp] theorem State.modPort_cores (p : Nat) (f : Port → Port) : (s.modPort p f).cores = s.cores := rfl
@[simp] theorem State.modPort_slots (p : Nat) (f : Port → Port) : (s.modPort p f).slots = s.slots := rfl
@[simp] theorem State.modPort_parts (p : Nat) (f : Port → Port) : (s.modPort p f).parts = s.parts := rfl
@[simp] theorem State.modPort_rt (p : Nat) (f : Port → Port) : (s.modPort p f).rt = s.rt := rfl
@[simp] theorem State.modPort_mem (p : Nat) (f : Port → Port) : (s.modPort p f).mem = s.mem := rfl
@[simp] theorem State.modPort_mesh (p : Nat) (f : Port → Port) : (s.modPort p f).mesh = s.mesh := rfl
@[simp] theorem State.modPort_reg (p : Nat) (f : Port → Port) : (s.modPort p f).reg = s.reg := rfl
@[simp] theorem State.modPort_pwr (p : Nat) (f : Port → Port) : (s.modPort p f).pwr = s.pwr := rfl
@[simp] theorem State.modPort_feed (p : Nat) (f : Port → Port) : (s.modPort p f).feed = s.feed := rfl
@[simp] theorem State.modPort_draw (p : Nat) (f : Port → Port) : (s.modPort p f).draw = s.draw := rfl
@[simp] theorem State.modPort_carts (p : Nat) (f : Port → Port) : (s.modPort p f).carts = s.carts := rfl
@[simp] theorem State.modPort_ptc (p : Nat) (f : Port → Port) : (s.modPort p f).ptc = s.ptc := rfl
@[simp] theorem State.modPort_rst (p : Nat) (f : Port → Port) : (s.modPort p f).rst = s.rst := rfl
@[simp] theorem State.modPort_recorder (p : Nat) (f : Port → Port) : (s.modPort p f).recorder = s.recorder := rfl
@[simp] theorem State.modPort_host (p : Nat) (f : Port → Port) : (s.modPort p f).host = s.host := rfl
@[simp] theorem State.modPort_tray (p : Nat) (f : Port → Port) : (s.modPort p f).tray = s.tray := rfl
@[simp] theorem State.modPort_up (p : Nat) (f : Port → Port) : (s.modPort p f).up = s.up := rfl
@[simp] theorem State.modPort_cool (p : Nat) (f : Port → Port) : (s.modPort p f).cool = s.cool := rfl
@[simp] theorem State.modPort_tap (p : Nat) (f : Port → Port) : (s.modPort p f).tap = s.tap := rfl

/-! emit -/

@[simp] theorem State.emit_pending (o : Out) : (s.emit o).pending = s.pending := rfl
@[simp] theorem State.emit_free (o : Out) : (s.emit o).free = s.free := rfl
@[simp] theorem State.emit_lt (o : Out) : (s.emit o).lt = s.lt := rfl
@[simp] theorem State.emit_svc (o : Out) : (s.emit o).svc = s.svc := rfl
@[simp] theorem State.emit_degrade (o : Out) : (s.emit o).degrade = s.degrade := rfl
@[simp] theorem State.emit_grid (o : Out) : (s.emit o).grid = s.grid := rfl
@[simp] theorem State.emit_cores (o : Out) : (s.emit o).cores = s.cores := rfl
@[simp] theorem State.emit_slots (o : Out) : (s.emit o).slots = s.slots := rfl
@[simp] theorem State.emit_parts (o : Out) : (s.emit o).parts = s.parts := rfl
@[simp] theorem State.emit_rt (o : Out) : (s.emit o).rt = s.rt := rfl
@[simp] theorem State.emit_fab (o : Out) : (s.emit o).fab = s.fab := rfl
@[simp] theorem State.emit_mem (o : Out) : (s.emit o).mem = s.mem := rfl
@[simp] theorem State.emit_mesh (o : Out) : (s.emit o).mesh = s.mesh := rfl
@[simp] theorem State.emit_reg (o : Out) : (s.emit o).reg = s.reg := rfl
@[simp] theorem State.emit_pwr (o : Out) : (s.emit o).pwr = s.pwr := rfl
@[simp] theorem State.emit_feed (o : Out) : (s.emit o).feed = s.feed := rfl
@[simp] theorem State.emit_draw (o : Out) : (s.emit o).draw = s.draw := rfl
@[simp] theorem State.emit_carts (o : Out) : (s.emit o).carts = s.carts := rfl
@[simp] theorem State.emit_ptc (o : Out) : (s.emit o).ptc = s.ptc := rfl
@[simp] theorem State.emit_rst (o : Out) : (s.emit o).rst = s.rst := rfl
@[simp] theorem State.emit_recorder (o : Out) : (s.emit o).recorder = s.recorder := rfl
@[simp] theorem State.emit_host (o : Out) : (s.emit o).host = s.host := rfl
@[simp] theorem State.emit_tray (o : Out) : (s.emit o).tray = s.tray := rfl
@[simp] theorem State.emit_up (o : Out) : (s.emit o).up = s.up := rfl
@[simp] theorem State.emit_cool (o : Out) : (s.emit o).cool = s.cool := rfl
@[simp] theorem State.emit_tap (o : Out) : (s.emit o).tap = s.tap := rfl

/-! modMem -/

@[simp] theorem State.modMem_pending (f : MemSys → MemSys) : (s.modMem f).pending = s.pending := rfl
@[simp] theorem State.modMem_free (f : MemSys → MemSys) : (s.modMem f).free = s.free := rfl
@[simp] theorem State.modMem_out (f : MemSys → MemSys) : (s.modMem f).out = s.out := rfl
@[simp] theorem State.modMem_lt (f : MemSys → MemSys) : (s.modMem f).lt = s.lt := rfl
@[simp] theorem State.modMem_svc (f : MemSys → MemSys) : (s.modMem f).svc = s.svc := rfl
@[simp] theorem State.modMem_degrade (f : MemSys → MemSys) : (s.modMem f).degrade = s.degrade := rfl
@[simp] theorem State.modMem_grid (f : MemSys → MemSys) : (s.modMem f).grid = s.grid := rfl
@[simp] theorem State.modMem_cores (f : MemSys → MemSys) : (s.modMem f).cores = s.cores := rfl
@[simp] theorem State.modMem_slots (f : MemSys → MemSys) : (s.modMem f).slots = s.slots := rfl
@[simp] theorem State.modMem_parts (f : MemSys → MemSys) : (s.modMem f).parts = s.parts := rfl
@[simp] theorem State.modMem_rt (f : MemSys → MemSys) : (s.modMem f).rt = s.rt := rfl
@[simp] theorem State.modMem_fab (f : MemSys → MemSys) : (s.modMem f).fab = s.fab := rfl
@[simp] theorem State.modMem_mesh (f : MemSys → MemSys) : (s.modMem f).mesh = s.mesh := rfl
@[simp] theorem State.modMem_reg (f : MemSys → MemSys) : (s.modMem f).reg = s.reg := rfl
@[simp] theorem State.modMem_pwr (f : MemSys → MemSys) : (s.modMem f).pwr = s.pwr := rfl
@[simp] theorem State.modMem_feed (f : MemSys → MemSys) : (s.modMem f).feed = s.feed := rfl
@[simp] theorem State.modMem_draw (f : MemSys → MemSys) : (s.modMem f).draw = s.draw := rfl
@[simp] theorem State.modMem_carts (f : MemSys → MemSys) : (s.modMem f).carts = s.carts := rfl
@[simp] theorem State.modMem_ptc (f : MemSys → MemSys) : (s.modMem f).ptc = s.ptc := rfl
@[simp] theorem State.modMem_rst (f : MemSys → MemSys) : (s.modMem f).rst = s.rst := rfl
@[simp] theorem State.modMem_recorder (f : MemSys → MemSys) : (s.modMem f).recorder = s.recorder := rfl
@[simp] theorem State.modMem_host (f : MemSys → MemSys) : (s.modMem f).host = s.host := rfl
@[simp] theorem State.modMem_tray (f : MemSys → MemSys) : (s.modMem f).tray = s.tray := rfl
@[simp] theorem State.modMem_up (f : MemSys → MemSys) : (s.modMem f).up = s.up := rfl
@[simp] theorem State.modMem_cool (f : MemSys → MemSys) : (s.modMem f).cool = s.cool := rfl
@[simp] theorem State.modMem_tap (f : MemSys → MemSys) : (s.modMem f).tap = s.tap := rfl

/-! record -/

@[simp] theorem State.record_pending (ty key : Nat) (vals : List Nat) : (s.record ty key vals).pending = s.pending := rfl
@[simp] theorem State.record_free (ty key : Nat) (vals : List Nat) : (s.record ty key vals).free = s.free := rfl
@[simp] theorem State.record_out (ty key : Nat) (vals : List Nat) : (s.record ty key vals).out = s.out := rfl
@[simp] theorem State.record_lt (ty key : Nat) (vals : List Nat) : (s.record ty key vals).lt = s.lt := rfl
@[simp] theorem State.record_svc (ty key : Nat) (vals : List Nat) : (s.record ty key vals).svc = s.svc := rfl
@[simp] theorem State.record_degrade (ty key : Nat) (vals : List Nat) : (s.record ty key vals).degrade = s.degrade := rfl
@[simp] theorem State.record_grid (ty key : Nat) (vals : List Nat) : (s.record ty key vals).grid = s.grid := rfl
@[simp] theorem State.record_cores (ty key : Nat) (vals : List Nat) : (s.record ty key vals).cores = s.cores := rfl
@[simp] theorem State.record_slots (ty key : Nat) (vals : List Nat) : (s.record ty key vals).slots = s.slots := rfl
@[simp] theorem State.record_parts (ty key : Nat) (vals : List Nat) : (s.record ty key vals).parts = s.parts := rfl
@[simp] theorem State.record_rt (ty key : Nat) (vals : List Nat) : (s.record ty key vals).rt = s.rt := rfl
@[simp] theorem State.record_fab (ty key : Nat) (vals : List Nat) : (s.record ty key vals).fab = s.fab := rfl
@[simp] theorem State.record_mem (ty key : Nat) (vals : List Nat) : (s.record ty key vals).mem = s.mem := rfl
@[simp] theorem State.record_mesh (ty key : Nat) (vals : List Nat) : (s.record ty key vals).mesh = s.mesh := rfl
@[simp] theorem State.record_reg (ty key : Nat) (vals : List Nat) : (s.record ty key vals).reg = s.reg := rfl
@[simp] theorem State.record_pwr (ty key : Nat) (vals : List Nat) : (s.record ty key vals).pwr = s.pwr := rfl
@[simp] theorem State.record_feed (ty key : Nat) (vals : List Nat) : (s.record ty key vals).feed = s.feed := rfl
@[simp] theorem State.record_draw (ty key : Nat) (vals : List Nat) : (s.record ty key vals).draw = s.draw := rfl
@[simp] theorem State.record_carts (ty key : Nat) (vals : List Nat) : (s.record ty key vals).carts = s.carts := rfl
@[simp] theorem State.record_ptc (ty key : Nat) (vals : List Nat) : (s.record ty key vals).ptc = s.ptc := rfl
@[simp] theorem State.record_rst (ty key : Nat) (vals : List Nat) : (s.record ty key vals).rst = s.rst := rfl
@[simp] theorem State.record_host (ty key : Nat) (vals : List Nat) : (s.record ty key vals).host = s.host := rfl
@[simp] theorem State.record_tray (ty key : Nat) (vals : List Nat) : (s.record ty key vals).tray = s.tray := rfl
@[simp] theorem State.record_up (ty key : Nat) (vals : List Nat) : (s.record ty key vals).up = s.up := rfl
@[simp] theorem State.record_cool (ty key : Nat) (vals : List Nat) : (s.record ty key vals).cool = s.cool := rfl
@[simp] theorem State.record_tap (ty key : Nat) (vals : List Nat) : (s.record ty key vals).tap = s.tap := rfl

/-! undefine -/

@[simp] theorem State.undefine_pending (a n : Nat) : (s.undefine a n).pending = s.pending := rfl
@[simp] theorem State.undefine_out (a n : Nat) : (s.undefine a n).out = s.out := rfl
@[simp] theorem State.undefine_lt (a n : Nat) : (s.undefine a n).lt = s.lt := rfl
@[simp] theorem State.undefine_svc (a n : Nat) : (s.undefine a n).svc = s.svc := rfl
@[simp] theorem State.undefine_degrade (a n : Nat) : (s.undefine a n).degrade = s.degrade := rfl
@[simp] theorem State.undefine_grid (a n : Nat) : (s.undefine a n).grid = s.grid := rfl
@[simp] theorem State.undefine_cores (a n : Nat) : (s.undefine a n).cores = s.cores := rfl
@[simp] theorem State.undefine_slots (a n : Nat) : (s.undefine a n).slots = s.slots := rfl
@[simp] theorem State.undefine_parts (a n : Nat) : (s.undefine a n).parts = s.parts := rfl
@[simp] theorem State.undefine_rt (a n : Nat) : (s.undefine a n).rt = s.rt := rfl
@[simp] theorem State.undefine_fab (a n : Nat) : (s.undefine a n).fab = s.fab := rfl
@[simp] theorem State.undefine_mesh (a n : Nat) : (s.undefine a n).mesh = s.mesh := rfl
@[simp] theorem State.undefine_reg (a n : Nat) : (s.undefine a n).reg = s.reg := rfl
@[simp] theorem State.undefine_pwr (a n : Nat) : (s.undefine a n).pwr = s.pwr := rfl
@[simp] theorem State.undefine_feed (a n : Nat) : (s.undefine a n).feed = s.feed := rfl
@[simp] theorem State.undefine_draw (a n : Nat) : (s.undefine a n).draw = s.draw := rfl
@[simp] theorem State.undefine_carts (a n : Nat) : (s.undefine a n).carts = s.carts := rfl
@[simp] theorem State.undefine_ptc (a n : Nat) : (s.undefine a n).ptc = s.ptc := rfl
@[simp] theorem State.undefine_rst (a n : Nat) : (s.undefine a n).rst = s.rst := rfl
@[simp] theorem State.undefine_recorder (a n : Nat) : (s.undefine a n).recorder = s.recorder := rfl
@[simp] theorem State.undefine_host (a n : Nat) : (s.undefine a n).host = s.host := rfl
@[simp] theorem State.undefine_tray (a n : Nat) : (s.undefine a n).tray = s.tray := rfl
@[simp] theorem State.undefine_up (a n : Nat) : (s.undefine a n).up = s.up := rfl
@[simp] theorem State.undefine_cool (a n : Nat) : (s.undefine a n).cool = s.cool := rfl
@[simp] theorem State.undefine_tap (a n : Nat) : (s.undefine a n).tap = s.tap := rfl

/-! What the update wrote. -/

@[simp] theorem State.core_setCore (k j : Nat) (c : Core) : (s.setCore k c).core j = if j = k then c else s.core j := by
  simp [State.core, State.setCore, Tbl.get_set]
@[simp] theorem State.slot_setSlot (n m : Nat) (x : Slot) : (s.setSlot n x).slot m = if m = n then x else s.slot m := by
  simp [State.slot, State.setSlot, Tbl.get_set]
@[simp] theorem State.part_setPart (k j : Nat) (x : Part) : (s.setPart k x).part j = if j = k then x else s.part j := by
  simp [State.part, State.setPart, Tbl.get_set]
@[simp] theorem State.region_setRegion (i j : Nat) (x : Region) : (s.setRegion i x).region j = if j = i then x else s.region j := by
  simp [State.region, State.setRegion, Tbl.get_set]
@[simp] theorem State.cluster_setCluster (i j : Nat) (x : Cluster) : (s.setCluster i x).cluster j = if j = i then x else s.cluster j := by
  simp [State.cluster, State.setCluster, Tbl.get_set]
@[simp] theorem State.port_setPort (p q : Nat) (x : Port) : (s.setPort p x).port q = if q = p then x else s.port q := by
  simp [State.port, State.setPort, Tbl.get_set]
@[simp] theorem State.slot_setCore (k : Nat) (c : Core) (n : Nat) : (s.setCore k c).slot n = s.slot n := rfl
@[simp] theorem State.core_setSlot (n : Nat) (x : Slot) (k : Nat) : (s.setSlot n x).core k = s.core k := rfl
@[simp] theorem State.region_setCore (k : Nat) (c : Core) (i : Nat) : (s.setCore k c).region i = s.region i := rfl
@[simp] theorem State.region_setSlot (n : Nat) (x : Slot) (i : Nat) : (s.setSlot n x).region i = s.region i := rfl
@[simp] theorem State.port_setSlot (n : Nat) (x : Slot) (p : Nat) : (s.setSlot n x).port p = s.port p := rfl
@[simp] theorem State.emit_out (o : Out) : (s.emit o).out = o :: s.out := rfl
@[simp] theorem State.modMem_mem (f : MemSys → MemSys) : (s.modMem f).mem = f s.mem := rfl

/-- A keep register reads as written, and another as before, while its count is below the limit (R541). -/
theorem State.keep_keepWrite (off j : Nat) (v : BitVec 64) :
    (s.keepWrite off v).keep j = if s.keepLimited off = false ∧ j = off then v else s.keep j := by
  unfold State.keepWrite
  cases h : s.keepLimited off
  · simp [State.keep, Tbl.get_set]
  · simp [State.keep]

end Sys2Proof.Machine
end

