-- ==== Sys2Proof/Laws/Only.lean ====
section
/-! SUPPORT. Which components the shared operations can change: one lemma per operation, and the rules that put them together. -/

namespace Sys2Proof.Machine

variable {cs ds : List Comp} {s t u : State}

/-! The rules. -/

theorem sameComp.trans {c : Comp} (h : sameComp s t c) (g : sameComp t u c) : sameComp s u c := by
  cases c <;> simp_all [sameComp]

@[simp] theorem OnlyChanges.refl (cs : List Comp) (s : State) : OnlyChanges cs s s := by
  intro c _
  cases c <;> simp [sameComp]

theorem OnlyChanges.trans (h : OnlyChanges cs s t) (g : OnlyChanges cs t u) : OnlyChanges cs s u :=
  fun c hc => (h c hc).trans (g c hc)

/-- A change within a list is one within a longer list. -/
theorem OnlyChanges.mono (h : OnlyChanges cs s t) (hsub : cs ⊆ ds) : OnlyChanges ds s t :=
  fun c hc => h c fun hm => hc (hsub hm)

theorem OnlyChanges.ite {p : Prop} [Decidable p] (h : p → OnlyChanges cs s t) (g : ¬ p → OnlyChanges cs s u) :
    OnlyChanges cs s (if p then t else u) := by
  split
  · exact h ‹_›
  · exact g ‹_›

/-- A fold of changes within a list is one. -/
theorem OnlyChanges.foldl {α : Type} {f : State → α → State} (hf : ∀ s a, OnlyChanges cs s (f s a)) (l : List α) (s : State) :
    OnlyChanges cs s (l.foldl f s) := by
  induction l generalizing s with
  | nil => exact OnlyChanges.refl cs s
  | cons a l ih => exact (hf s a).trans (ih (f s a))

/-! One component. -/

theorem setCore_only (k : Nat) (c : Core) : OnlyChanges [.cores] s (s.setCore k c) := by intro c h; cases c <;> simp_all [sameComp]
theorem setSlot_only (n : Nat) (x : Slot) : OnlyChanges [.slots] s (s.setSlot n x) := by intro c h; cases c <;> simp_all [sameComp]
theorem setPart_only (k : Nat) (x : Part) : OnlyChanges [.parts] s (s.setPart k x) := by intro c h; cases c <;> simp_all [sameComp]
theorem setRegion_only (i : Nat) (x : Region) : OnlyChanges [.reg] s (s.setRegion i x) := by intro c h; cases c <;> simp_all [sameComp]
theorem setCluster_only (j : Nat) (x : Cluster) : OnlyChanges [.reg] s (s.setCluster j x) := by intro c h; cases c <;> simp_all [sameComp]
theorem setPort_only (p : Nat) (x : Port) : OnlyChanges [.fab] s (s.setPort p x) := by intro c h; cases c <;> simp_all [sameComp]
theorem emit_only (o : Out) : OnlyChanges [.out] s (s.emit o) := by intro c h; cases c <;> simp_all [sameComp]
theorem modMem_only (f : MemSys → MemSys) : OnlyChanges [.mem] s (s.modMem f) := by intro c h; cases c <;> simp_all [sameComp]
theorem record_only (ty key : Nat) (vals : List Nat) : OnlyChanges [.recorder] s (s.record ty key vals) := by
  intro c h; cases c <;> simp_all [sameComp]
theorem undefine_only (a n : Nat) : OnlyChanges [.mem, .free] s (s.undefine a n) := by intro c h; cases c <;> simp_all [sameComp]
theorem host_only (h : HostIf) : OnlyChanges [.host] s { s with host := h } := by intro c h; cases c <;> simp_all [sameComp]
theorem tray_only (y : Tray) : OnlyChanges [.tray] s { s with tray := y } := by intro c h; cases c <;> simp_all [sameComp]
theorem fab_only (f : Fabric) : OnlyChanges [.fab] s { s with fab := f } := by intro c h; cases c <;> simp_all [sameComp]
theorem rst_only (r : Rst) : OnlyChanges [.rst] s { s with rst := r } := by intro c h; cases c <;> simp_all [sameComp]
theorem up_only (b : BringUp) : OnlyChanges [.up] s { s with up := b } := by intro c h; cases c <;> simp_all [sameComp]
theorem modDraw_only (f : Draw → Draw) : OnlyChanges [.draw] s (s.modDraw f) := by intro c h; cases c <;> simp_all [sameComp, State.modDraw]
theorem free_only (n : Nat) : OnlyChanges [.free] s { s with free := n } := by intro c h; cases c <;> simp_all [sameComp]

theorem modCores_only (ks : List Nat) (f : Core → Core) : OnlyChanges [.cores] s (s.modCores ks f) :=
  OnlyChanges.foldl (fun s k => setCore_only (s := s) k _) ks s

theorem modRegions_only (is : List Nat) (f : Region → Region) : OnlyChanges [.reg] s (s.modRegions is f) :=
  OnlyChanges.foldl (fun s i => setRegion_only (s := s) i _) is s

/-! Interrupts, keep registers, denials. -/

theorem msix_only (f k : Nat) : OnlyChanges [.host, .out] s (s.msix f k) := by
  unfold State.msix
  dsimp only
  split
  · split
    · exact (host_only _).mono (by decide)
    · exact (emit_only _).mono (by decide)
  · exact OnlyChanges.refl _ _

theorem raise_only (f k : Nat) (n : Option Nat) : OnlyChanges [.host, .out] s (s.raise f k n) := by
  unfold State.raise
  dsimp only
  split
  · exact ((host_only (s := s) _).mono (by decide)).trans (msix_only f k)
  · exact (host_only _).mono (by decide)

theorem raiseSlot_only (k n : Nat) : OnlyChanges [.host, .out] s (s.raiseSlot k n) := by
  unfold State.raiseSlot
  dsimp only
  split
  · exact raise_only _ _ _
  · exact (raise_only (s := s) _ _ _).trans (raise_only _ _ _)

/-- A kept write changes its register and its count, or, at the limit, only the recorder (R541). -/
theorem keepWrite_only (off : Nat) (v : BitVec 64) : OnlyChanges [.host, .recorder] s (s.keepWrite off v) := by
  unfold State.keepWrite
  split
  · exact (record_only _ _ _).mono (by decide)
  · exact (host_only _).mono (by decide)

theorem deny_only (fn win event off : Nat) (w : Bool) : OnlyChanges [.host, .recorder] s (s.deny fn win event off w) := by
  unfold State.deny
  exact ((host_only (s := s) _).mono (by decide)).trans ((record_only _ _ _).mono (by decide))

theorem recordOpen_only (vals : List Nat) : OnlyChanges [.free, .recorder] s (s.recordOpen vals) := by
  intro c h
  cases c <;> simp_all [sameComp, State.recordOpen, State.draw1]

/-! Gates: who may act. -/

theorem byHost_only {fn : Nat} {act : State → State} (h : OnlyChanges cs s (act s)) : OnlyChanges cs s (s.byHost fn act) := by
  unfold State.byHost
  exact OnlyChanges.ite (fun _ => h) fun _ => OnlyChanges.refl _ _

theorem onTray_only {act : State → State} (h : OnlyChanges cs s (act s)) : OnlyChanges cs s (s.onTray act) := by
  unfold State.onTray
  exact OnlyChanges.ite (fun _ => OnlyChanges.refl _ _) fun _ => h

/-- A gated register: the physical function's write acts, a virtual function's is denied (R345). -/
theorem gated_only {fn off : Nat} {act : State → State} (h : OnlyChanges cs s (act s)) (h1 : Comp.host ∈ cs) (h2 : Comp.recorder ∈ cs) :
    OnlyChanges cs s (s.gated fn off act) := by
  unfold State.gated
  refine byHost_only (OnlyChanges.ite (fun _ => h) fun _ => (deny_only _ _ _ _ _).mono ?_)
  intro c hc
  simp at hc
  rcases hc with rfl | rfl <;> assumption

/-- What the physical function does through a gated register is the act itself. -/
theorem gated_zero (s : State) (off : Nat) (act : State → State) (h : s.hostUp 0 = true) : s.gated 0 off act = act s := by
  simp [State.gated, State.byHost, h]

/-! The service state (R21, R27). -/

theorem unsol_only (ty : Nat) (p : List Byte) : OnlyChanges [.tray, .out] s (s.unsol ty p) := by
  unfold State.unsol
  split
  · exact ((tray_only (s := s) _).mono (by decide)).trans ((emit_only _).mono (by decide))
  · exact OnlyChanges.refl _ _

theorem tslAnswer_only (ty seq st r : Nat) (p : List Byte) : OnlyChanges [.tray, .out] s (s.tslAnswer ty seq st r p) := by
  unfold State.tslAnswer
  dsimp only
  split
  · exact ((tray_only (s := s) _).mono (by decide)).trans ((emit_only _).mono (by decide))
  · exact (tray_only _).mono (by decide)

theorem setService_only (v : Service) (d : BitVec 5) : OnlyChanges reporting s (s.setService v d) := by
  unfold State.setService
  split
  · exact OnlyChanges.refl _ _
  · refine OnlyChanges.trans (t := (({ s with svc := v, degrade := d, host := { s.host with changes := s.host.changes + 1#32 } } : State).record
        0x010 (v.code + field s.svc.code 4 4 + field d.toNat 8 8) []).raise 0 0 none) ?_ ((unsol_only _ _).mono (by decide))
    refine OnlyChanges.trans (t := ({ s with svc := v, degrade := d, host := { s.host with changes := s.host.changes + 1#32 } } : State).record
        0x010 (v.code + field s.svc.code 4 4 + field d.toNat 8 8) []) ?_ ((raise_only _ _ _).mono (by decide))
    intro c h
    cases c <;> simp_all [sameComp, reporting]

/-- What follows an event in the service state touches the service state and its reports only. -/
theorem settle_only : OnlyChanges reporting s s.settle := by
  unfold State.settle
  split
  · exact OnlyChanges.refl _ _
  · exact OnlyChanges.refl _ _
  · exact setService_only _ _
  · exact setService_only _ _
  · exact setService_only _ _
  · exact setService_only _ _

/-! The end of a context (R114, R296, R326). -/

theorem stopRotation_only (n : Nat) : OnlyChanges [.mem, .free] s (s.stopRotation n) := by
  unfold State.stopRotation
  split
  · exact ((modMem_only (s := s) _).mono (by decide)).trans (OnlyChanges.foldl (fun s _ => undefine_only (s := s) _ _) _ _)
  · exact OnlyChanges.refl _ _

theorem dropInsts_only (n : Nat) : OnlyChanges [.fab, .cores] s (s.dropInsts n) := by
  unfold State.dropInsts
  exact ((fab_only (s := s) _).mono (by decide)).trans ((modCores_only _ _).mono (by decide))

/-- Everything that the end of a context can do: its slot and cores, the reductions it held, what a rotation left undefined, and the
interrupt of its owner. -/
theorem endCtx_only (n : Nat) (dst : CtxState) (cause : Nat) (own : Bool) :
    OnlyChanges [.cores, .slots, .fab, .mem, .free, .host, .out] s (s.endCtx n dst cause own) := by
  unfold State.endCtx
  dsimp only
  split
  · refine OnlyChanges.trans (OnlyChanges.trans ((stopRotation_only (s := s) n).mono (by decide)) ?_) ((raiseSlot_only _ _).mono (by decide))
    exact (((setSlot_only _ _).mono (by decide)).trans ((modCores_only _ _).mono (by decide))).trans ((dropInsts_only n).mono (by decide))
  · refine OnlyChanges.trans ((stopRotation_only (s := s) n).mono (by decide)) ?_
    exact (((setSlot_only _ _).mono (by decide)).trans ((modCores_only _ _).mono (by decide))).trans ((dropInsts_only n).mono (by decide))

/-! Frames that leave (R248 to R257, R272). -/

theorem sendWords_only (k : Nat) (ws : List (BitVec 64)) : OnlyChanges [.out] s (s.sendWords k ws) := emit_only _

theorem sendFrame_only (k : Nat) (lseq ack : Option (BitVec 12)) (f : Frame) : OnlyChanges [.out] s (s.sendFrame k lseq ack f) :=
  (sendWords_only k _).trans (sendWords_only k _)

theorem pump_only (k n : Nat) : OnlyChanges [.fab, .out] s (s.pump k n) := by
  induction n generalizing s with
  | zero => exact OnlyChanges.refl _ _
  | succ n ih =>
    unfold State.pump
    dsimp only
    split
    · exact OnlyChanges.refl _ _
    · exact (((setPort_only (s := s) _ _).mono (by decide)).trans ((sendFrame_only _ _ _ _).mono (by decide))).trans ih

theorem sendOn_only (k : Nat) (f : Frame) : OnlyChanges [.fab, .out] s (s.sendOn k f) := by
  unfold State.sendOn
  exact ((setPort_only (s := s) _ _).mono (by decide)).trans (pump_only _ _)

theorem route_only (n home : Nat) (f : Frame) : OnlyChanges [.fab, .out] s (s.route n home f) := by
  unfold State.route
  dsimp only
  split
  · split
    · exact sendOn_only _ _
    · exact OnlyChanges.refl _ _
  · exact OnlyChanges.refl _ _

theorem abortFrames_only (n cause level : Nat) : OnlyChanges [.fab, .out] s (s.abortFrames n cause level) :=
  OnlyChanges.foldl (fun _ _ => OnlyChanges.foldl (fun _ _ => sendOn_only _ _) _ _) _ _

theorem abortDecision_only (n cause level : Nat) : OnlyChanges [.fab, .out] s (s.abortDecision n cause level) := by
  unfold State.abortDecision
  split
  · exact OnlyChanges.refl _ _
  · exact ((fab_only (s := s) _).mono (by decide)).trans (abortFrames_only _ _ _)

/-- An event that aborts a context touches what its end touches, and sends the abort frames. -/
theorem abortCtx_only (n cause level : Nat) :
    OnlyChanges [.cores, .slots, .fab, .mem, .free, .host, .out] s (s.abortCtx n cause level) := by
  unfold State.abortCtx
  split
  · exact (endCtx_only _ _ _ _).trans ((abortDecision_only _ _ _).mono (by decide))
  · exact OnlyChanges.refl _ _

theorem configRecord_only (event off : Nat) (rack : Bool) (v : Nat) : OnlyChanges [.recorder] s (s.configRecord event off rack v) :=
  record_only _ _ _

theorem badAcc_only : OnlyChanges [.host] s s.badAcc := host_only _

end Sys2Proof.Machine
end

