-- ==== Sys2Proof/Laws/Answers.lean ====
section
/-! SUPPORT. What an answer of the tray link, a new record and a denial are, once each. -/

namespace Sys2Proof.Machine

/-- R567, R568: the answer is the newest stored response and, with an ACTIVE PTC, the last frame. -/
theorem tslAnswer_answered (s : State) (ty seq st r : Nat) (p : List Byte) : Answered (s.tslAnswer ty seq st r p) ty seq st r p := by
  unfold State.tslAnswer Answered
  dsimp only
  split
  · exact ⟨by simp, by simp <;> omega, fun _ => rfl⟩
  · rename_i h
    exact ⟨by simp, by simp <;> omega, fun g => absurd g h⟩

/-- R524: an appended record is the last of the ring. -/
theorem Recorder.append_last (r : Recorder) (ty : Nat) (key : BitVec 64) (vals : List (BitVec 64)) (s : State) :
    NewRecord r ty key vals { s with recorder := r.append ty key vals } := by
  unfold NewRecord Recorder.append
  simp

/-- R345: a denied access of a function, window and offset within their fields. -/
theorem deny_denied (s : State) (fn win off : Nat) (h1 : fn < 64) (h2 : win < 3) (h3 : off < 2 ^ 48) :
    Denied s (s.deny fn win 0 off true) fn win off := by
  refine ⟨?_, deny_only _ _ _ _ _⟩
  have e1 : fn % 2 ^ 6 = fn := Nat.mod_eq_of_lt (by omega)
  have e2 : win % 2 ^ 2 = win := Nat.mod_eq_of_lt (by omega)
  have e3 : off % 2 ^ 48 = off := Nat.mod_eq_of_lt h3
  simp only [State.deny, State.record_host, field, flag1, e1, e2, e3, satAdd, if_true, Nat.shiftLeft_eq]
  have e4 : fn * 2 ^ 0 + win * 2 ^ 6 + 2 ^ 8 + off * 2 ^ 9 = fn + 64 * win + 256 + 512 * off := by omega
  rw [e4]
  congr 1

end Sys2Proof.Machine
end

