-- ==== Sys2Proof/Laws/Issue.lean ====
section
/-! SUPPORT. What a bundle of one syllable does when nothing holds it: every syllable's result follows from this and its `syl…`
definition. -/

namespace Sys2Proof.Machine

/-- Writing a core again changes nothing. -/
theorem State.setCore_free_twice (s : State) (k n : Nat) (c : Core) :
    ({ (s.setCore k c) with free := n }).setCore k c = { (s.setCore k c) with free := n } := by
  simp [State.setCore, Tbl.set_set_same]

/-- R490: a change of a slot that is then progress is one change. -/
theorem State.modSlot_progress (s : State) (n : Nat) (f : Slot → Slot) (h : f (s.slot n) ≠ Slot.reset) :
    (s.modSlot n f).progress n = s.modSlot n fun x => { f x with pw := { (f x).pw with idleMs := 0, expired := false } } := by
  simp only [State.progress, State.modSlot, State.setSlot, State.slot, Tbl.get_set_same]
  simp only [State.slot] at h
  rw [Tbl.set_set _ _ _ _ _ h]

/-- What follows a bundle that emits nothing and faults nowhere: it counts, and is progress. -/
theorem State.settleCore_quiet (S : State) (k : Nat) (before c : Core) (r : Resident)
    (hS : S.core k = c) (hid : S.setCore k c = S)
    (hr : c.res = some r) (he : c.emit = []) (ho : c.outbound = []) (hc : c.contribs = []) (hh : c.hint = none)
    (hf : c.fault = none) (hi : c.issued ≠ before.issued) :
    S.settleCore k before =
      S.modSlot r.slot fun x =>
        { x with pw := { x.pw with bundles := x.pw.bundles + 1, idleMs := 0, expired := false } } := by
  have e1 : ({ c with emit := [] } : Core) = c := by rw [← he]
  have e2 : ({ c with outbound := [] } : Core) = c := by rw [← ho]
  have e3 : ({ c with contribs := [] } : Core) = c := by rw [← hc]
  have h1 : (S.modCore k fun c => { c with emit := [] }) = S := by simp only [State.modCore, hS, e1, hid]
  have h2 : S.sendOut k r.slot = S := by
    simp only [State.sendOut, State.modCore, hS, ho, List.filter_nil, e2, hid, State.postAll, List.foldl_nil]
  have h3 : S.contribute k r.slot [] = S := by simp only [State.contribute, State.modCore, hS, e3, hid]
  have h4 : S.takeHint k = S := by simp only [State.takeHint, hS, hh]
  unfold State.settleCore
  simp only [hS, hr, he, hc, h1, State.postAll, List.foldl_nil, h2, h3, h4, hf, hi, if_false, Option.isSome_none, Bool.false_eq_true, false_and]
  rw [State.modSlot_progress]
  intro h
  have := congrArg (fun x => x.pw.bundles) h
  simp [Slot.reset, Progress.reset] at this

/-- A change of one core that issues a bundle and emits nothing. -/
theorem State.onCore_quiet (s : State) (k : Nat) (f : Env → Core → Core) (c : Core) (r : Resident) (hfc : f (s.env k) (s.core k) = c)
    (hr : c.res = some r) (hs : r.slot = s.slotOf k) (he : c.emit = []) (ho : c.outbound = []) (hc : c.contribs = []) (hh : c.hint = none)
    (hf : c.fault = none) (hi : c.issued ≠ (s.core k).issued) :
    s.onCore k f = s.issued k c := by
  unfold State.onCore State.issued
  simp only [hfc]
  rw [State.settleCore_quiet _ k (s.core k) c r (by simp [State.core, State.setCore]) (State.setCore_free_twice s k (s.free + 1) c) hr he ho hc hh hf hi, hs]

/-- The core with the one syllable of its bundle gathered: what its effect reads. -/
def Core.gathered (c : Core) (i : Instr) : Core := { c with bundle := [i], holding := true }

/-- One syllable that nothing holds: the attempt issues it. -/
theorem Core.present_one (e : Env) (c : Core) (i : Instr) (iss : Issue) (y : Syl) (hy : sylOf i = some y)
    (hrun : c.running = true) (hh : c.holding = false) (hb : c.bundle = []) (hl : iss.last = true)
    (h1 : e.hold = false) (h2 : e.permitted = true) (h3 : e.clockChange = false) (hfw : c.fetchWait = 0) (hff : fetchFault c = none)
    (hdf : c.deferred = none) (ha : y.active c = true) (hbit : bitFault [y] y = none)
    (hfault : y.fault e (c.gathered i) = none) (hdep : y.dep (c.gathered i) = false)
    (hwait : y.wait e (c.gathered i) = false) (hbusy : y.busy e (c.gathered i) = false) :
    c.present e i iss = y.act e (c.gathered i) c.advance := by
  have hact : y.active (c.gathered i) = true := ha
  have hff' : fetchFault (c.gathered i) = none := hff
  have hdf' : (c.gathered i).deferred = none := hdf
  have hfw' : (c.gathered i).fetchWait = 0 := hfw
  have hadv : (c.gathered i).advance = c.advance := rfl
  have hsyl : (c.gathered i).syls = [y] := by simp [Core.syls, Core.gathered, hy]
  have hg : ({ c with bundle := insertSyl i iss.slot c.bundle, holding := iss.last } : Core) = c.gathered i := by
    simp [Core.gathered, hb, hl, insertSyl]
  have hp : c.present e i iss = (c.gathered i).attempt e [y] := by
    unfold Core.present
    rw [if_neg (by simp [hrun, hh])]
    dsimp only
    rw [hg, if_pos hl, hsyl]
  rw [hp]
  generalize c.gathered i = d at *
  unfold Core.attempt Core.stallCause Core.able Core.live
  simp only [hfw', Nat.lt_irrefl, Option.isSome_none, h1, h2, h3, hff', hdf', hbit, hact, hdep, hwait, hbusy, hfault, List.filter, List.any, Bool.not_true, Bool.or_self,
    Bool.false_eq_true, if_false, Option.isNone_none, Bool.and_self, firstFault, sylFault, List.findSome?, if_true,
    Option.or, Option.map_none, Core.issueAll, hadv, List.foldl]

/-- A syllable that nothing holds issues, and its effect is all that changes on the core. -/
theorem syllable_issues (s : State) (i : Instr) (iss : Issue) (y : Syl) (c : Core) (hy : sylOf i = some y) (hr : Ready s iss)
    (ha : y.active (s.core iss.core) = true) (hbit : bitFault [y] y = none)
    (hfault : y.fault (s.env iss.core) ((s.core iss.core).gathered i) = none)
    (hdep : y.dep ((s.core iss.core).gathered i) = false)
    (hwait : y.wait (s.env iss.core) ((s.core iss.core).gathered i) = false)
    (hbusy : y.busy (s.env iss.core) ((s.core iss.core).gathered i) = false)
    (hc : y.act (s.env iss.core) ((s.core iss.core).gathered i) (s.core iss.core).advance = c)
    (hq : c.res = (s.core iss.core).res ∧ c.emit = [] ∧ c.outbound = [] ∧ c.contribs = [] ∧ c.hint = none ∧
      c.fault = none ∧ c.issued = (s.core iss.core).issued + 1#48) :
    s.syllable i iss = s.issued iss.core c := by
  obtain ⟨r0, r1, r2, r3, r4, r5, r6, r7, rw, r8, r9, -⟩ := hr
  obtain ⟨q1, q2, q3, q4, q5, q6, q7⟩ := hq
  obtain ⟨r, hres⟩ : ∃ r, (s.core iss.core).res = some r := by
    unfold State.coreRuns at r0
    split at r0
    · exact ⟨_, by assumption⟩
    · cases r0
  unfold State.syllable
  rw [r0, if_pos rfl]
  refine State.onCore_quiet s _ _ c r ?_ (q1.trans hres) (by simp [State.slotOf, hres]) q2 q3 q4 q5 q6 ?_
  · rw [Core.present_one _ _ i iss y hy r1 r2 r3 r4 r5 r6 r7 rw r8 r9 ha hbit hfault hdep hwait hbusy, hc]
  · rw [q7]
    intro h
    bv_omega

/-- A core that runs has no fault. -/
theorem Core.running_fault {c : Core} (h : c.running = true) : c.fault = none := by
  simp [Core.running] at h
  simpa using h.1.1.2

end Sys2Proof.Machine
end

