-- ==== Sys2Proof/Laws/Memory.lean ====
section
/-! SUPPORT. The laws of byte memories: what a read gives after a write, and that every operation keeps the canonical form. -/

namespace Sys2Proof.Machine

@[simp] theorem Mem.read8_write8 (m : Mem) (a x : Nat) (b : Byte) :
    Mem.read8 (Mem.write8 m a b) x = if x = a then b else Mem.read8 m x := by
  simp [Mem.read8, Mem.write8, Tbl.get_set]

/-- A byte after a write of several: the byte written where the write reaches, the old one elsewhere. -/
theorem Mem.read8_write (bs : List Byte) (m : Mem) (a x : Nat) :
    Mem.read8 (Mem.write m a bs) x = if a ≤ x ∧ x < a + bs.length then bs.getD (x - a) 0#8 else Mem.read8 m x := by
  induction bs generalizing m a with
  | nil =>
    have h : ¬ (a ≤ x ∧ x < a + ([] : List Byte).length) := by simp
    rw [if_neg h, Mem.write]
  | cons b bs ih =>
    rw [Mem.write, ih, Mem.read8_write8]
    by_cases h0 : x = a
    · subst h0
      simp <;> omega
    · by_cases h1 : a ≤ x ∧ x < a + (b :: bs).length
      · have h2 : a + 1 ≤ x ∧ x < a + 1 + bs.length := by simp at h1; omega
        have h3 : x - a = (x - (a + 1)) + 1 := by omega
        rw [if_pos h2, if_pos h1, h3, List.getD_cons_succ]
      · have h2 : ¬ (a + 1 ≤ x ∧ x < a + 1 + bs.length) := by simp at h1; omega
        rw [if_neg h2, if_neg h1, if_neg h0]

/-- Bytes outside a write read as before. -/
theorem Mem.read8_write_outside (bs : List Byte) (m : Mem) (a x : Nat) (h : x < a ∨ a + bs.length ≤ x) :
    Mem.read8 (Mem.write m a bs) x = Mem.read8 m x := by
  rw [Mem.read8_write, if_neg (by omega)]

@[simp] theorem Mem.length_read (m : Mem) (a n : Nat) : (Mem.read m a n).length = n := by
  induction n generalizing a with
  | zero => rfl
  | succ n ih => simp [Mem.read, ih]

theorem Mem.read_getD (m : Mem) (a n i : Nat) (h : i < n) : (Mem.read m a n).getD i 0#8 = Mem.read8 m (a + i) := by
  induction n generalizing a i with
  | zero => omega
  | succ n ih =>
    cases i with
    | zero => simp [Mem.read]
    | succ i =>
      rw [Mem.read, List.getD_cons_succ, ih (a + 1) i (by omega)]
      congr 1
      omega

/-- A read of what was just written gives it. -/
theorem Mem.read_write (m : Mem) (a : Nat) (bs : List Byte) : Mem.read (Mem.write m a bs) a bs.length = bs := by
  apply List.ext_getElem
  · simp
  · intro i h1 h2
    have h3 := Mem.read_getD (Mem.write m a bs) a bs.length i h2
    have h4 : a ≤ a + i ∧ a + i < a + bs.length := by omega
    rw [Mem.read8_write, if_pos h4] at h3
    have h5 : (Mem.read (Mem.write m a bs) a bs.length).getD i 0#8 = (Mem.read (Mem.write m a bs) a bs.length)[i] := by
      simp [List.getD_eq_getElem?_getD, List.getElem?_eq_getElem h1]
    have h6 : bs.getD (a + i - a) 0#8 = bs[i] := by
      have : a + i - a = i := by omega
      simp [this, List.getD_eq_getElem?_getD, List.getElem?_eq_getElem h2]
    rw [← h5, h3, h6]

/-! The canonical form. -/

theorem Mem.wf_write8 (m : Mem) (a : Nat) (b : Byte) (h : Memory.wf m) : Memory.wf (Mem.write8 m a b) := Tbl.wf_set 0#8 m a b h

theorem Mem.wf_write (bs : List Byte) (m : Mem) (a : Nat) (h : Memory.wf m) : Memory.wf (Mem.write m a bs) := by
  induction bs generalizing m a with
  | nil => exact h
  | cons b bs ih => exact ih _ _ (Mem.wf_write8 m a b h)

/-- Taking entries away keeps the form. -/
theorem Tbl.wfFrom_filter {α : Type} [DecidableEq α] (d : α) (p : Nat × α → Bool) (t : Tbl α) (lo : Nat) (h : Tbl.wfFrom d lo t = true) :
    Tbl.wfFrom d lo (t.filter p) = true := by
  induction t generalizing lo with
  | nil => rfl
  | cons kv t ih =>
    obtain ⟨k, v⟩ := kv
    simp only [Tbl.wfFrom, Bool.and_eq_true, decide_eq_true_eq] at h
    by_cases hp : p (k, v) = true
    · rw [List.filter_cons_of_pos hp]
      simp only [Tbl.wfFrom, Bool.and_eq_true, decide_eq_true_eq]
      exact ⟨h.1, ih _ h.2⟩
    · rw [List.filter_cons_of_neg hp]
      exact Tbl.wfFrom_mono d (by omega) _ (ih _ h.2)

theorem Memory.wf_filter (p : Host.Cell → Bool) (m : Mem) (h : Memory.wf m) : Memory.wf (m.filter p) := Tbl.wfFrom_filter 0#8 p m 0 h

/-- The operation of the memory system that stores bytes keeps the form. -/
theorem MemSys.wf_store (m : MemSys) (a : Nat) (bs : List Byte) (h : Memory.wf m.bytes) : Memory.wf (m.store a bs).bytes :=
  Mem.wf_write bs m.bytes a h

/-! Traffic (R290, R297). -/

/-- Two states that differ in traffic counts alone. -/
def SameButTraffic (s t : State) : Prop := ∃ cs ts, t = { s with mem := { s.mem with chans := cs, t2ch := ts } }

theorem SameButTraffic.trans {s t u : State} (h : SameButTraffic s t) (k : SameButTraffic t u) : SameButTraffic s u := by
  obtain ⟨_, _, rfl⟩ := h
  obtain ⟨_, _, rfl⟩ := k
  exact ⟨_, _, rfl⟩

theorem SameButTraffic.foldl {β : Type} (f : State → β → State) (hs : ∀ s b, SameButTraffic s (f s b)) (l : List β) (s : State) :
    SameButTraffic s (l.foldl f s) := by
  induction l generalizing s with
  | nil => exact ⟨_, _, rfl⟩
  | cons b l ih => exact (hs s b).trans (ih _)

theorem State.trafficFor_counts (s : State) (a : Nat) (wr : Bool) (k : Nat) : SameButTraffic s (s.trafficFor a wr k) := by
  unfold State.trafficFor State.modChan State.pageTraffic State.modMem
  split <;> exact ⟨_, _, rfl⟩

theorem State.stripeTraffic_counts (s : State) (n : Nat) (wr : Bool) (k : Nat) : SameButTraffic s (s.stripeTraffic n wr k) := by
  unfold State.stripeTraffic
  split
  · exact ⟨_, _, rfl⟩
  · exact SameButTraffic.foldl (fun b c => b.modChan c fun x => x.moved n k wr) (fun _ _ => ⟨_, _, rfl⟩) _ _

theorem State.runTraffic_counts (s : State) (n : Nat) (wr : Bool) : SameButTraffic s (s.runTraffic n wr) := by
  unfold State.runTraffic
  split
  · exact ⟨_, _, rfl⟩
  · exact SameButTraffic.foldl (fun b c => b.pageTraffic c n wr) (fun _ _ => ⟨_, _, rfl⟩) _ _

/-- R290, R297: traffic is counted, and nothing but the counts changes. -/
theorem State.trafficSpan_counts (s : State) (a n : Nat) (wr : Bool) (k : Nat) : SameButTraffic s (s.trafficSpan a n wr k) := by
  unfold State.trafficSpan
  split
  · exact ⟨_, _, rfl⟩
  · split
    · exact (SameButTraffic.foldl (fun b g => b.trafficFor (256 * g) wr k) (fun b g => b.trafficFor_counts (256 * g) wr k) _ s).trans
        (State.stripeTraffic_counts _ _ wr k)
    · exact (SameButTraffic.foldl (fun b g => b.trafficFor (t2Base + 4096 * g) wr k) (fun b g => b.trafficFor_counts (t2Base + 4096 * g) wr k) _ s).trans
        (State.runTraffic_counts _ _ wr)

/-- The module reads tier 2 whole where no page of it holds a bad symbol. -/
theorem State.touch_clean (s : State) (a n k : Nat) (h : t1End ≤ a) (e : s.mem.err2 = []) : (s.touch a n k).1 = true := by
  obtain ⟨cs, ts, r⟩ := s.trafficSpan_counts a n false k
  simp [State.touch, r, keysIn, e, Nat.not_lt.mpr h]
end Sys2Proof.Machine
end

