-- ==== Sys2Proof/Tests/Slice0.lean ====
section
/-! SUPPORT. The model's own tests. Three parts: an ill-formed term for each check of WellFormed; results the spec gives or that follow from it
by hand, one command each; and states that meet the hypotheses of the statements (test_hyps_…), with each clause's at its boundary. -/

namespace Sys2Proof.Machine

set_option Elab.async false

/-! Builders. -/

def Test.iss (k : Fin 1728) (slot : Fin 4) : Issue := { core := k, slot, pn := 0#3, neg := false, last := true }

/-- A resident core of slot 0 at logical row 0, column 0: g1 = 7, g2 = 5. -/
def Test.core : Core :=
  { Core.reset with res := some { slot := 0, lrow := 0, lcol := 0 }, g := [(1, 7#64), (2, 5#64)], waves := 1, armed := true }

def Test.slot : Slot := { Slot.reset with state := .running, result := .ok }

/-- The module with core 0 as given and slot 0 RUNNING on it, in SERVING. -/
def Test.busy (c : Core) : State :=
  { State.reset with svc := .serving, cores := [(0, c)], slots := [(0, Test.slot)], parts := [(0, { Part.reset with valid := true })],
                     fab := { Fabric.reset with chipId := 3#8, chipValid := true } }

/-- The module in READY with the PTC A ACTIVE. -/
def Test.up : State := { State.reset with svc := .ready, ptc := { Ptc.reset with a := .active }, up := { BringUp.reset with phase := 0 } }

def Test.off : State := { State.reset with svc := .off }

/-- What a command leaves, looked at. -/
def Test.look {α : Type} (i : Sys2Proof.Instr) (s : State) (f : State → α) : Option α :=
  match exec i s with
  | .next t => some (f t)
  | _ => none

/-! The checks of WellFormed: one ill-formed term each. -/

def Test.msg : Msg :=
  { kind := .data, srcChip := 4#8, srcRow := 0#6, srcCol := 0#5, dstChip := 3#8, dstRow := 0#6, dstCol := 0#5, mbox := 0#4, gen := 0#8,
    seq := 0#16, offset := 0#12, units := 2#13, len6 := 0#6, payload := List.replicate 64 0#8 }

def Test.frame : Frame := { type := 0x01#8, vc := 1#2, dchip := 3#8, schip := 4#8, w1 := 0#64, w2 := 0#64, w3 := 0#64, payload := [] }

def Test.sample : CartSample :=
  { cells := List.replicate 14 36000, pack := 50400, cur := 0, temps := List.replicate 4 (some 25), cid := true }

theorem test_wf_payload_length : (Instr.messageDeposit { Test.msg with payload := [] }).wf = false := by decide
theorem test_wf_no_payload : (Instr.messageDeposit { Test.msg with kind := .completion }).wf = false := by decide
theorem test_wf_grant_kind : (Instr.grant { Test.msg with payload := [] }).wf = false := by decide
theorem test_wf_grantAck_kind : (Instr.grantAck { Test.msg with kind := .grant, payload := [] }).wf = false := by decide
theorem test_wf_creditReturn_kind : (Instr.creditReturn { Test.msg with kind := .grant, payload := [] }).wf = false := by decide
theorem test_wf_frame_vc : (Instr.barrier 0 { Test.frame with vc := 3#2 }).wf = false := by decide
theorem test_wf_frame_words : (Instr.frameReceive 0 true [] 0#16 0#16).wf = false := by decide
theorem test_wf_frame_units : (Instr.rcontrib 0 { Test.frame with payload := [0#8] }).wf = false := by decide
theorem test_wf_cells : (Instr.cartridgeSample { Test.sample with cells := [] } Test.sample).wf = false := by decide
theorem test_wf_thermistors : (Instr.cartridgeSample Test.sample { Test.sample with temps := [] }).wf = false := by decide
theorem test_wf_inserted : (Instr.cartridgeInsertion 0 true 1#32 { Test.sample with temps := [] }).wf = false := by decide
theorem test_wf_busy_counts : (Instr.hotWindowEnd []).wf = false := by decide
theorem test_wf_read_none : (Instr.mwRead 0 0#64 0#13).wf = false := by decide
theorem test_wf_read_long : (Instr.mwRead 0 0#64 4097#13).wf = false := by decide
theorem test_wf_write_none : (Instr.mwWrite 0 0#64 []).wf = false := by decide
theorem test_wf_record_values : (Instr.recordSubmit 0#10 0#64 (List.replicate 29 0#64) false).wf = false := by decide
theorem test_wf_bus_range : (Instr.inputStageClose 65536).wf = false := by decide
theorem test_wf_tray_payload : trayPayloadWf (List.replicate 512 0#8) = true ∧ trayPayloadWf (List.replicate 513 0#8) = false := by
  unfold trayPayloadWf
  rw [List.length_replicate, List.length_replicate]
  decide
theorem test_wf_tray_frame : trayFrameWf (List.replicate 524 0#8) = true ∧ trayFrameWf (List.replicate 525 0#8) = false := by
  unfold trayFrameWf
  rw [List.length_replicate, List.length_replicate]
  decide

/-- No row of the table gives bits: a word spells no command. -/
theorem test_no_word (n w : Nat) : decodeTableWord n w = none := rfl

/-! Results: syllables. Expected values are worked out by hand from the rows of R117 to R171. -/

/-- An operand field of the layout d [17:13], a [12:8], b [7:3], mod [2:0]. -/
def Test.op (d a b m : Nat) : BitVec 18 := BitVec.ofNat 18 (d * 8192 + a * 256 + b * 8 + m)

/-- g3 after a syllable in slot 1 on a core with g1 and g2 as given. -/
def Test.g3 (i : Issue → Instr) (a b : BitVec 64) : Option (BitVec 64) :=
  Test.look (i (Test.iss 0 1)) (Test.busy { Test.core with g := [(1, a), (2, b)] }) fun t => (t.core 0).rdG 3

theorem test_add_wraps : Test.g3 (.add · (Test.op 3 1 2 0)) 0xFFFFFFFFFFFFFFFF#64 2#64 = some 1#64 := by decide
theorem test_sub : Test.g3 (.sub · (Test.op 3 1 2 0)) 5#64 7#64 = some 0xFFFFFFFFFFFFFFFE#64 := by decide
theorem test_shift_takes_six_bits : Test.g3 (.shl · (Test.op 3 1 2 0)) 1#64 65#64 = some 2#64 := by decide
theorem test_sra_sign : Test.g3 (.sra · (Test.op 3 1 2 0)) 0x8000000000000000#64 63#64 = some 0xFFFFFFFFFFFFFFFF#64 := by decide
theorem test_mulh_signed : Test.g3 (.mulh · (Test.op 3 1 2 0)) 0xFFFFFFFFFFFFFFFF#64 2#64 = some 0xFFFFFFFFFFFFFFFF#64 := by decide
theorem test_mulhu : Test.g3 (.mulhu · (Test.op 3 1 2 0)) 0xFFFFFFFFFFFFFFFF#64 2#64 = some 1#64 := by decide
theorem test_div_by_zero : Test.g3 (.div · (Test.op 3 1 2 0)) 7#64 0#64 = some 0xFFFFFFFFFFFFFFFF#64 := by decide
theorem test_div_min : Test.g3 (.div · (Test.op 3 1 2 0)) 0x8000000000000000#64 0xFFFFFFFFFFFFFFFF#64 = some 0x8000000000000000#64 := by decide
theorem test_rem_sign : Test.g3 (.rem · (Test.op 3 1 2 0)) 0xFFFFFFFFFFFFFFF9#64 2#64 = some 0xFFFFFFFFFFFFFFFF#64 := by decide
theorem test_remu_by_zero : Test.g3 (.remu · (Test.op 3 1 2 0)) 9#64 0#64 = some 9#64 := by decide
theorem test_min_signed : Test.g3 (.min · (Test.op 3 1 2 0)) 1#64 0xFFFFFFFFFFFFFFFF#64 = some 0xFFFFFFFFFFFFFFFF#64 := by decide
theorem test_minu : Test.g3 (.minu · (Test.op 3 1 2 0)) 1#64 0xFFFFFFFFFFFFFFFF#64 = some 1#64 := by decide
theorem test_clz_zero : Test.g3 (.clz · (Test.op 3 1 0 0)) 0#64 0#64 = some 64#64 := by decide
theorem test_popc : Test.g3 (.popc · (Test.op 3 1 0 0)) 0xF0F0#64 0#64 = some 8#64 := by decide
theorem test_movi_sign : Test.g3 (.movi · (Test.op 3 31 31 7)) 0#64 0#64 = some 0xFFFFFFFFFFFFFFFF#64 := by decide

/-- 1.0 + 1.0 = 2.0, and the upper half of the destination is zero (R121). -/
theorem test_fadd : Test.g3 (.fadd · (Test.op 3 1 2 0)) 0xFFFFFFFF3F800000#64 0x3F800000#64 = some 0x40000000#64 := by decide
/-- 1.0 × 0.1 twice: 0.1 × 0.1 rounded to nearest is 0x3C23D70B. -/
theorem test_fmul_rounds : Test.g3 (.fmul · (Test.op 3 1 2 0)) 0x3DCCCCCD#64 0x3DCCCCCD#64 = some 0x3C23D70B#64 := by decide
/-- Infinity minus infinity is the canonical NaN (R32). -/
theorem test_fsub_inf : Test.g3 (.fsub · (Test.op 3 1 2 0)) 0x7F800000#64 0x7F800000#64 = some 0x7FC00000#64 := by decide
/-- −0 lies below +0 (R119). -/
theorem test_fmin_zero : Test.g3 (.fmin · (Test.op 3 1 2 0)) 0#64 0x80000000#64 = some 0x80000000#64 := by decide

/-- A byte load sign-extends; a little-endian word (R6, R123). -/
theorem test_ldB : Test.look (.ldB (Test.iss 0 1) (Test.op 3 1 0 0)) (Test.busy { Test.core with sp := [(7, 0x80#8)] })
    (fun t => (t.core 0).rdG 3) = some 0xFFFFFFFFFFFFFF80#64 := by decide
theorem test_ldW : Test.look (.ldW (Test.iss 0 1) (Test.op 3 0 0 2)) (Test.busy { Test.core with sp := [(8, 1#8), (9, 2#8)] })
    (fun t => (t.core 0).rdG 3) = some 0x201#64 := by decide
theorem test_stH : Test.look (.stH (Test.iss 0 1) (Test.op 1 0 0 3)) (Test.busy { Test.core with g := [(1, 0x1234#64)] })
    (fun t => (t.core 0).sp) = some [(6, 0x34#8), (7, 0x12#8)] := by decide
theorem test_load_range_faults : Test.look (.ldB (Test.iss 0 1) (Test.op 3 1 0 0)) (Test.busy { Test.core with g := [(1, 0x80000#64)] })
    (fun t => ((t.core 0).fault.map (·.code), (t.slot 0).state)) = some (some 0x04#8, .aborted) := by decide
theorem test_load_alignment_faults : Test.look (.ldH (Test.iss 0 1) (Test.op 3 1 0 0)) (Test.busy Test.core)
    (fun t => (t.core 0).fault.map (·.code)) = some (some 0x05#8) := by decide

theorem test_br_back : Test.look (.br (Test.iss 0 0) 0x3FFFF#18) (Test.busy { Test.core with pc := 32#64 }) (fun t => (t.core 0).pc) = some 16#64 := by
  decide
theorem test_call_links : Test.look (.call (Test.iss 0 0) 2#18) (Test.busy Test.core) (fun t => ((t.core 0).pc, (t.core 0).rdG 31)) =
    some (32#64, 16#64) := by decide
theorem test_loop_ends : Test.look (.loop (Test.iss 0 0) (Test.op 1 0 1 0)) (Test.busy { Test.core with g := [(1, 1#64)] })
    (fun t => ((t.core 0).pc, (t.core 0).rdG 1)) = some (16#64, 0#64) := by decide
theorem test_jmp_range_faults : Test.look (.jmp (Test.iss 0 0) (Test.op 0 1 0 0)) (Test.busy { Test.core with g := [(1, 0x80000#64)] })
    (fun t => (t.core 0).fault.map (·.code)) = some (some 0x06#8) := by decide
theorem test_brk : Test.look (.brk (Test.iss 0 0) 0x2A#18) (Test.busy Test.core)
    (fun t => ((t.core 0).fault.map fun f => (f.code, f.addr), (t.slot 0).cause)) = some (some (0x07#8, 42#64), 0x01#8) := by decide

/-- VADD.I on lane 0, and a lane the predicate leaves out keeps its value. -/
theorem test_vadd_lane : Test.look (.vaddI { Test.iss 0 2 with pn := 1#3 } (Test.op 3 1 2 0))
    (Test.busy { Test.core with p := [(1, 1#64)], v := [(1, 0x500000003#2048), (2, 0x600000004#2048), (3, 0x900000009#2048)] })
    (fun t => (t.core 0).rdV 3) = some 0x900000007#2048 := by decide +kernel
/-- Saturation where mod[0] is 1. -/
theorem test_vadd_saturates : Test.look (.vaddI { Test.iss 0 2 with pn := 1#3 } (Test.op 3 1 2 1))
    (Test.busy { Test.core with p := [(1, 1#64)], v := [(1, 0x7FFFFFFF#2048), (2, 1#2048)] })
    (fun t => (t.core 0).rdV 3) = some 0x7FFFFFFF#2048 := by decide +kernel
theorem test_vext_sign : Test.look (.vext (Test.iss 0 2) (Test.op 3 1 0 4)) (Test.busy { Test.core with v := [(1, 0x8000000000000000#2048)] })
    (fun t => (t.core 0).rdG 3) = some 0xFFFFFFFF80000000#64 := by decide +kernel

theorem test_hyps_syllables :
    Ready (Test.busy Test.core) (Test.iss 0 0) ∧ Ready (Test.busy Test.core) (Test.iss 0 1) ∧ Ready (Test.busy Test.core) (Test.iss 0 2) ∧
    Ready (Test.busy Test.core) (Test.iss 0 3) ∧ Ready (Test.busy Test.core) { Test.iss 0 0 with slot := 1, last := true } ∧
    Settled (Test.busy Test.core) 0 ∧ Test.core.acts (Test.iss 0 0) = true ∧ Test.core.mask (Test.iss 0 2) ≠ 0#64 := by
  try dsimp only
  repeat' apply And.intro
  all_goals decide

theorem test_hyps_integer : fMod (Test.op 31 31 0 0) = 0 ∧ fB (Test.op 31 31 0 0) = 0 ∧ (Test.iss 0 1).slot.val = 1 := by decide
/-- Every condition of CMP and FCMP, on predicates 1 and 7. -/
theorem test_hyps_compare : ∀ m < 8, ∀ d ∈ [1, 7], fMod (Test.op d 1 2 m) = m ∧ fD (Test.op d 1 2 m) = d := by decide
theorem test_hyps_movk : (Test.op 3 0 31 7).getLsbD 12 = false := by decide
theorem test_hyps_nan : (fp (Test.busy { Test.core with g := [(1, 0x7FC00000#64)] } |>.core 0 |>.rdG 1 |>.extractLsb' 0 32)).isNan = true ∧
    (fp 0x7F800000#32).isNan = false := by decide

/-- The last bytes of the scratchpad, the first beyond it, a misaligned address, and a word the code cannot correct. -/
theorem test_hyps_scratchpad :
    (0x7FFF8 % 8 = 0 ∧ 0x7FFF8 < 0x80000 ∧ Test.core.badIn 0x7FFF8 8 = none ∧ Test.core.touches 0x7FFF8 8 = false) ∧
    (0x80000 ≤ (0x80000#64).toNat) ∧ (0x7FFFF % 2 ≠ 0) ∧ ({ Test.core with spBad := [(0, true)] }.badIn 0 8).isSome = true := by decide

theorem test_hyps_jump : (Test.op 0 1 0 0) &&& 0x3E0FF#18 = 0#18 ∧ (0x7FFF0#64).toNat < 0x80000 ∧ (0x7FFF0#64).toNat % 16 = 0 ∧ 0x7FFFF % 16 ≠ 0 ∧
    0x2A#18 &&& 0x3FF00#18 = 0#18 ∧ (1#64 - 1#64 = 0#64) ∧ (0#64 - 1#64 ≠ 0#64) := by decide

theorem test_hyps_pacing :
    let s := Test.busy { Test.core with armed := false }
    (s.core 0).tried = none ∧ 0 ≤ (s.env 0).beat ∧ (s.core 0).arms = 0 ∧ 0 < (s.core 0).waves ∧ (s.core 0).aswBusy = false ∧
    Test.op 3 0 0 7 &&& 0x1FF8#18 = 0#18 ∧ (∃ r, (s.core 0).res = some r ∧ r.lrow < 64 ∧ r.lcol < 32) ∧ (s.env 0).slot < 1024 ∧
    (s.env 0).gen < 256 ∧ (s.env 0).part < 16 ∧ (s.env 0).rowIn < 64 ∧ (s.env 0).colIn < 32 ∧ (s.env 0).beat < 2 ^ 32 := by
  refine ⟨by decide, by decide, by decide, by decide, by decide, by decide, ⟨_, rfl, by decide, by decide⟩, ?_⟩
  decide

theorem test_hyps_waiting :
    let c : Core := { Test.core with waves := 0, armed := false }
    let w : Core := { Test.core with bundle := [.beatNext (Test.iss 0 0) 0#18], holding := true, tried := some 0 }
    let b : Core := { Test.core with bundle := [.beat (Test.iss 0 0) 0#18], holding := true, tried := some 0 }
    let later : State := { Test.busy w with slots := [(0, { Test.slot with step := { Test.slot.step with beat := 1 } })] }
    Ready (Test.busy c) (Test.iss 0 0) ∧ (c.armed = false ∧ c.arms = 0 ∧ c.waves = 0 ∧ c.tried = none) ∧ (Test.busy c |>.env 0).beat < (1#18).toNat ∧
    HeldReady (Test.busy w) 0 (.beatNext (Test.iss 0 0) 0#18) ∧ (Test.busy w |>.env 0).beat ≤ 0 ∧
    HeldReady later 0 (.beatNext (Test.iss 0 0) 0#18) ∧ 0 < (later.env 0).beat ∧ HeldReady (Test.busy b) 0 (.beat (Test.iss 0 0) 0#18) := by
  try dsimp only
  repeat' apply And.intro
  all_goals decide

/-- A syllable whose predicate selects nothing, an illegal one, one in a slot its group may not occupy, and a bad format. -/
theorem test_hyps_bundle :
    (∃ y, sylOf (.add { Test.iss 0 1 with neg := true } (Test.op 3 1 2 0)) = some y ∧ y.active Test.core = false ∧ y.illegal = false ∧
      slotAllowed y.group 1 = true ∧ y.badFormat = false) ∧
    (∃ y, sylOf (.add (Test.iss 0 1) (Test.op 3 1 2 1)) = some y ∧ y.illegal = true) ∧
    (∃ y, sylOf (.add (Test.iss 0 2) (Test.op 3 1 2 0)) = some y ∧ y.illegal = false ∧ slotAllowed y.group y.iss.slot.val = false) ∧
    (∃ y, sylOf (.cvt (Test.iss 0 2) 0#6 (Test.op 3 1 31 7)) = some y ∧ y.illegal = false ∧ slotAllowed y.group y.iss.slot.val = true ∧
      y.badFormat = true) ∧
    fD (Test.op 3 1 0 0) ≠ fD (Test.op 4 2 0 0) := by
  refine ⟨⟨_, rfl, by decide⟩, ⟨_, rfl, by decide⟩, ⟨_, rfl, by decide⟩, ⟨_, rfl, by decide⟩, by decide⟩

theorem test_hyps_deferred :
    let f : FaultRec := { code := 0x10#8, slot := 3, deferred := true, pc := 0#64, addr := 0#64 }
    let s := Test.busy { Test.core with deferred := some f }
    (s.core 0).fault = none ∧ f.code ≠ 0x08#8 ∧ s.coreRuns 0 = true ∧ Settled s 0 ∧ (s.core 0).emit = [] ∧ (s.core 0).hint = none := by
  try dsimp only
  repeat' apply And.intro
  all_goals decide

/-! Matrix operations, DMA and messages. -/

/-- Core 0 with one operation at the head of engine 0. -/
def Test.engine (i : Instr) (ga : BitVec 64) : State := Test.busy { Test.core with m0 := [{ op := i, ga, pc := 0#64, slot := 3 }] }

/-- MWIN writes zeros on its window (R150). -/
theorem test_mwin : Test.look (.matrixOpDone 0 0) (Test.engine (.mwin (Test.iss 0 3) 0#18) 0xFFFB#64)
    (fun t => (((t.core 0).tile 0).elem 5, (t.core 0).m0)) = some (0xFFFB0000000000000000000000000000#128, []) := by decide +kernel

theorem test_hyps_matrixQueue :
    let c := Test.core
    (c.engine 0).length < 2 ∧ c.crossBusy 0#18 { op := .mmaKaf (Test.iss 0 3) 0#18, ga := 0#64, pc := 0#64, slot := 3 } = false ∧ c.armWaits ((Test.busy c).env 0) = false ∧
    c.tileBusyMma 0 = false ∧ c.tileBusy 0 = false ∧ fmtAt 0#18 13 10 = some .fp32 ∧ fmtAt 0xCC1#18 9 6 = some .e4m3 ∧
    fmtAt 0xCC1#18 13 10 = some .e4m3 ∧ Fmt.e4m3.scalable = true ∧ Fmt.fp32.scalable = false ∧ operandBytes .fp32 false ≤ 0x80000 ∧
    operandBytes .e4m3 true ≤ 0x80000 ∧ (300#16).toInt = 300 ∧ (0xFE70#16).toInt = -400 ∧ 0#18 &&& 0x20FF#18 = 0#18 ∧ 0 + 16400 ≤ 0x80000 := by
  decide

theorem test_hyps_matrixDone :
    let s := Test.engine (.mst (Test.iss 0 3) 0#18) 0#64
    UnitReady (s.core 0) ∧ (s.core 0).engine 0 = [{ op := .mst (Test.iss 0 3) 0#18, ga := 0#64, pc := 0#64, slot := 3 }] ∧
    ((s.core 0).tile 0).bad = [] ∧ (s.core 0).badIn 0 16400 = none ∧ (s.core 0).badIn 0 (operandBytes .fp32 false) = none ∧ (s.core 0).spBad = [] := by
  try dsimp only
  repeat' apply And.intro
  all_goals decide

/-- CVT from FP32 to FP16 without scales, and from FP8 to FP8 with a scale on each side. -/
theorem test_hyps_convert : fmtAt 0x10#18 7 4 = some .fp16 ∧ fmtAt 0x10#18 3 0 = some .fp32 ∧ (0#6).getLsbD 0 = false ∧
    fmtAt 0x33#18 7 4 = some .e4m3 ∧ (0x6#6).getLsbD 1 = true ∧ (0x6#6).getLsbD 2 = true ∧ (0x6#6).getLsbD 0 = false := by decide

/-- A DMA of one 64-byte row that ends at the last byte of tier 1, and one of a page that ends at the last of tier 2. -/
theorem test_hyps_dma :
    (64 ≠ 0 ∧ 64 % 64 = 0 ∧ 64 ≤ 32768 ∧ 0 + 64 * 1 ≤ 0x80000 ∧ Test.core.dmas.length < 16 ∧ 0x9FFFFFFFC0 % 64 = 0 ∧
      0x9FFFFFFFC0 + 0 * 0 + 64 ≤ 0xA000000000) ∧
    (0x10000000000 ≤ t2TopOf 2 - 4096 ∧ (t2TopOf 2 - 4096) % 4096 = 0 ∧ t2TopOf 2 - 4096 + 4096 ≤ (Test.busy Test.core |>.env 0).t2top) ∧
    (∀ q < 8, Tbl.get 0 Test.core.dmaCnt q = 0) := by
  repeat' apply And.intro
  all_goals decide

/-- A DMA.ST of the first 64 bytes of the scratchpad to device address 0, after `moved` rows. -/
def Test.dma (moved : Nat) : Dma :=
  { store := true, gs := 0, gv := 0, rowBytes := 64, rows := 1, stride := 0, q := 0, moved, out := [], pc := 0#64, slot := 1 }

def Test.storing (d : Dma) (ext : List Extent) : State :=
  { Test.busy { Test.core with dmas := [d], sp := [(3, 9#8)] } with
    slots := [(0, { Test.slot with extents := ext })], mem := { MemSys.reset with t1Filled := true } }

/-- A row to move, one outside the layout, one that waits under level 3, and a DMA whose row has left. -/
theorem test_hyps_dmaRow :
    let s := Test.storing (Test.dma 0) [{ base := 0, len := 4096, kind := 0, wr := true }]
    let o := Test.storing (Test.dma 0) []
    let b : State := { s with mem := { s.mem with stackTab := [(0, { Stack.reset with throt := 3 })] } }
    let d := { Test.dma 1 with out := [(0, List.replicate 64 0#8)] }
    (UnitReady (s.core 0) ∧ (s.core 0).res.isSome = true ∧ (s.core 0).dmas[0]? = some (Test.dma 0)) ∧
    ((Test.dma 0).moved < (Test.dma 0).rows ∧ s.blocked 0 64 = false ∧ (s.slot 0).rowAllowed true 0 64 = true ∧ (s.core 0).badIn 0 64 = none) ∧
    b.blocked 0 64 = true ∧
    (o.blocked 0 64 = false ∧ (o.slot 0).rowAllowed true 0 64 = false ∧ (o.core 0).waiting = false ∧ (o.core 0).ended = false) ∧
    (d.rows ≤ d.moved ∧ (0 : Nat) % 64 = 0 ∧ (List.replicate 64 (0#8 : Byte)).length % 64 = 0) := by
  try dsimp only
  repeat' apply And.intro
  all_goals decide +kernel

/-- The bytes of a DMA.ST reach device memory when its counter drops (R160). -/
theorem test_dma_store_row :
    Test.look (.dmaComplete 0 0)
      (Test.storing { Test.dma 1 with out := [(0, [0#8, 0#8, 0#8, 9#8] ++ List.replicate 60 0#8)] } [{ base := 0, len := 4096, kind := 0, wr := true }])
      (fun t => t.mem.bytes) = some [(3, 9#8)] := by decide +kernel

/-- A core with a mailbox at 0x1000 whose one source is core (0, 0) of chip 4, and a credit entry toward that core. -/
def Test.boxed : Core :=
  { Test.core with desc := [(0, some { rota := false, nsrc := 0, first := 0, base := 0x1000 })],
                   srcTab := [(0, { chip := 4#8, row := 0#6, col := 0#5, share := 7 })] }

def Test.jobSlot : Slot :=
  { Test.slot with members := [{ chip := 3, gen := 0, ports := 1#18 }, { chip := 4, gen := 0, ports := 1#18 }], job := 9#16 }

def Test.job (c : Core) : State :=
  { Test.busy c with slots := [(0, Test.jobSlot)], grid := { Grid.reset with present := BitVec.allOnes 48 } }

theorem test_hyps_delivery :
    let s := Test.job Test.boxed
    let m := Test.msg
    m.dstChip = s.fab.chipId ∧ m.dstRow ≠ 63#6 ∧ s.phys 0 0 = some 0 ∧ (s.core 0).res = some { slot := 0, lrow := 0, lcol := 0 } ∧
    s.genMatches 0 m.srcChip m.gen = true ∧ s.genMatches 0 m.srcChip 1#8 = false ∧ m.srcChip ≠ s.fab.chipId ∧
    Tbl.get none (s.core 0).desc 0 = some { rota := false, nsrc := 0, first := 0, base := 0x1000 } ∧
    (s.core 0).sourceOf { rota := false, nsrc := 0, first := 0, base := 0x1000 } m = some 0 ∧ m.seq = Tbl.get 0#16 (s.core 0).expSeq 0 ∧
    placeOk (Tbl.get Mbox.reset (s.core 0).mbox 0) 0 8 m = true ∧ 32768 ≤ (0x8000#16 - Tbl.get 0#16 (s.core 0).expSeq 0).toNat := by
  try dsimp only
  repeat' apply And.intro
  all_goals decide

/-- A message of the expected number is held and its bytes are stored; a repeat of it is a duplicate. -/
theorem test_deposit : Test.look (.messageDeposit { Test.msg with payload := List.replicate 63 0#8 ++ [5#8] }) (Test.job Test.boxed)
    (fun t => ((t.core 0).sp, Tbl.get 0#16 (t.core 0).expSeq 0)) = some ([(0x103F, 5#8)], 1#16) := by decide +kernel
theorem test_duplicate : Test.look (.messageDeposit Test.msg) (Test.job { Test.boxed with expSeq := [(0, 1#16)] })
    (fun t => ((t.core 0).drop.dup, (t.core 0).mbox)) = some (1, []) := by decide +kernel

def Test.credit (n : Nat) : CreditEntry := { chip := 3#8, row := 0#6, col := 0#5, mbox := 0#4, size := 8, credits := n, wptr := 0, seq := 0#16 }

theorem test_hyps_send :
    let c : Core := { Test.core with g := [(2, 3#64)], credits := [Test.credit 1] }
    let s := Test.job c
    let p := endpointOf (c.rdG 2)
    Ready s (Test.iss 0 1) ∧ p.chip = s.fab.chipId ∧ p.chip.toNat ∈ (s.env 0).members ∧ (s.env 0).row0 ≤ p.row.toNat ∧
    p.row.toNat < (s.env 0).row0 + (s.env 0).nrows ∧ p.col.toNat < (s.env 0).col0 + (s.env 0).ncols ∧ c.badIn 0 64 = none ∧
    c.writePending 0 64 = false ∧ c.credits.find? (fun e => e.isFor p) = some (Test.credit 1) ∧ (place 1 8 1 0).2.1 ≤ 1 := by
  try dsimp only
  repeat' apply And.intro
  all_goals decide

def Test.held : HeldMsg := { src := 0, chip := 4#8, seq := 0#16, offset := 0, len6 := 0, charge := 1 }

theorem test_hyps_recv_credit :
    nextHeld { rota := false, nsrc := 0, first := 0, base := 0x1000 } { cursor := 0, held := [Test.held], opened := [] } = some Test.held ∧
    Test.op 3 0 0 0 &&& 0x1FF0#18 = 0#18 ∧ 0#18 &&& 0x3FC00#18 = 0#18 ∧ 1 ≤ [Test.held].length ∧ (∀ h ∈ [Test.held], h.src ≤ 0) ∧
    (∀ k ≤ 0, (({ Test.boxed with srcTab := [(0, { chip := 3#8, row := 0#6, col := 0#5, share := 7 })] } : Core).source
      { rota := false, nsrc := 0, first := 0, base := 0x1000 } k).chip = 3#8) := by decide

theorem test_hyps_grants :
    let s := Test.job Test.boxed
    let t := Test.job { Test.boxed with credits := [{ Test.credit 7 with chip := 4#8 }] }
    s.genMatches 0 4#8 0#8 = true ∧ (∀ e ∈ (s.core 0).credits, e.chip ≠ 4#8) ∧ (s.core 0).credits.length < 64 ∧
    (t.core 0).credits.find? (fun e => e.isFor (senderOf Test.msg)) = some { Test.credit 7 with chip := 4#8 } ∧ 7 + 1 ≤ 8 ∧
    (∀ g ∈ (s.core 0).grants, g.dstChip = s.fab.chipId) := by
  try dsimp only
  repeat' apply And.intro
  all_goals decide

/-! Reductions. -/

def Test.desc : RedDesc := { form := 0, mbox := 0, window := 0, count := 1, localN := 1, rrow := 0, rcol := 0, nbuf := 1, dest := 0x4000 }

theorem test_hyps_offload :
    let s : State := { Test.busy Test.core with slots := [(0, { Test.slot with prog := { StepProg.none with descs := [Test.desc] } })] }
    Ready s (Test.iss 0 1) ∧ (s.slot 0).prog.descs[0]? = some Test.desc ∧ (s.core 0).offloads = [] ∧ s.fab.insts.length < 4096 ∧
    (s.core 0).tileBusy 0 = false ∧ ((s.core 0).tile 0).bad = [] ∧ (s.core 0).aswBusy = false ∧ (s.core 0).badIn 0 16 = none ∧
    (s.core 0).writePending 0 16 = false := by
  try dsimp only
  repeat' apply And.intro
  all_goals decide

/-- Instances of a two-member job: chunk 0 is chip 3's, chunk 1 is chip 4's; and a final one with a credit at its receiver. -/
def Test.inst (chunk : Nat) (sent : Bool) : RedInst :=
  { slot := 0, desc := 0, chunk, count := 1, acc := [], sum := [0#128], flag := 0#8, sent, parts := [], results := [], written := none }

def Test.reducing (d : RedDesc) (x : RedInst) (members : List Member) : State :=
  let c : Core := { Test.boxed with srcTab := [(0, { chip := 3#8, row := 63#6, col := 0#5, share := 7 })] }
  { Test.job c with slots := [(0, { Test.jobSlot with prog := { StepProg.none with descs := [d] }, members })],
                    fab := { Fabric.reset with chipId := 3#8, chipValid := true, insts := [x], redCredits := [Test.credit 8] } }

theorem test_hyps_reduction :
    let two := Test.jobSlot.members
    let s := Test.reducing Test.desc (Test.inst 0 false) two
    let r := Test.reducing { Test.desc with form := 1 } (Test.inst 1 false) two
    let u := Test.reducing Test.desc (Test.inst 0 true) [{ chip := 3, gen := 0, ports := 1#18 }]
    let m := completionMsg u 0 Test.desc 0 (u.redResult Test.desc (Test.inst 0 true)).2.1 (Test.credit 8)
    let w := Test.reducing Test.desc { Test.inst 0 true with written := some 0#8 } two
    ((Test.inst 0 true).written = none ∧ (∀ y ∈ u.fab.insts, y.written = none) ∧ u.fab.owed = [] ∧ (∀ q ∈ u.cores, q.2.contribs = []) ∧
      (w.fab.insts.map (·.written)) = [some 0#8] ∧ (place 1 8 8 0).2.1 ≤ 8 ∧ 0 < (place 1 8 0 0).2.1) ∧
    s.redOwner 0 0 = s.meIdx 0 ∧ (Test.inst 0 false).count = Test.desc.localN ∧ r.redOwner 0 1 ≠ r.meIdx 0 ∧
    (u.redOwner 0 0 = u.meIdx 0 ∧ u.isFinal Test.desc (Test.inst 0 true) = true ∧
      u.fab.redCredits.find? (fun e => e.isFor (u.redEndpoint 0 Test.desc)) = some (Test.credit 8) ∧ u.redReceiver 0 Test.desc = some 0 ∧
      u.fab.held = [] ∧ m.dstRow ≠ 63#6 ∧ u.phys m.dstRow.toNat m.dstCol.toNat = some 0 ∧ u.genMatches 0 m.srcChip m.gen = true ∧
      (u.core 0).sourceOf { rota := false, nsrc := 0, first := 0, base := 0x1000 } m = some 0 ∧
      m.seq = Tbl.get 0#16 (u.core 0).expSeq (64 * m.mbox.toNat) ∧ placeOk (Tbl.get Mbox.reset (u.core 0).mbox 0) 0 8 m = true ∧
      (0x1000 + 64 * m.offset.toNat + 64 ≤ 0x4000)) := by
  try dsimp only
  repeat' apply And.intro
  all_goals decide

/-! Steps, rack time and the fabric. -/

/-- The module of Test.busy with slot 0 as given. -/
def Test.with (x : Slot) (c : Core) : State := { Test.busy c with slots := [(0, x)] }

def Test.ended : Core := { Test.core with ended := true }

/-- Cores 0 and 1 resident, core 0 ended. -/
def Test.pair : State :=
  { Test.busy Test.core with cores := [(0, Test.ended), (1, { Test.core with res := some { slot := 0, lrow := 0, lcol := 1 } })] }

def Test.locked (v : RtState) (x : Slot) : State := { Test.with x Test.core with rt := { RackTime.reset with state := v, now := 5000#64 } }

/-- The last core of a two-member job arrives: its context is at its barrier and a BARRIER frame leaves (R134, R220). -/
theorem test_arrival : Test.look (.coreArrival 0) (Test.busy Test.ended) (fun t => ((t.slot 0).step.atBarrier, (t.core 0).arrived)) =
    some (true, true) := by decide +kernel
theorem test_release : Test.look (.release 0) (Test.locked .locked { Test.slot with state := .loaded, step := { StepState.reset with pendingRel := some 5000 } })
    (fun t => ((t.slot 0).state, (t.slot 0).step.rel, (t.slot 0).step.beatLen)) = some (.running, 5000, 10000) := by decide +kernel
theorem test_early_release : Test.look (.release 0) (Test.locked .locked { Test.slot with state := .loaded, step := { StepState.reset with pendingRel := some 5001 } })
    (fun t => (t.slot 0).state) = some .loaded := by decide +kernel

theorem test_hyps_steps :
    let a := Test.pair
    let b := Test.busy Test.ended
    let x : Slot := { Test.slot with state := .loaded, step := { StepState.reset with pendingRel := some 5000 } }
    let y : Slot := { Test.slot with step := { StepState.reset with next := some (5000, 300), released := true } }
    let s := Test.locked .locked x
    ((a.core 0).res = some { slot := 0, lrow := 0, lcol := 0 } ∧ (a.slot 0).state = .running ∧ (a.core 0).ended = true ∧ (a.core 0).arrived = false ∧
      (a.core 0).quiet = true ∧ ∃ q ∈ a.coresOf 0, q ≠ 0 ∧ (a.core q).arrived = false) ∧
    ((b.slot 0).state = .running ∧ (b.core 0).quiet = true ∧ ∀ q ∈ b.coresOf 0, q ≠ 0 → (b.core q).arrived = true) ∧
    (s.mem.rotation.any (fun r => decide (r.1 = 0)) = false ∧ s.serviceUp = true ∧ x.step.released = false ∧
      5000 + s.rt.offset.toNat ≤ s.rt.now.toNat ∧ ¬ 5001 + s.rt.offset.toNat ≤ s.rt.now.toNat) ∧
    (y.parkPend ≠ some y.step.index ∧ y.step.released = true ∧ (b.coresOf 0).Nodup ∧ Test.up.ptc.hasActive = true) := by
  try dsimp only
  repeat' apply And.intro
  all_goals decide +kernel

/-- Beat and wave instants at the counter's value and one nanosecond above it, a wave 1,320 ns ahead and one no longer ahead, and a
pre-bias over. -/
theorem test_hyps_beats :
    let at_ := fun rel : Nat => { Test.locked .locked { Test.slot with step := { StepState.reset with released := true, rel } } with ptc := { Ptc.reset with a := .active } }
    let x := fun rel : Nat => ((at_ rel).slot 0).step
    ((x 0).rel + (x 0).offset + ((x 0).beat + 1) * (x 0).beatLen = 10000 ∧ ((at_ 0).rt.now.toNat < 10000)) ∧
    ({ at_ 0 with rt := { (at_ 0).rt with now := 10000#64 } } : State).rt.now.toNat = 10000 ∧
    (5000 + 0 * 2000 / 7 ≤ (at_ 0).rt.now.toNat ∧ (at_ 0).rt.now.toNat < 5001) ∧
    ((at_ 6320).ptc.hasActive = true ∧ (∃ b ∈ (at_ 6320).waveStarts 0, 5000 < b ∧ b ≤ 5000 + 1320) ∧
      (∀ b ∈ (at_ 6321).waveStarts 0, b ≤ 5000 ∨ 5000 + 1320 < b) ∧ (∀ b ∈ (at_ 5000).waveStarts 0, b ≤ 5000)) ∧
    ((∀ b ∈ (at_ 3000).waveStarts 0, b + 2000 ≤ 5000) ∧ ∃ b ∈ (at_ 3001).waveStarts 0, b ≤ 5000 + 1000 ∧ 5000 < b + 2000) := by
  try dsimp only
  repeat' apply And.intro
  all_goals decide +kernel

/-- The TIME frame of a value (R557). -/
def Test.time (v : Nat) : BitVec 100 := BitVec.ofNat 100 (0xD5 + (v + 2 ^ 64) * 2 ^ 8 + crc8 72 (v + 2 ^ 64) * 2 ^ 80)

/-- R200, R204: the sixteenth good code loads the counter; 2 ns of error is in tolerance, 1 ms is slewed, more is a jump. -/
theorem test_lock : Test.look (.timeCode (Test.time 1000) 100)
    { State.reset with rt := { RackTime.reset with state := .acquiring, good := 15, expect := some 1000#64 } }
    (fun t => (t.rt.state, t.rt.now)) = some (.locked, 1000#64) := by decide +kernel
theorem test_slew : Test.look (.timeCode (Test.time 1001000) 100)
    { State.reset with rt := { RackTime.reset with state := .holdover, good := 15, expect := some 1001000#64, now := 1000#64 } }
    (fun t => (t.rt.state, t.rt.now)) = some (.slewing, 1000#64) := by decide +kernel

theorem test_hyps_time :
    (timeWell (Test.time 2000000) = true ∧ timeRt (Test.time 2000000) = 2000000#64 ∧ timeWell (Test.time 2000000 ^^^ 1#100) = false ∧
      timeWell (Test.time 2000001) = false ∧ delayNs State.reset.tray.rtDelay = 0 ∧ State.reset.rt.delay = State.reset.tray.rtDelay) ∧
    (({ RackTime.reset with holdFrom := 0 } : RackTime).holdLimit.toNat * 1000000 ≤ 100000000 - 0 ∧ 99999999 - 0 < RackTime.reset.holdLimit.toNat * 1000000) ∧
    ((2 : Int).natAbs ≤ 2 ∧ 2 < (3 : Int).natAbs) ∧
    (∀ x ∈ [((1999998 : Int), 2), (1999997, 3), (1000000, 1000000), (999999, 1000001)], (((2000000#64).toNat : Int) - x.1).natAbs = x.2) ∧
    ({ RackTime.reset with state := .locked, bad := 2 } : RackTime).bad = 2 ∧ ({ RackTime.reset with good := 14 } : RackTime).good < 15 ∧
    Test.up.hostUp 0 = true ∧ Test.up.hostUp 63 = true ∧ RackTime.reset.state = .none := by decide +kernel

/-- Port 0 in a state of its own. -/
def Test.port (p : Port) : State := { Test.up with fab := { Fabric.reset with chipId := 3#8, chipValid := true, ports := [(0, p)] } }
def Test.upPort : Port := { Port.reset with state := .up, lanes := 0xF#4, aligned := true }
/-- The words of a grant for another chip, of sequence number 0. -/
def Test.words : List (BitVec 64) := frameWords (some 0#12) none { Test.frame with vc := 0#2, dchip := 4#8, w1 := 2#64 }

/-- Header word 0 of a DATA frame of one unit, from the places of R243: LSEQ 0, VC 1, ACKV 0, TYPE 0x01, LEN 1, DCHIP 4, SCHIP 4; a LINK_CREDIT of
R246 has every other field zero. -/
theorem test_header : headerWord (some 0#12) none { Test.frame with dchip := 4#8, payload := List.replicate 64 0#8 } = 0x0404001010001000#64 ∧ headerWord none none { Test.frame with type := 0x12#8, vc := 0#2, dchip := 0#8, schip := 0#8 } = 0x0000000120000000#64 := by
  decide +kernel
/-- R240: eight words over four lanes and over three. -/
theorem test_deal : deal 0xF#4 [0#64, 1#64, 2#64, 3#64, 4#64] = [(0, [0#64, 4#64]), (1, [1#64]), (2, [2#64]), (3, [3#64])] ∧
    deal 0xD#4 [0#64, 1#64, 2#64, 3#64] = [(0, [0#64, 3#64]), (2, [1#64]), (3, [2#64])] := by decide
/-- The CRC of nine ASCII digits, the check value of CRC-32C. -/
theorem test_crc32c : crc32c [0x31#8, 0x32#8, 0x33#8, 0x34#8, 0x35#8, 0x36#8, 0x37#8, 0x38#8, 0x39#8] = 0xE3069283#32 := by decide +kernel


theorem test_ack : Test.look (.linkAck 0 1#12) (Test.port { Test.upPort with replay := [(0#12, Test.frame), (1#12, Test.frame), (2#12, Test.frame)] })
    (fun t => (t.port 0).replay.map Prod.fst) = some [2#12] := by decide +kernel
theorem test_credit : Test.look (.linkCredit 0 5#16 0#16 1#16) (Test.port Test.upPort) (fun t => (t.port 0).credits) =
    some { c0 := 5, c1 := 0, c2 := 1 } := by decide +kernel

theorem test_hyps_link :
    let s := Test.port { Test.upPort with replay := [(0#12, Test.frame)] }
    (s.port 0).state = .up ∧ (s.port 0).queue = [] ∧ (s.port 0).stale < 7 ∧ (s.port 0).retrain = false ∧ (s.port 0).discard = false ∧
    (let r := rxFrame Test.words
     r.crcOk = true ∧ frameFormOk r = true ∧ linkControl r.frame.type = false ∧ r.lseq = (s.port 0).expLseq ∧ s.rst.drain = none ∧
      r.frame.dchip ≠ s.fab.chipId ∧ (rxFrame (1#64 :: Test.words.drop 1)).crcOk = false) ∧
    s.hostUp 0 = true ∧ s.l3Runs = false ∧ s.liveSlots = [] ∧ s.fab.chipValid = true ∧
    (s.port 0).replay ≠ [] ∧ (∀ x ∈ (s.port 0).replay, x.1 ≠ 1#12) ∧ 6 < 7 := by
  try dsimp only
  repeat' apply And.intro
  all_goals decide +kernel

theorem test_hyps_ports :
    let held : Port := { Test.upPort with retrain := true, failed := 8#4, late := [(some 0#12, Test.frame)], replay := [(0#12, Test.frame)] }
    let training := Test.port { Port.reset with aligned := true, rcvdSent := true, initGot := true }
    let fresh := Test.port { Port.reset with aligned := true }
    let down := Test.port { Port.reset with state := .down }
    let off := Test.port { Port.reset with state := .disabled }
    (training.portsTrain = true ∧ ({ State.reset with svc := .benched } : State).portsTrain = false ∧ (training.port 0).retrain = false ∧
      training.fab.chipValid = true ∧ ({ Port.reset with rcvdGot := true } : Port).rcvdGot = true ∧ held.queue = [] ∧ held.stale < 7 ∧
      (∀ n ∈ training.liveSlots, (training.slot n).members.length ≤ 1)) ∧
    (training.port 0).state = .training ∧ (training.port 0).initGot = true ∧ (training.port 0).rcvdSent = true ∧ (fresh.port 0).initGot = false ∧
    (fresh.port 0).rcvdGot = false ∧ (fresh.port 0).failed = 0#4 ∧ (down.port 0).state = .down ∧ (down.port 0).disable = false ∧
    (off.port 0).state = .disabled ∧ (Test.port { Test.upPort with retrain := true } |>.port 0).retrain = true ∧ (1#16 : BitVec 16) ≠ 0#16 := by decide

/-- The exchange brings a port UP (R251, R252). -/
theorem test_link_init : Test.look (.linkInit 0 1#16 1#16 1#16 true 1#8) (Test.port { Port.reset with aligned := true, rcvdSent := true, initGot := true })
    (fun t => (t.port 0).state) = some .up := by decide +kernel

/-- A frame of job 9 from chip 4 for step k. -/
def Test.barrier (k : Nat) : Frame := { Test.frame with type := 0x04#8, w1 := 9#64, w2 := BitVec.ofNat 64 k, w3 := 777#64 }

theorem test_barrier : Test.look (.barrier 0 (Test.barrier 0)) (Test.job Test.core) (fun t => (t.slot 0).step.arrivals) =
    some [{ member := 1, stamp := 777#64, pace := 0 }] := by decide +kernel
theorem test_abort : Test.look (.abort 0 { Test.frame with type := 0x05#8, w1 := 0x04000009#64 }) (Test.job Test.core)
    (fun t => ((t.slot 0).state, (t.slot 0).cause)) = some (.aborted, 0x04#8) := by decide +kernel

theorem test_hyps_frames :
    let s := Test.job Test.core
    let f := Test.barrier 0
    let n : State := { s with slots := [(0, { Test.jobSlot with step := { StepState.reset with index := 1 } })] }
    frameMsg { msgFrame Test.msg with type := 0x01#8 } = Test.msg ∧ s.jobSlot (f.w1.toNat % 2 ^ 16) = some 0 ∧
    (s.slot 0).memberIdx f.schip.toNat = some 1 ∧ s.genMatches 0 f.schip (BitVec.ofNat 8 (f.w1.toNat / 2 ^ 16)) = true ∧
    f.w2.toNat = (s.slot 0).step.index ∧ (Test.barrier 1).w2.toNat = (s.slot 0).step.index + 1 ∧ (s.slot 0).step.index + 1 < (Test.barrier 2).w2.toNat ∧
    f.w2.toNat < (n.slot 0).step.index ∧ n.jobSlot 9 = some 0 ∧ (s.slot 0).state = .running ∧
    (s.slot 0).member f.schip.toNat = some { chip := 4, gen := 0, ports := 1#18 } := by decide +kernel

/-- An RCONTRIB of descriptor 0, chunk 0, and an RRESULT of chunk 1, which the receiver has contributed to. -/
theorem test_hyps_reduction_frames :
    let x := Test.inst 1 true
    let s := Test.reducing Test.desc x Test.jobSlot.members
    let f := fun (ty : BitVec 8) (chunk : Nat) => { Test.frame with type := ty, w1 := BitVec.ofNat 64 (9 * 2 ^ 42 + 256 * chunk), payload := List.replicate 64 0#8 }
    ((s.redHead (f 0x02#8 0)).any fun h => decide (h.desc = Test.desc) && decide (h.part = 0) && !x.is h.key) = true ∧
    ((s.redHead (f 0x03#8 1)).any fun h => decide (h.desc = Test.desc) && x.is h.key && decide (s.redReceiver h.key.slot h.desc = some 0)) = true ∧
    s.fab.held = [] ∧ s.fab.insts = [x] ∧ x.sent = true ∧ x.results = [] ∧ Test.desc.form ≠ 2 := by decide +kernel
/-! Contexts and partitions. -/

/-- A 1 × 1 image at 0, a membership table of chip 3 at 0x1000 and a layout of one extent at 0x2000 (R210 to R214, R255, R332). -/
def Test.image : List Host.Cell :=
  [(2, 1#8), (4, 1#8), (6, 1#8), (0x18, 0x20#8), (0x19, 0x4E#8), (0x31, 1#8), (0x39, 2#8), (0x40, 1#8), (0x109, 3#8), (0x200, 1#8),
   (0x1000, 9#8), (0x1002, 1#8), (0x1010, 3#8), (0x2000, 1#8), (0x2012, 1#8), (0x201A, 1#8)]

/-- The module in READY with that image, its partition and its slot. -/
def Test.loading (mem : List Host.Cell) : State :=
  { Test.up with mem := { MemSys.reset with bytes := mem, t1Filled := true, t2Filled := true, fill := 2 }, grid := { Grid.reset with present := BitVec.allOnes 48 },
                 fab := { Fabric.reset with chipId := 3#8, chipValid := true }, parts := [(0, { Part.reset with valid := true })],
                 slots := [(0, { Slot.reset with membersAt := 0x1000#48, layoutAt := 0x2000#48, park := 0x10000000000#48 })] }

/-- A LOAD that passes the checks of R331 is BUSY, then LOADED; a gap below 20,000 is IMAGE. -/
theorem test_load : Test.look (.load 0 0) (Test.loading Test.image) (fun t => ((t.slot 0).result, (t.slot 0).job, (t.core 0).res.isSome)) =
    some (.busy, 9#16, true) := by decide +kernel
theorem test_load_refused : Test.look (.load 0 0) (Test.loading (Test.image.filter fun c => decide (c.1 ≠ 0x19)))
    (fun t => ((t.slot 0).result, (t.slot 0).reason)) = some (.invalid, 1#8) := by decide +kernel

/-- A context command's hypotheses, at slot 0 of the physical function. -/
def Test.ctx (x : Slot) : State :=
  { Test.with x Test.core with svc := .ready, rt := { RackTime.reset with state := .locked, now := 5000#64 }, ptc := { Ptc.reset with a := .active } }

theorem test_hyps_load :
    let s := Test.loading Test.image
    let b := Test.loading (Test.image.filter fun c => decide (c.1 ≠ 0x19))
    s.hostUp 0 = true ∧ (s.slot 0).result ≠ .busy ∧ s.serviceUp = true ∧ s.up.drained = false ∧ (s.slot 0).state = .free ∧ s.loadReason 0 0 = 0 ∧
    b.loadReason 0 0 ≠ 0 ∧ (s.part 0).valid = true ∧ (∀ q ∈ s.partCores 0, s.coreInReset q = false) := by decide +kernel

/-- A start 5 µs ahead is in time, one nanosecond less is late (R219). -/
theorem test_hyps_context_commands :
    let x : Slot := { Test.slot with state := .loaded, arg := 10000#64 }
    let s := Test.ctx x
    (s.hostUp 0 = true ∧ s.serviceUp = true ∧ (s.slot 0).state = .loaded ∧ s.rotating 0 = false ∧ s.inTime 10000 = true ∧ s.inTime 9999 = false) ∧
    ({ x with result := .busy } : Slot).result = .busy ∧ Test.off.serviceUp = false ∧ ({ State.reset with svc := .filling } : State).serviceUp = false ∧
    ({ State.reset with svc := .filling } : State).hostUp 0 = true ∧ x.abortable = true ∧ x.tearable = true ∧
    ({ x with state := .suspect } : Slot).tearable = true ∧ ({ x with state := .free } : Slot).abortable = false ∧ ({ x with state := .free } : Slot).tearable = false ∧
    ({ x with state := .torn } : Slot).tearable = false ∧ State.reset.svc ≠ .benched := by
  try dsimp only
  repeat' apply And.intro
  all_goals decide +kernel

theorem test_start : Test.look (.start 0 0) (Test.ctx { Test.slot with state := .loaded, arg := 9999#64 })
    (fun t => ((t.slot 0).state, (t.slot 0).cause)) = some (.aborted, 4#8) := by decide +kernel
theorem test_teardown : Test.look (.teardown 0 0) (Test.ctx Test.slot) (fun t => ((t.slot 0).state, (t.slot 0).cause, (t.slot 0).result)) =
    some (.torn, 9#8, .busy) := by decide +kernel
/-- The fence gives the cores back and the slot its next generation (R341). -/
theorem test_fence : Test.look (.teardownFence 0) (Test.ctx { Test.slot with state := .torn, gen := 0xFF#8 })
    (fun t => ((t.slot 0).state, (t.slot 0).nextGen, t.cores)) = some (.free, 0#8, []) := by decide +kernel

/-- A PARKED context whose RESTORE is BUSY. -/
def Test.parked : Slot :=
  { Test.slot with
    state := .parked, busy := some .restore, snapGood := true, park := 0x10000000000#48, step := { StepState.reset with pendingRel := some 10000 },
    snap := [{ lrow := 0, lcol := 0, core := Test.core }] }

def Test.restoring : State := { Test.ctx Test.parked with cores := [], grid := { Grid.reset with present := BitVec.allOnes 48 } }

/-- PARK at a step still to come, at the running step, at one that has passed; the snapshot, and a park area that lost a page. -/
theorem test_hyps_context_completions :
    let p : Slot := { Test.slot with busy := some .park, parkPend := some 2, step := { StepState.reset with index := 2, next := some (9000, 256) } }
    let s := Test.restoring
    (p.step.index ≤ (2#64).toNat ∧ (1#64).toNat < p.step.index ∧ (p.prog.stepCount = 0) ∧ p.snapGood = false ∧ p.step.next.isSome = true ∧
      p.parkPend = some p.step.index) ∧
    (p.members.length ≤ 1 ∧ s.dueAt 5000 = true ∧ s.dueAt 5001 = false) ∧
    ((s.slot 0).snapGood = true ∧ t1End ≤ (s.slot 0).park.toNat ∧ s.mem.err2 = [] ∧ (s.slot 0).done = false ∧ s.rotating 0 = false ∧ s.inTime 10000 = true ∧ s.phys 0 0 = some 0 ∧
      s.occupant 1 = none ∧ (∀ q ∈ s.partCores 0, s.coreInReset q = false)) ∧
    ((Test.ctx { Test.slot with state := .torn }).svc ≠ .saving ∧ ∀ q ∈ (Test.ctx { Test.slot with state := .torn }).coresOf 0,
      ((Test.ctx { Test.slot with state := .torn }).core q).cut = false) := by
  try dsimp only
  repeat' apply And.intro
  all_goals decide +kernel

theorem test_hyps_park_area : (Test.restoring.touch (Test.restoring.slot 0).park.toNat (Test.restoring.parkLen 0) 1).1 = true :=
  State.touch_clean _ _ _ _ (by decide) rfl

/-- A load with no salt, and one with a salt while no stack stands at level 3 and while one does. -/
theorem test_hyps_load_complete :
    let s := Test.ctx { Test.slot with state := .free, busy := some .load, salt := 1#32 }
    let w : State := { s with mem := { s.mem with stackTab := [(7, { Stack.reset with throt := 3 })] } }
    Test.slot.salt = 0#32 ∧ (s.slot 0).salt ≠ 0#32 ∧ s.anyStopped = false ∧ w.anyStopped = true := by decide

theorem test_restore_writes_back : ((Test.restoring.putCores 0 Test.parked.snap).core 0).rdG 1 = 7#64 := by decide +kernel

/-- Rows 0 to 47 × columns 0 to 31 fit, one more does not; a partition in use; one that overlaps; a row that is absent. -/
theorem test_hyps_partitions :
    let s := Test.loading Test.image
    let a : State := { s with grid := { Grid.reset with present := BitVec.allOnes 48 &&& ~~~1#48 } }
    let whole := partOfWord (47 * 2 ^ 8 + 31 * 2 ^ 24 + 2 ^ 32)
    (whole.row0 + whole.nrows ≤ 47 ∧ whole.col0 + whole.ncols ≤ 31) ∧ s.liveSlots.filter (fun n => (s.slot n).claims) = [] ∧
    (∀ i ≤ whole.nrows, s.rowPresent (whole.row0 + i) = true) ∧ (∃ i ≤ whole.nrows, a.rowPresent (whole.row0 + i) = false) ∧
    whole.overlaps (s.part 0) = true ∧ (∃ n ∈ (Test.busy Test.core).liveSlots, ((Test.busy Test.core).slot n).claims = true) ∧
    (s.serviceUp = true ∧ Test.off.serviceUp = false) ∧ s.keepLimited (keepRetire 0) = false ∧ ({ s with host := { s.host with keepCount := [(keepRetire 0, 200000)] } } : State).keepLimited (keepRetire 0) = true := by
  try dsimp only
  repeat' apply And.intro
  all_goals decide +kernel

theorem test_partition : Test.look (.partDefWrite 0 1 0x100000100#64) (Test.loading Test.image) (fun t => (t.part 1).result) = some 4 := by decide +kernel
theorem test_retire : Test.look (.keepRetireWrite 0 5 0x800000000#36) Test.up (fun t => t.keep (keepRetire 5)) = some 0x800000000#64 := by decide +kernel
/-! Regulators, the feed stage and the power chain. -/

def Test.on : Region := { Region.reset with enabled := true }

/-- VFEED in its window, so that the nodes have their supply. -/
def Test.fed : State := { Test.up with pwr := { Power.reset with rails := [(2, { Rail.reset with state := 1 })] } }

/-- Region 0 and cluster 0 as given, its other regions enabled, with the PTC A ACTIVE in READY. -/
def Test.reg (x : Region) (c : Cluster) : State :=
  { Test.fed with reg := { RegSys.reset with regions := [(0, x), (1, Test.on), (18, Test.on), (19, Test.on)], clusters := [(0, c)] } }

def Test.ring (dst : BitVec 9) (arg : BitVec 8) : RingFrame := { die := 0, dst, seq := 1#8, arg, slew := 4#3, flip := 0#64 }

def Test.flue (flip : BitVec 80) : FlueSample := { vout := 700#10, iout := 16#8, temp := 60#7, oc := false, flip }

/-- The check value of the CRC-8 of polynomial 0x07, and the frame of SET, SEQ 1, ARG 160, SLEW 4 to node 0, by the places of R368. -/
theorem test_ring_crc : crc8 72 0x313233343536373839 = 0xF4 ∧ ({ op := 1, seq := 1, arg := 160, slew := 4 } : RingCmd).word 0 = 0x8A00000094002200#64 := by
  decide +kernel
theorem test_ring_set : Test.look (.set (Test.ring 0#9 160#8)) Test.fed (fun t => ((t.region 0).target, (t.region 0).slew, (t.region 0).nodeResp, t.out)) =
    some (160, 4, none, [.ring 0 0x8A00000094002200#64]) := by decide +kernel
/-- RESP 2 in bits [23:21] of the response. -/
theorem test_ring_refuses : Test.look (.set (Test.ring 0#9 161#8)) Test.fed (fun t => ((t.region 0).target, match t.out with
    | .ring 0 w :: _ => w.toNat / 2 ^ 21 % 8
    | _ => 0)) = some (0, 2) := by decide +kernel
/-- Ramp that meets its limit at code 90: RESP 1 and VCODE 90. -/
theorem test_settled : Test.look (.setpointSettled 0 (some 90)) (Test.reg { Region.reset with ramping := some ⟨1, 1, 96, 0⟩ } Cluster.reset)
    (fun t => ((t.region 0).setpt, (t.region 0).nodeResp.map fun w => (w.toNat / 2 ^ 21 % 8, w.toNat / 2 ^ 24 % 256))) = some (90, some (1, 90)) := by
  decide +kernel

/-- A fresh SEQ and a repeated one; the last value of each argument, and the first beyond it; a frame with a bit inverted, a region of the
other die, a node with no supply. -/
theorem test_hyps_ring :
    let s := Test.reg { Region.reset with nodeLast := some ⟨7, 5, 0, 0⟩ } Cluster.reset
    ((s.region 0).nodeLast.map RingCmd.seq = some (5#8).toNat ∧ (s.region 0).nodeLast.map RingCmd.seq ≠ some (6#8).toNat ∧
      (s.region 1).nodeLast.map RingCmd.seq ≠ some (0#8).toNat) ∧
    (s.ptc.hasActive = true ∧ State.reset.ptc.hasActive = false ∧ s.nodeLive 0 = true ∧ State.reset.nodeLive 0 = false ∧ dieOfRegion 215 = 0 ∧ dieOfRegion 216 = 1 ∧
      (0x1FE#9).toNat ≠ 0x1FF ∧ 432 ≤ (0x1FE#9).toNat ∧ Tbl.get false s.reg.broken 0 = false) ∧
    (let w := ({ op := 1, seq := 1, arg := 160, slew := 4 } : RingCmd).word 0
     ringOk w = true ∧ ringOk (w ^^^ 1#64) = false) ∧
    (160 < (161#8).toNat ∧ (160#8).toNat ≤ 160 ∧ 4 < (5#3).toNat ∧ (4#3).toNat ≤ 4 ∧ 44 < (45#8).toNat ∧ (44#8).toNat ≤ 44 ∧ 3 < (4#8).toNat ∧
      (3#8).toNat ≤ 3 ∧ (7#8).toNat < 8) ∧
    (s.reg.calActive = false ∧ (s.region 0).mode.railed = true ∧ ({ Region.reset with mode := .gatedSpare } : Region).mode.railed = false ∧
      s.atGroup (mateOf 0 1) = true ∧ s.atGroup (mateOf 0 0) = false) := by
  try dsimp only
  repeat' apply And.intro
  all_goals decide +kernel

/-- Its first timeout, its second, and an unanswered check, each at the deadline and 1 ns before; a response awaited and one that is not. -/
theorem test_hyps_nodes :
    let c : RingCmd := { op := 1, seq := 255, arg := 160, slew := 4 }
    let e : SentCmd := { cmd := c, timeouts := 0, check := false, due := 2000 }
    let r : Region := { Region.reset with bellows := .full, ramping := some c, sent := [e], seq := 255 }
    let s : State := { Test.reg r Cluster.reset with lt := 2000 }
    let d : State := { s with reg := { s.reg with regions := [(0, { r with bellows := .releasing, sent := [{ e with timeouts := 1 }], stale := true })] } }
    let k : State := { s with reg := { s.reg with regions := [(0, { r with bellows := .recharging, sent := [{ e with cmd := { c with op := 7 }, check := true }] })] } }
    ((s.region 0).bellows = .full ∧ (d.region 0).bellows = .releasing ∧ (k.region 0).bellows = .recharging ∧ (s.region 0).ramping = some c ∧
      (s.region 1).ramping = none ∧ (∀ q ∈ regionsOfCluster 0, (s.region q).untie = none)) ∧
    ((s.region 0).sent.find? (fun e => e.cmd.seq = 255 && e.cmd.op = 1) = some e ∧ (s.region 0).sent.find? (fun e => e.cmd.seq = 0 && e.cmd.op = 1) = none ∧
      3 ≤ 3 ∧ c.op < 16 ∧ c.seq < 256 ∧ ringOk 0xFF00000000000000#64 = false) ∧
    (s.ptc.hasActive = true ∧ e.due ≤ s.lt ∧ ({ s with lt := 1999 } : State).lt < e.due ∧ e.check = false ∧ e.timeouts = 0 ∧
      (d.region 0).sent.map (·.timeouts) = [1] ∧ (k.region 0).sent.map (·.check) = [true] ∧ (k.region 0).regfail = false ∧ (k.region 0).mode.railed = true ∧
      (d.region 0).stale = true ∧ (s.region 0).stale = false) ∧
    (s.nodeLive 0 = true ∧ (s.region 0).nodeLast.map RingCmd.seq ≠ some (((s.region 0).seq + 1) % 256)) ∧ s.svc = .ready ∧ s.rst.runs = [] := by
  try dsimp only
  repeat' apply And.intro
  all_goals decide +kernel

/-- The check unanswered fails the regulator and, with its mates healthy, its region is carried (R375, R376). -/
theorem test_ring_check : Test.look (.ringCommandTimeout 0)
    (Test.reg { Region.reset with sent := [{ cmd := ⟨7, 2, 0, 0⟩, timeouts := 0, check := true, due := 0 }] } Cluster.reset)
    (fun t => ((t.region 0).regfail, (t.region 0).mode)) = some (true, .carried) := by decide +kernel
theorem test_flue : Test.look (.flueFrame 0 (Test.flue 0#80)) Test.up (fun t => ((t.region 0).vout, (t.region 0).iout, (t.region 0).fseq, (t.region 0).frames)) =
    some (700, 16, some 0, 1) := by decide +kernel

/-- Frames that are good (at the wrap of FSEQ too), one with a bit inverted, one out of sequence, one of a region with a fault; a hint that is
ripe and one that is not; a lane silent for 10 µs and one that is not; each condition of R375. -/
theorem test_hyps_flue :
    let h : NodeHint := { core := 2, level := 4, lead := 100, since := 0, at_ := 0 }
    let s := Test.reg { Region.reset with fseq := some 63, hints := [h], quarters := 1024 } Cluster.reset
    let x := s.region 0
    let w := flueSeal (x.flueBody 0 s.rt.now.toNat (Test.flue 0#80))
    (laneOf 0 = 0 ∧ laneOf 431 = 11 ∧ laneOf 431 ≠ 0) ∧
    (x.frames % 64 = (63 + 1) % 64 ∧ ({ x with frames := 1 } : Region).frames % 64 ≠ (63 + 1) % 64 ∧ flueOk w = true ∧ flueOk (w ^^^ 1#80) = false) ∧
    (x.nextHint = some h ∧ ({ x with quarters := 1023 } : Region).nextHint = none) ∧
    (x.fseq = some 63 ∧ (s.region 1).fseq = none ∧ x.cond = 0 ∧ x.mode.railed = true ∧ x.regfail = false ∧ s.ptc.hasActive = true ∧ State.reset.ptc.hasActive = false) ∧
    (Tbl.get 0 s.reg.heardAt 5 + 10000 ≤ ({ s with lt := 10000 } : State).lt ∧ ({ s with lt := 9999 } : State).lt < Tbl.get 0 s.reg.heardAt 5 + 10000) := by
  try dsimp only
  repeat' apply And.intro
  all_goals decide +kernel

/-- The first sum above the guard, the last within it, and the sum 2 A below; a cluster with no carried region; one at level 1. -/
theorem test_hyps_guard :
    let at_ := fun iout : Nat => Test.reg { Region.reset with mode := .carried, iout } { Cluster.reset with guard := true, level := 1 }
    let g := (at_ 0).guardG 0
    (g < (at_ (g + 1)).flueSum 0 ∧ ¬ g < (at_ g).flueSum 0 ∧ (at_ (g - 33)).flueSum 0 + 32 < g ∧ ¬ (at_ (g - 32)).flueSum 0 + 32 < g) ∧
    (at_ 0).carried 0 = true ∧ Test.up.carried 0 = false ∧ ((at_ 0).cluster 0).guard = true ∧ ((at_ 0).cluster 0).level = 1 ∧
    ((at_ 0).cluster 0).dark = false ∧ (Test.up.cluster 0).guard = false ∧ (at_ 0).ptc.absent = false ∧
    ((Test.busy Test.core).slot 0).state = .running ∧ ∃ q ∈ (Test.busy Test.core).coresOf 0, clusterOfCore q = 0 := by
  try dsimp only
  repeat' apply And.intro
  all_goals decide +kernel

theorem test_hyps_calibration :
    let s : State := { Test.up with reg := { RegSys.reset with calActive := true, calRegion := 431 } }
    s.reg.calActive = true ∧ s.reg.calRegion < 432 ∧ (50 : Int).natAbs ≤ 50 ∧ (-150 : Int).natAbs ≤ 150 ∧ 50 < (-51 : Int).natAbs ∧ 150 < (151 : Int).natAbs ∧
    (s.region 431).regfail = false ∧ (s.region 431).mode ≠ .dark ∧ Test.up.reg.calNext = 0 ∧ (Test.up.region 0).mode = .powered ∧
    (∀ q ∈ regionsOfCluster (clusterOfRegion 431), q ≠ 431 → (s.region q).tie = false) ∧ (s.region 431).ramping = none ∧ s.reg.calDrop = none ∧
    s.reg.calRing = none ∧ ({ RegSys.reset with calDrop := some 0 } : RegSys).calDrop ≠ none ∧
    Test.up.reg.calDays ≠ 0 ∧ Test.up.ptc.hasActive = true ∧ Test.up.calRefusal 0 = 0 := by decide +kernel

def Test.feed (f : Feed) : State := { Test.up with feed := f }

theorem test_coef : Test.look (.feedCoefWr 0 (BitVec.ofNat 64 (1 * 8 + 65536 * 257))) Test.up (fun t => (t.feed.result, t.feed.constraint)) = some (2, 1) := by
  decide +kernel
theorem test_loop : Test.look (.loopSample 1 899000) { Test.up with feed := { Feed.reset with phases := [(56, { Phase.reset with mode := .ccm })] } }
    (fun t => decide (0 < (t.feed.loop 1).iDem)) = some true := by decide +kernel

/-- Coefficients at the ends of their ranges, a set that breaks a constraint, and RAIL 7; periods at both ends of the range and beyond; LOCK lost
after 2.5 µs and after 16 periods; FORCED and shedding at their times; a phase below 3 A for 32 samples; frames as for the regions. -/
theorem test_hyps_feed :
    let ph := fun m : PhaseMode =>
      { Test.feed { Feed.reset with phases := [(75, { Phase.reset with mode := m, target := 2, low := 32, fseq := some 63 })], respace := true, lock := true } with lt := 2500 }
    let shed : State := { Test.feed { Feed.reset with phases := (List.range 9).map (fun k => (k, { Phase.reset with mode := .ccm })), nReq := 8, added := [8],
                                                      lowFrom := some 0 } with lt := 100000 }
    let w := flueSeal (((ph .ccm).feed.phase 75).flueBody 75 { iph := 0#10, duty := 0#10, vin := 0#10, temp := 0#7, fast := false, flip := 0#80 })
    (coefInRange 0 0 16 = true ∧ coefInRange 0 0 15 = false ∧ coefInRange 1 3 0 = false ∧ coefInRange 0 7 255 = true ∧
      ((Coef.ofRail 0).put 1 256).broken = none ∧ ((Coef.ofRail 0).put 1 257).broken = some 1 ∧ (7 : Nat) % 8 = 7 ∧ Test.up.ptc.switching = false ∧
      ({ Ptc.reset with switching := true } : Ptc).switching = true ∧ Test.up.hostUp 0 = true) ∧
    (1000000000000 ≤ 505000 * 1980199 ∧ 505000 * 1980198 < 1000000000000 ∧ 495000 * 2020202 ≤ 1000000000000 ∧ 1000000000000 < 495000 * 2020203) ∧
    (((ph .ccm).feed.phase 75).mode = .ccm ∧ 32 ≤ ((ph .ccm).feed.phase 75).low ∧ railOfPhase 75 ≠ 0 ∧ ((ph .ccm).feed.active 6)[0]? = some 75 ∧
      (ph .ccm).feed.respace = true ∧ (ph .ccm).feed.lock = true ∧ phaseLane 75 = 3 ∧ (0 : Nat) % 64 = (63 + 1) % 64 ∧ (1 : Nat) % 64 ≠ (63 + 1) % 64 ∧
      flueOk w = true ∧ flueOk (w ^^^ 1#80) = false) ∧
    ((ph .ccm).feed.edgeAt + 2500 ≤ (ph .ccm).lt ∧ 2499 < (ph .ccm).feed.edgeAt + 2500 ∧ (ph .ccm).feed.badPeriods < 16 ∧
      ((ph .ccm).feed.loop 6).sampledAt + 2000 ≤ (ph .ccm).lt ∧ Test.up.lt < (Test.up.feed.loop 6).sampledAt + 2000) ∧
    (shed.feed.forced = false ∧ shed.feed.nReq < shed.feed.nAct 0 ∧ shed.feedRises = false ∧ shed.feed.lowFrom = some 0 ∧
      0 + 1000 * shed.feed.shedHold ≤ shed.lt ∧ shed.feed.shedAt + 2000 ≤ shed.lt ∧ shed.feed.added = [8] ∧ (shed.feed.phase 8).mode = .ccm ∧
      shed.feed.forcedAt + 1000 * shed.feed.shedHold ≤ shed.lt ∧ 99999 < shed.feed.forcedAt + 1000 * shed.feed.shedHold) ∧
    (Test.up.feed.nAct 0 ≤ Test.up.feed.nReq ∧ Test.up.ptc.absent = false ∧ Test.up.ptc.hasActive = true) := by
  try dsimp only
  repeat' apply And.intro
  all_goals decide +kernel

/-- Each clause at its boundary: a phase of 10 A and its senses, V12 at 10.5 V, the input stage at 44, 58, 45 and 57 V, the window of VEDGE. -/
theorem test_hyps_power :
    let s := Test.feed { Feed.reset with phases := [(0, { Phase.reset with mode := .ccm, target := 10 }), (1, { Phase.reset with mode := .ccm, iph := 160 })] }
    ((s.feed.phase 0).mode ≠ .failed ∧ 10 ≤ (s.feed.phase 0).target ∧ (s.feed.phase 1).target < 10 ∧ railOfPhase 0 = 0 ∧ (31#10).toNat < 32 ∧ 32 ≤ (32#10).toNat) ∧
    (nearMean (s.feed.meanOther 0) 160 = true ∧ nearMean (s.feed.meanOther 0) 120 = true ∧ nearMean (s.feed.meanOther 0) 119 = false ∧
      nearMean (s.feed.meanOther 0) 200 = true ∧ nearMean (s.feed.meanOther 0) 201 = false ∧ 80 < 201 - 120 ∧ max 201 120 < 4 * (201 - 120) ∧
      80 < 200 - 119 ∧ max 200 119 < 4 * (200 - 119)) ∧
    (s.svc = .ready ∧ s.rst.runs = [] ∧ s.pwr.closed = true ∧ ({ Power.reset with closed := false } : Power).closed = false ∧ s.svc ≠ .off) ∧
    (10500 ≤ 10500 ∧ 10499 < 10500 ∧ 44000 ≤ 44000 ∧ 43999 < 44000 ∧ 58000 ≤ 58000 ∧ 58000 < 58001 ∧ 45000 ≤ 57000 ∧ 44999 < 45000 ∧ 57000 < 57001) ∧
    ((railSpec 4).inWindow 776 = true ∧ (railSpec 4).inWindow 775 = false ∧ (railSpec 4).inWindow 824 = true ∧ (railSpec 4).inWindow 825 = false) ∧
    State.reset.svc = .init ∧ Tbl.get false State.reset.up.retried 10 = false := by
  try dsimp only
  repeat' apply And.intro
  all_goals decide +kernel

/-- Below 44.0 V the stage opens; with no cartridge in service nothing holds VBUS_INT. -/
theorem test_stage_open : Test.look (.inputStageOpen 43999 false) Test.up (fun t => (t.pwr.closed, (t.rail 0).state)) = some (false, 2) := by decide +kernel
theorem test_rail_fault : Test.look (.railFault 4 775) Test.up (fun t => ((t.rail 4).state, t.rst.lastLevel, t.rst.lastCause)) = some (2, 3, 0x0A) := by
  decide +kernel
theorem test_phase_overtemp : Test.look (.phaseOvertemp 3 125) Test.up (fun t => ((t.feed.phase 3).mode, (t.feed.phase 3).cause)) = some (.failed, 5) := by
  decide +kernel
/-! The draw budget, the cartridges and the PTC pair. -/

def Test.draw (d : Draw) : State := { Test.up with draw := d, lt := 2000000 }

/-- A duty cycle of 90.05% spells 2,901 W (R434). -/
theorem test_draw_limit : Test.look (.drawLimitSample (some 1801)) Test.up (fun t => (t.draw.limit, t.draw.limitBad)) = some (600, true) := by
  decide +kernel
theorem test_distrust : Test.look (.distrustCheck 100 200) (Test.draw { Draw.reset with disFrom := some 1000000 }) (fun t => t.draw.distrust) = some true := by
  decide +kernel
theorem test_damper : Test.look (.damperFastWindow 1 2000) (Test.draw { Draw.reset with allowMw := [(1, 1000)] })
    (fun t => (t.draw.level0, t.draw.level1)) = some (16, 8) := by decide +kernel

/-- Each clause at its boundary: 25% apart and more, 10% apart and more, the limits of DRAW_LIMIT, a trajectory whose time has come. -/
theorem test_hyps_draw :
    let s := Test.draw { Draw.reset with allowMw := [(0, 1000)], cutAt := [(0, 1999800)], disFrom := some 1000000, senseFrom := some 1000000,
                                         hints := [{ region := 0, level := 1, at_ := 200 }], pend := some { id := 1, points := [{ rt := 0, w := 700 }] } }
    let late : DueHint := { region := 0, level := 1, at_ := 201 }
    let u := Test.draw { Draw.reset with pend := some { id := 1, points := [{ rt := 1, w := 700 }] } }
    (s.draw.suspect = false ∧ s.pwr.closed = true ∧ s.svc ≠ .saving ∧ Tbl.get 0 s.draw.allowMw 0 < 1001 ∧ 1000 ≤ Tbl.get 0 s.draw.allowMw 0 ∧
      Tbl.get 0 s.draw.cutAt 0 + 200 ≤ s.lt ∧ Tbl.get 0 s.draw.cutAt 1 = 0 ∧ s.draw.distrust = false) ∧
    ((∃ h ∈ s.draw.hints, dieOfRegion h.region = 0 ∧ h.at_ ≤ s.rt.now.toNat + 200) ∧ ¬ (∃ h ∈ [late], dieOfRegion h.region = 0 ∧ h.at_ ≤ s.rt.now.toNat + 200) ∧
      ¬ (∃ h ∈ s.draw.hints, dieOfRegion h.region = 1 ∧ h.at_ ≤ s.rt.now.toNat + 200)) ∧
    (s.ptc.hasActive = true ∧ s.carts.cal = none ∧ s.draw.brake = false ∧ ({ Power.reset with closed := false } : Power).closed = false ∧ s.ptc.switching = false ∧
      (s.rail 0).state = 0) ∧
    (1000000 + 1000000 ≤ s.lt ∧ 25 * 100 < 100 * ((126 - 100) + (100 - 126)) ∧ 100 * ((125 - 100) + (100 - 125)) ≤ 25 * 100 ∧ s.draw.forced = [] ∧
      10 * 100 < 100 * ((100 - 89) + (89 - 100))) ∧
    ((({ id := 1, points := [{ rt := 0, w := 700 }] } : Traj).points.headD { rt := 0, w := 0 }).rt ≤ s.rt.now.toNat ∧
      u.rt.now.toNat < (({ id := 1, points := [{ rt := 1, w := 700 }] } : Traj).points.headD { rt := 0, w := 0 }).rt) ∧
    ((5000 + 23 * 200) / 16 = 600 ∧ (5000 + 23 * 1800) / 16 = 2900 ∧ (5000 + 23 * 199) / 16 < 600 ∧ 2900 < (5000 + 23 * 1801) / 16 ∧ 1801 < 2001) ∧
    s.hostUp 0 = true := by
  try dsimp only
  repeat' apply And.intro
  all_goals decide +kernel

/-- The slow path with each class in turn, above what the stage can take. -/
theorem test_hyps_slow_path :
    let s := fun (m l : Nat) => Test.draw { Draw.reset with phiM := m, phiL := l }
    (s 8 8).aInt.1 < 1000000000 ∧ (∀ r, ((s 8 8).feed.loop r).capped = false) ∧ (s 8 8).turn = some 0 ∧
    (∃ p < 6, (Test.draw { Draw.reset with prio := p }).turn = some 1) ∧ ∃ p < 6, (Test.draw { Draw.reset with prio := p }).turn = some 2 := by
  refine ⟨by decide +kernel, fun _ => rfl, by decide +kernel, by decide +kernel, by decide +kernel⟩

/-- A bay in service with cells at 3.0 V, and its twin. -/
def Test.bay : Bay :=
  { Bay.reset with state := .inService, isolated := false, cells := List.replicate 14 30000, pack := 42000, temps := [25, 25, 25, 25], typeOk := true }

def Test.carts (x : Bay) (c : Option CartCal) : State := { Test.up with carts := { Carts.reset with a := x, b := Test.bay, cal := c }, lt := 70000000000 }

theorem test_sample_hot : Test.look (.cartridgeSample { Test.sample with temps := [some 70, some 25, some 25, some 25] } Test.sample) (Test.carts Test.bay none)
    (fun t => ((t.bay 0).state, (t.bay 0).cause, (t.bay 1).state)) = some (.fault, 3, .inService) := by decide +kernel
theorem test_insert_foreign : Test.look (.cartridgeInsertion 0 false 1#32 Test.sample) Test.up (fun t => (t.bay 0).state) = some .foreign := by decide +kernel
theorem test_insert_low : Test.look (.cartridgeInsertion 0 true 1#32 { Test.sample with cells := List.replicate 14 24999 }) Test.up (fun t => (t.bay 0).state) =
    some .admitting := by decide +kernel

theorem test_hyps_sample :
    let y := Test.bay.take Test.sample
    let h := Test.bay.take { Test.sample with temps := [some 70, some 25, some 25, some 25] }
    let o := ({ Test.bay with runCid := 1 } : Bay).take { Test.sample with cid := false }
    (y.runOpen < 2 ∧ y.runCid < 2 ∧ y.limitFault = 0 ∧ y.runImb ≠ 10 ∧ y.runDis ≠ 10) ∧ h.limitFault ≠ 0 ∧ 2 ≤ o.runCid ∧ Test.bay.state ≠ .absent := by decide +kernel

/-- Every branch of an insertion at its boundary (R459). -/
theorem test_hyps_insertion :
    Bay.reset.state = .absent ∧ (∀ w ∈ Test.sample.temps, ∃ v, w = some v ∧ -40 ≤ v ∧ v ≤ 125) ∧
    (∀ c ∈ [(21999, 21999, 0), (22000, 23999, 1), (22000, 24000, 2), (24999, 24999, 1), (25000, 25000, 3)],
      (c.2.2 = 0 ↔ c.1 < 22000) ∧ (c.2.2 = 2 ↔ 22000 ≤ c.1 ∧ 2000 ≤ c.2.1 - c.1) ∧ (c.2.2 = 3 ↔ 25000 ≤ c.1)) ∧
    (Test.sample.cells.foldl min (Test.sample.cells.headD 0) = 36000 ∧ Test.sample.cells.foldl max 0 = 36000) ∧ (1#32 : BitVec 32) ∉ Carts.reset.deepSerials ∧
    ({ Test.bay with state := .admitting, precharge := true, cells := List.replicate 14 25000 } : Bay).vmin = 25000 := by
  refine ⟨rfl, ?_, by decide, by decide, by decide, by decide⟩
  intro w h
  exact ⟨25, List.eq_of_mem_replicate h, by decide, by decide⟩

theorem test_hyps_legs :
    let s : State := Test.carts { Test.bay with recent := [0] } none
    let r := Test.carts { Test.bay with resting := true, imbWait := true, imbFrom := some 0, calWanted := true } none
    (s.svc ≠ .saving ∧ 30799 < 30800 ∧ 30800 ≤ 30800 ∧ 53200 ≤ 53200 ∧ 53200 < 53201) ∧ (s.bay 0).isolated = false ∧ Bay.reset.isolated = true ∧ s.mayRest 0 = true ∧ s.restTurn 0 = true ∧ s.ptc.hasActive = true ∧ (r.bay 0).resting = true ∧
    (r.bay 0).restFrom + 20000000 ≤ r.lt ∧ Test.up.lt < (Test.up.bay 0).restFrom + 20000000 ∧
    (s.bay 0).refAt + 3600000000000 * 0 ≤ s.lt ∧ s.lt < (s.bay 0).refAt + 3600000000000 * s.carts.refMaxH ∧ Test.up.mayAdmit = true ∧
    (0 + 600000000000 ≤ ({ r with lt := 600000000000 } : State).lt) ∧ r.carts.cal = none ∧ (s.bay 0).state.serves = true ∧ (r.bay 0).imbWait = true ∧ (r.bay 0).imbFrom.isSome = true ∧ s.carts.calDays ≠ 0 ∧
    s.calReason 0 = 0 ∧ Test.up.calReason 0 ≠ 0 ∧ (s.bay 0).calWanted = false ∧ ({ Carts.reset with calDays := 0 } : Carts).calDays = 0 := by
  try dsimp only
  repeat' apply And.intro
  all_goals decide +kernel

/-- A calibration discharge at each of its steps; capacitances at both ends of the range, and beyond. -/
theorem test_hyps_discharge :
    let c : CartCal := { bay := 0, step := .rest1, at_ := 0, from_ := 0, voc0 := 700000000, q := 0, rMeas := 0, cmd := true }
    let s := fun st : CalStep => Test.carts Test.bay (some { c with step := st })
    let x := (s .rest1).bay 0
    let full : Bay := { Test.bay with cells := List.replicate 14 37500 }
    let n := fun q : Nat => q * 200000000
    let dv := (c.voc0 - x.voc).natAbs
    (90 ≤ full.soc ∧ x.soc < 85 ∧ c.at_ + 60000000000 ≤ (s .prep).lt ∧ x.voc ≤ c.voc0 - 56000000 ∧ c.voc0 - 56000000 < full.voc ∧ c.voc0 ≠ x.voc) ∧
    (c.from_ + 20000000 ≤ (s .rest0).lt ∧ 19999999 < c.from_ + 20000000) ∧
    (11000 * dv ≤ n 5500 ∧ n 5499 < 11000 * dv ∧ n 13200 ≤ 26400 * dv ∧ 26400 * dv < n 13201) ∧
    ((s .rest0).abandonHolds 6 = true ∧ (s .prep).abandonHolds 7 = true ∧ (s .rest0).abandonHolds 4 = true ∧
      ({ s .rest0 with draw := { Draw.reset with brake := true } } : State).abandonHolds 1 = true) := by
  try dsimp only
  repeat' apply And.intro
  all_goals decide +kernel

/-- The PTC A ACTIVE and B STANDBY. -/
def Test.ptc (p : Ptc) : State := { Test.up with ptc := p, lt := 100000 }
def Test.pairUp : Ptc := { Ptc.reset with a := .active }

theorem test_heartbeat_lost : Test.look .heartbeatLost (Test.ptc Test.pairUp) (fun t => (t.ptc.a, t.ptc.owner, t.ptc.absent, t.ptc.epoch)) =
    some (.failed, some 1, true, 1#16) := by decide +kernel
theorem test_proving_fails : Test.look (.provingDone 1#8 true) (Test.ptc { Test.pairUp with b := .proving }) (fun t => (t.ptc.b, t.ptc.fwB.failCause)) =
    some (.failed, 4) := by decide +kernel

theorem test_hyps_pair :
    let s := Test.ptc Test.pairUp
    let f : Ptc := { Test.pairUp with failRun := 1 }
    let w := Test.ptc { Test.pairUp with a := .failed, owner := some 1, absent := true, switching := true, b := .standby }
    let v : Ptc := { Test.pairUp with b := .proving }
    (s.ptc.heartAt + 100000 ≤ s.lt ∧ Test.up.lt < Test.up.ptc.heartAt + 100000 ∧ s.ptc.newest = none ∧
      Tbl.get false s.reg.broken 0 = false ∧ Tbl.get false s.reg.broken 1 = false ∧
      w.ptc.absentAt + 5000000 ≤ ({ w with lt := 5000000 } : State).lt ∧ 4999999 < w.ptc.absentAt + 5000000 ∧
      w.ptc.absentAt + 50000000 ≤ ({ w with lt := 50000000 } : State).lt ∧ 49999999 < w.ptc.absentAt + 50000000 ∧
      s.ptc.proveAt + 3600000000000 * s.ptc.proveH ≤ ({ s with lt := 86400000000000 } : State).lt) ∧
    (s.ptc.owner = some 0 ∧ s.ptc.switching = false ∧ s.ptc.mode 0 = .active ∧ s.ptc.hasActive = true ∧ s.ptc.failRun = 0 ∧ f.failRun = 1 ∧ s.ptc.absent = false) ∧
    (State.reset.svc = .init ∧ State.reset.ptc.mode 0 = .standby ∧ State.reset.ptc.mode 1 = .standby ∧ State.reset.ptc.owner = some 0 ∧
      State.reset.ptc.hasActive = false) ∧
    (w.ptc.switching = true ∧ w.ptc.absent = true ∧ w.svc = .ready ∧ w.rst.runs = []) ∧
    (s.ptc.find .resync = none ∧ s.ptc.proveH ≠ 0 ∧ s.ptc.find .standby = some 1 ∧ v.find .proving = some 1) := by decide

def Test.cmd : PtcIssue := { rack := false, func := 0, seq := 0#16, tag := 5#16 }

theorem test_ptc_status : Test.look (.status Test.cmd 0#64) (Test.ptc Test.pairUp) (fun t => (t.ptc.result.status, t.ptc.result.tag)) = some (.ok, 5) := by
  decide +kernel
theorem test_ptc_badarg : Test.look (.regCal Test.cmd 432#64) (Test.ptc Test.pairUp) (fun t => t.ptc.result.status) = some .badarg := by decide +kernel
theorem test_ptc_switch : Test.look (.switch Test.cmd 0#64) (Test.ptc Test.pairUp) (fun t => (t.ptc.result.status, t.ptc.switching, t.ptc.lastCause)) =
    some (.pending, true, 4) := by decide +kernel

theorem test_hyps_commands :
    let p := Test.pairUp
    let s := Test.ptc p
    let rack : PtcIssue := { rack := true, func := 0, seq := 7#16, tag := 5#16 }
    let queued : State := { s with tray := { Tray.reset with queue := [(5, 7, [])] } }
    let e : JournalEntry := { rack := false, tag := 5, op := 0x19, arg := 0#64, result := none }
    let r : Ptc := { p with running := some e }
    let j : Ptc := { p with journal := [{ e with result := some PtcResult.reset }] }
    let one : Ptc := { p with b := .failed }
    (s.svc ≠ .off ∧ s.ptc.hasActive = true ∧ s.tray.queue = [] ∧ (∀ r ∈ s.tray.stored, ¬(r.type = 5 ∧ r.seq = rack.seq.toNat)) ∧ rack.rack = true ∧
      queued.tray.queue = [(5, rack.seq.toNat, [])] ∧ rack.rack ≠ Test.cmd.rack) ∧
    (s.hostUp 0 = true ∧ s.svc ≠ .init ∧ s.svc ≠ .saving ∧ p.switching = false ∧ p.repeated Test.cmd = none ∧ p.running = none ∧ r.running.isSome = true ∧
      r.repeated { Test.cmd with tag := 6#16 } = none ∧ j.repeated Test.cmd = some { e with result := some PtcResult.reset } ∧ r.running = some e ∧ e.op = 0x19) ∧
    (p.switchRefusal = 0 ∧ one.switchRefusal ≠ 0 ∧ p.owner.isSome = true ∧ p.hasActive = true ∧ p.returnRefusal 0 ≠ 0 ∧ one.returnRefusal 1 = 0 ∧
      one.proveRefusal ≠ 0 ∧ p.find .standby = some 1 ∧ p.freeSlot = some 1 ∧ ({ p with fwB := { p.fwB with slot := 1 } } : Ptc).freeSlot = none) ∧
    (p.updateRefusal true true = 0 ∧ p.updateRefusal false true ≠ 0 ∧ 0 < 0x1000000 ∧ 0x1000000 < 0x1000001) ∧
    ((s.region 431).mode.railed = true ∧ s.calRefusal 431 = 0 ∧ ({ s with reg := { s.reg with calActive := true } } : State).calRefusal 431 ≠ 0 ∧
      ({ Region.reset with mode := .gatedSpare } : Region).mode.railed = false) ∧
    (s.selftestDefer 1 = 0 ∧ ({ s with feed := { s.feed with forced := true } } : State).selftestDefer 3 ≠ 0) := by
  try dsimp only
  repeat' apply And.intro
  all_goals decide +kernel

theorem test_hyps_cart_commands :
    let s := Test.carts Test.bay none
    let l : State := { s with carts := { s.carts with b := Bay.reset } }
    let r := Test.carts { Test.bay with state := .released, typeOk := false } none
    (r.bay 0).state = .released ∧ (r.bay 0).typeOk = false ∧ (s.bay 0).state = .inService ∧ s.carts.cal = none ∧ s.lastServing 0 = false ∧
    l.lastServing 0 = true ∧ s.calReason 0 = 0 ∧ (Test.up.bay 0).state ≠ .inService ∧ (1#64).toNat ≤ 1 ∧ 1 < (2#64).toNat := by
  try dsimp only
  repeat' apply And.intro
  all_goals decide +kernel
/-! Resets, dumps, saves and device memory. -/

def Test.rst (r : Rst) (x : Slot) (c : Core) : State :=
  { Test.with x c with svc := .serving, rst := r, ptc := Test.pairUp, lt := 100000000000000 }

theorem test_reset : Test.look (.reset (.host 0) 1#3 1727#11) Test.up (fun t => (t.rst.result, t.rst.lastLevel, t.rst.lastTarget)) = some (1, 1, 1727) := by
  decide +kernel
theorem test_reset_badarg : Test.look (.reset (.host 0) 1#3 1728#11) Test.up (fun t => t.rst.result) = some 5 := by decide +kernel
theorem test_stall : Test.look (.dmaTimeout 0) (Test.rst Rst.reset Test.slot { Test.core with dmas := [Test.dma 0] })
    (fun t => (t.rst.lastLevel, t.rst.lastCause, (t.core 0).g)) = some (1, 5, []) := by decide +kernel

/-- A run of an L1 of core 40, and of an L3 that has recovered. -/
def Test.run (level target : Nat) : Rst := { Rst.reset with runs := [{ level, target, cause := 1, at_ := 0, cmd := true, replay := none }] }

theorem test_hyps_detectors :
    let s := Test.rst Rst.reset { Test.slot with pw := { Progress.reset with limit := 5, idleMs := 5 } }
      { Test.core with stopped := true, dmas := [Test.dma 0], outbound := [Test.msg] }
    let w := Test.rst Rst.reset { Test.slot with pw := { Progress.reset with limit := 5, idleMs := 4 } } Test.core
    let e := Test.rst Rst.reset Test.slot { Test.core with m0 := [{ op := .mwin (Test.iss 0 3) 0#18, ga := 0#64, pc := 0#64, slot := 3 }], m1 := [{ op := .mwin (Test.iss 0 3) 0#18, ga := 0#64, pc := 0#64, slot := 3 }] }
    let t := Test.rst Rst.reset { Test.slot with state := .torn } { Test.core with stopped := true }
    (s.slot 0).state ≠ .free ∧ (s.slot 0).pw.limit ≠ 0 ∧ (s.slot 0).pw.expired = false ∧ (s.slot 0).pw.limit ≤ (s.slot 0).pw.idleMs ∧
    (w.slot 0).pw.idleMs < (w.slot 0).pw.limit ∧ (s.core 0).outbound ≠ [] ∧ (s.svc = .ready ∨ s.svc = .serving ∨ s.svc = .degraded) ∧
    s.rst.runs = [] ∧ (s.slot 0).state = .running ∧ (s.core 0).dmas ≠ [] ∧ (e.core 0).m0 ≠ [] ∧ (e.core 0).m1 ≠ [] ∧ (s.core 0).stopped = true ∧
    (t.slot 0).state = .torn ∧ (t.core 0).stopped = true ∧ (e.core 0).stopped = false ∧ (s.stack 7).throt ≠ 3 ∧
    (let u := Test.reducing Test.desc (Test.inst 0 true) [{ chip := 3, gen := 0, ports := 1#18 }]
     (u.fab.insts.any fun x => (u.redDesc x.slot x.desc).any fun d => u.isFinal d x) = true) := by
  try dsimp only
  repeat' apply And.intro
  all_goals decide +kernel

theorem test_hyps_resets :
    let s := Test.rst Rst.reset Test.slot Test.core
    let b := Test.rst { Rst.reset with busyCmd := some (2, 0) } Test.slot Test.core
    let r := Test.rst (Test.run 1 40) Test.slot Test.core
    let l := { Test.rst (Test.run 3 0) Test.slot Test.core with mem := { MemSys.reset with t1Filled := true, t2Filled := true }, fab := { Fabric.reset with ports := (List.range 18).map fun k => (k, { Port.reset with state := .down }) } }
    let p := Test.rst Rst.reset { Test.slot with state := .suspect, pw := { Progress.reset with snapValid := true, replays := 1 } } Test.core
    (s.hostUp 0 = true ∧ s.rstBusy = false ∧ b.rstBusy = true ∧ s.resetRefusal (.host 0) 1 1727 = 0 ∧ s.resetRefusal (.host 0) 1 1728 = 5 ∧ s.resetRefusal (.host 0) 0 0 = 0 ∧
      s.resetRefusal (.host 0) 2 15 = 3 ∧ s.resetRefusal (.rack 0#16) 2 15 = 5 ∧ s.resetRefusal (.rack 0#16) 3 0 = 0 ∧ (∀ n ∈ s.liveSlots, (s.slot n).state ≠ .suspect)) ∧
    (p.replayRefusal 0 = 0 ∧ s.replayRefusal 0 ≠ 0 ∧ p.replayRefusal 1024 = 5) ∧
    (0 + recoverNs 1 ≤ r.lt ∧ ¬ recoverNs 1 - 1 < 0 ∧ recoverNs 1 - 1 < 0 + recoverNs 1) ∧
    (r.threeL1 40 = false ∧ r.keepLimited (keepRetire (40 / 36)) = false ∧ r.partitionOf 40 = none ∧ l.recovered { level := 3, target := 0, cause := 1, at_ := 0, cmd := true, replay := none } = true) := by
  try dsimp only
  repeat' apply And.intro
  all_goals decide +kernel

def Test.dump : Dump := { level := 0xFF, cause := 1, kind := 0, chip := 3, opsec := 0, rt := 0#64, slot := 0, recs := [], seq := 0 }

theorem test_dump : Test.look (.dump 0 0) (Test.rst Rst.reset { Test.slot with state := .aborted } Test.core) (fun t => (t.dumpAt 0).map fun d => d.recs.length) =
    some (some 1) := by decide +kernel
theorem test_save_list : Test.look (.saveListWrite 0 0x2000#48) (Test.loading Test.image) (fun t => (t.rst.listState, t.rst.saveList.length)) = some (1, 1) := by
  decide +kernel

/-- A dump to copy, at the base of tier 2 and a byte off it. -/
theorem test_hyps_dumps :
    let s := Test.rst { Rst.reset with dumps := [(63, some Test.dump)], arg := 0x10000000000#64 } Slot.reset Core.reset
    let u := Test.rst { Rst.reset with dumps := [(63, some Test.dump)], arg := 0x10000000001#64, busyCmd := some (3, 63) } Slot.reset Core.reset
    (s.copyRefusal 63 = 0 ∧ u.copyRefusal 63 ≠ 0 ∧ s.svc ≠ .benched ∧ (63 : Nat) < 64 ∧ s.keepLimited keepBench = false ∧ s.rstBusy = false) ∧
    (u.rst.busyCmd = some (3, 63) ∧ u.dumpAt 63 = some Test.dump ∧ (63 : Nat) ≠ 0x7FF) ∧
    ((Test.loading Test.image).saveListOk 0x2000 = true ∧ (Test.loading Test.image).saveListOk 0x1000 = false) := by
  try dsimp only
  repeat' apply And.intro
  all_goals decide +kernel

/-- A save can start with the stage open and a cartridge in service; both losses within 1 ms; each step of a save. -/
def Test.saving (step : Nat) (rest : List Extent) : State :=
  { Test.up with svc := .saving, rst := { Rst.reset with save := some { step, rest } } }

theorem test_hyps_saves :
    let s : State := { Test.carts Test.bay none with pwr := { Power.reset with closed := false }, tray := { Tray.reset with openedAt := some 1000000, tickAt := some 0 } }
    s.maySave = true ∧ Test.up.maySave = false ∧ s.carts.eLow ≤ joule 3000 ∧ s.tray.openedAt = some 1000000 ∧ 1000000 ≤ 0 + 1000000 ∧
    Rst.reset.drain = none ∧ ({ Rst.reset with drain := some 3 } : Rst).drain = some 3 ∧ (Test.saving 2 []).rst.save = some { step := 2, rest := [] } ∧
    (let e : Extent := { base := 0, len := 65536, kind := 0, wr := true }
     let p := Test.saving 5 [e]
     let q : State := { p with mem := { MemSys.reset with stackTab := (List.range 8).map fun k => (k, { Stack.reset with throt := 3 }) } }
     p.rst.drain = none ∧ p.rst.save = some { step := 5, rest := [e] } ∧ p.blocked e.base e.len = false ∧ q.anyStopped = true ∧
       (Test.saving 3 [e]).rst.save = some { step := 3, rest := [e] } ∧ (Test.saving 6 []).rst.save = some { step := 6, rest := [] }) ∧
    (let d : Rst := { Rst.reset with drain := some 3, drainAt := 1 }
     let t : State := { Test.up with rst := d, lt := 50001 }
     t.rst.drainAt + 50000 ≤ t.lt ∧ ¬ t.lt < t.rst.drainAt + 50000 ∧ t.lt - 1 < t.rst.drainAt + 50000) ∧
    (let o : State := { s with carts := { s.carts with eLow := joule 3000 + 1, rideS := 60, openAt := some 0 } }
     o.maySave = true ∧ ¬ o.carts.eLow ≤ joule 3000 ∧ o.carts.rideS ≠ 0 ∧ 0 + 1000000000 * o.carts.rideS ≤ o.lt ∧ ¬ 20000000000 + 1000000000 * o.carts.rideS ≤ o.lt) ∧
    (44000 ≤ (44000#16).toNat ∧ (58000#16).toNat ≤ 58000 ∧ ¬ 44000 ≤ (43999#16).toNat ∧ ¬ (58001#16).toNat ≤ 58000) := by
  try dsimp only
  repeat' apply And.intro
  all_goals decide +kernel

theorem test_save_starts : Test.look .emberSaveTrigger { Test.carts Test.bay none with pwr := { Power.reset with closed := false } }
    (fun t => (t.svc, t.rst.drain)) = some (.saving, some 5) := by decide +kernel

def Test.mem (m : MemSys) : State := { Test.up with mem := m }
def Test.filled : MemSys := { MemSys.reset with t1Filled := true, t2Filled := true, fill := 2 }

/-- Three bad symbols are one beyond what the code corrects (R301). -/
theorem test_scrub : Test.look (.scrubRead false [(0, 0, 1), (0, 1, 1), (0, 71, 255)]) (Test.mem { Test.filled with autoRepair := false })
    (fun t => (Tbl.get false t.mem.poison 0, t.mem.t1Pass.pos, (t.stack (stackOf (t.channelAt 0))).ue)) = some (true, 1, 1) := by decide +kernel
theorem test_scrub_corrects : Test.look (.scrubRead false [(0, 0, 1), (0, 71, 255)]) (Test.mem Test.filled)
    (fun t => (Tbl.get false t.mem.poison 0, Tbl.get [] t.mem.err1 0, (t.stack (stackOf (t.channelAt 0))).ce)) = some (false, [], 1) := by decide +kernel
theorem test_inject : Test.look (.memInject 0 0x8000000000000040#64) (Test.mem Test.filled) (fun t => (t.mem.injAddr, t.mem.injArm)) = some (0x40#42, true) := by
  decide +kernel

/-- The last codeword and page; 0, 1, 2, 3 and 4 bad symbols; a period at its end and before; temperatures where levels meet. -/
theorem test_hyps_memory :
    let l := { Pass.reset with pos := t1Words - 1 }
    let s := Test.mem { Test.filled with t1Pass := l, t2Pass := { Pass.reset with pos := t2Pages - 1 } }
    let p : State := { s with lt := scrubNs 24 }
    let es : List (Nat × Nat) := [(0, 1), (1, 255), (70, 1), (71, 255)]
    let q : List (Nat × Nat) := [(0, 1), (2731 + 2 * s.t2t - 1, 4095)]
    (s.scrubs false = true ∧ s.mem.t1Pass.pos < t1Words ∧ s.scrubs true = true ∧ s.mem.t2Pass.pos < t2Pages ∧ (es.map Prod.fst).Nodup ∧
      (∀ e ∈ es, e.1 < 72 ∧ 0 < e.2 ∧ e.2 < 256) ∧ (∀ k ≤ 4, (es.take k).length = k) ∧ (q.map Prod.fst).Nodup ∧
      (∀ e ∈ q, e.1 < 2731 + 2 * s.t2t ∧ 0 < e.2 ∧ e.2 < 4096) ∧ q.length ≤ s.t2t ∧
      Tbl.get [] s.mem.err1 (t1Words - 1) = [] ∧ Tbl.get [] s.mem.err2 (t2Pages - 1) = [] ∧ 1 ≤ s.t2t) ∧
    (p.mem.t1ScrubH ≠ 0 ∧ p.mem.t1Filled = true ∧ p.mem.t1Pass.start + scrubNs p.mem.t1ScrubH ≤ p.lt ∧
      ¬ p.mem.t1Pass.start + scrubNs p.mem.t1ScrubH ≤ p.lt - 1 ∧ s.mem.waiting = []) ∧
    (let c := { Chan.reset with hot := true, hotMs := 1000 }
     let h := Test.mem { Test.filled with chans := [(9, c)] }
     (h.chan 9).hot = true ∧ 1000 * ((h.chan 9).repeats + 1) ≤ (h.chan 9).hotMs ∧ ¬ 1000 * (c.repeats + 1) ≤ 999) ∧
    (100 ≤ (100#8).toNat ∧ 92 ≤ (92#8).toNat ∧ (94#8).toNat < 95 ∧ (87#8).toNat < 88 ∧ ({ Test.filled with hotHoldS := 0 } : MemSys).hotHoldS = 0) ∧
    ((Test.mem { Test.filled with chans := [(9, { Chan.reset with hot := true })] }).chan 9).hot = true ∧ (s.chan 255).hot = false ∧
    s.hostUp 0 = true ∧ s.l3Runs = false ∧ s.keepLimited keepT2Code = false := by
  try dsimp only
  repeat' apply And.intro
  all_goals decide +kernel

/-- A request for a row inside its stack and one beyond; a row that is remapped, a stack with no spare, a repair under way. -/
theorem test_hyps_repair :
    let s := Test.mem Test.filled
    let row := 40959 * 2 ^ 11
    let v := BitVec.ofNat 64 (2 ^ 63 + 7 * 2 ^ 32 + row)
    let r : Repair := { stack := 7, row := BitVec.ofNat 32 row, spare := 0, entry := none }
    let m := Test.mem { Test.filled with remap := [(256 * 7, some (BitVec.ofNat 32 row))], repair := some r }
    let f := Test.mem { Test.filled with remap := (List.range 256).map fun i => (256 * 7 + i, some 0#32) }
    let h := Test.mem { Test.filled with stackTab := [(7, { Stack.reset with throt := 3 })] }
    let x := { Test.slot with extents := [{ base := 0, len := 131072, kind := 0, wr := true }] }
    let l := Test.mem { Test.filled with log := [(33, { LogEntry.reset with valid := true, pending := true })], rotation := some (0, 5#32) }
    (v.getLsbD 63 = true ∧ v.toNat / 2 ^ 35 % 2 ^ 28 = 0 ∧ v.toNat / 2 ^ 27 % 2 ^ 5 = 0 ∧ v.toNat / 2 ^ 11 % 2 ^ 16 = 40959 ∧ v.toNat / 2 ^ 32 % 8 = 7) ∧
    (s.mem.repair = none ∧ s.pendingRepair = none ∧ s.remapped 7 (BitVec.ofNat 32 row) = false ∧ s.freeSpare 7 = some 0) ∧
    (m.remapped 7 (BitVec.ofNat 32 row) = true ∧ m.mem.repair = some r ∧ m.mem.err1 = [] ∧ f.freeSpare 7 = none ∧ l.pendingRepair = some (1, 1) ∧
      (h.stack 7).throt = 3 ∧ (m.stack 7).throt ≠ 3 ∧ h.anyStopped = true ∧ l.anyStopped = false ∧ l.mem.err1 = [] ∧ x.stripes = 2 ∧
      (1#32).toNat < x.stripes ∧ x.stripes ≤ (2#32).toNat ∧ (l.slot 0).stripes ≤ (0#32).toNat ∧ l.freeSpare 1 = some 0 ∧ l.mem.rotation = some (0, 5#32) ∧ (l.slot 0).step.pendingRel = none) := by
  try dsimp only
  repeat' apply And.intro
  all_goals decide +kernel

/-- Writes that end at the end of tier 1 and of a scratchpad; what lies beyond the aperture; the codeword poisoned. -/
theorem test_hyps_window :
    let s := Test.mem Test.filled
    let n := t1End - 1
    (n % 64 + [1#8].length ≤ 64 ∧ n < t1End ∧ s.mem.t1Filled = true ∧ s.mem.injArm = false ∧ Tbl.get false s.mem.poison (n / 64) = false ∧
      Tbl.get [] s.mem.err1 (n / 64) = [] ∧ s.blocked n 1 = false ∧ s.mem.waiting = [] ∧ State.reset.mem.t1Filled = false ∧ (t1End - 64) % 64 = 0) ∧
    (apBase + 0x7FFFF + 1 ≤ apEnd ∧ 0x7FFFF % 0x80000 + 1 ≤ 0x80000 ∧ s.phys (apCore (apBase + 0x7FFFF)).1 (apCore (apBase + 0x7FFFF)).2 = some 0 ∧
      s.coreRuns 0 = false ∧ (Test.busy Test.core).coreRuns 0 = true) ∧
    ((Test.mem { Test.filled with stackTab := (List.range 8).map fun k => (k, { Stack.reset with throt := 3 }) }).blocked (t1End - 64) 64 = true) ∧
    (apEnd ≤ (BitVec.ofNat 64 apEnd).toNat ∧ Tbl.get false ({ Test.filled with poison := [(0, true)] } : MemSys).poison 0 = true) := by
  try dsimp only
  repeat' apply And.intro
  all_goals decide +kernel

theorem test_window : Test.look (.mwWrite 0 (BitVec.ofNat 64 (t1End - 1)) [7#8]) (Test.mem Test.filled) (fun t => t.mem.bytes) = some [(t1End - 1, 7#8)] := by
  decide +kernel
theorem test_window_poison : Test.look (.mwRead 0 0#64 4#13) (Test.mem { Test.filled with poison := [(0, true)] }) (fun t => t.out.head?) =
    some (some (.hostRead 0 (List.replicate 4 0xFF#8) true)) := by decide +kernel
/-! The recorder, the host interface, the tray link and bring-up. -/

def Test.rec (r : Recorder) : State := { Test.up with recorder := r }

/-- One record of TYPE 0x010 and KEY 8, which a second one merges into. -/
def Test.one : Recorder :=
  { Recorder.reset with
    ring := [{ off := 0, type := 0x010, rep := 0, seq := 0#32, opsec := 0#40, pcyc := 0#24, lastd := 0, key := 8#64, values := [] }],
    head := 32, nextSeq := 1#32, collapse := [0#32] }

theorem test_record_merges : Test.look (.recordSubmit 0x010#10 8#64 [] false) (Test.rec Test.one) (fun t => (t.recorder.ring.map (·.rep), t.recorder.mod)) =
    some ([1], 1#16) := by decide +kernel
theorem test_record_new : Test.look (.recordSubmit 0x010#10 9#64 [] false) (Test.rec Test.one) (fun t => (t.recorder.ring.length, t.recorder.nextSeq)) =
    some (2, 2#32) := by decide +kernel
theorem test_clear : Test.look (.recClear (.host 0) 0xC1EA#16 1#32) (Test.rec Test.one) (fun t => (t.recorder.clrResult, t.recorder.ring.map (·.type))) =
    some (1#2, [2]) := by decide +kernel

theorem test_hyps_recorder :
    let r := Test.one
    (r.mergeTarget 0x010 8#64).isSome = true ∧ r.mergeTarget 0x010 9#64 = none ∧ r.lostPending = 0 ∧ submitted 0x010 = true ∧ ([] : List Nat).length = valueCount 0x010 ∧
    (floodExempt 0x010 = false ∧ r.flood ≠ 0#16 ∧ r.flood.toNat ≤ Tbl.get 0 ({ r with counts := [(0x010, 200)] } : Recorder).counts 0x010 ∧
      ¬ r.flood.toNat ≤ Tbl.get 0 ({ r with counts := [(0x010, 199)] } : Recorder).counts 0x010) ∧
    ({ r with lostPending := 1, windowS := 0#16, flood := 0#16 } : Recorder).lostPending ≠ 0 ∧
    ({ r with suppressed := [(0x010, 3)], windowS := 0#16 } : Recorder).suppressed = [(0x010, 3)] ∧ r.suppressed = [] ∧
    (({ r with opMs := 1000 } : Recorder).second < 1000 / 1000 ∧ ¬ r.second < 999 / 1000) ∧ (r.tickAt + 1000000 ≤ 1000000 ∧ 999999 < r.tickAt + 1000000) ∧
    (1#32 = r.nextSeq ∧ 0#32 ≠ r.nextSeq ∧ 0xC1EB#16 ≠ 0xC1EA#16) ∧ Test.up.svc ≠ .off ∧ Test.up.hostUp 0 = true := by
  try dsimp only
  repeat' apply And.intro
  all_goals decide

theorem test_mask_raises : Test.look (.intMaskWrite 5 5 0xFE#8) { Test.up with host := { HostIf.reset with
    ints := [(5, { IntBlock.reset with cause := 1#8 })], msixTab := [(80, 0#128)] } } (fun t => t.out.head?) = some (some (.msix 5 0)) := by decide +kernel

theorem test_hyps_functions :
    let s := Test.up
    let b : State := { s with host := { HostIf.reset with ints := [(5, { IntBlock.reset with cause := 0x81#8 })], msixTab := [(80, 0#128)] } }
    let old := b.host.int 5
    (s.linkUp = true ∧ Test.off.linkUp = false ∧ s.svc ≠ .benched ∧ s.slots = [] ∧ ((Test.busy Test.core).slot 0).state = .running) ∧
    (s.hostUp 63 = true ∧ (old.mask &&& ~~~0xFE#8 &&& old.cause = BitVec.ofNat 8 (2 ^ 0)) ∧ (old.mask &&& ~~~0xFD#8 &&& old.cause = 0#8) ∧
      old.vector 0 < vectorsOf 5 ∧ b.host.vecMasked 5 (old.vector 0) = false) := by decide +kernel

theorem test_register : Test.look (.registerWrite 0 false 0x2C#26 4#13 0xAABBCCDD#64) Test.up (fun t => t.host.scratch) = some 0xAABBCCDD00000000#64 := by
  decide +kernel
/-- A read of ID_PART gives the part (R551). -/
theorem test_register_read : Test.look (.registerWrite 0 false 0#26 8#13 none) Test.up (fun t => t.out.head?) =
    some (some (.hostRead 0 [0x3C#8, 0x1F#8, 0#8, 0xD2#8, 0xB1#8, 1#8, 0#8, 0#8] false)) := by decide +kernel
theorem test_register_denied : Test.look (.registerWrite 7 false 0x28#26 8#13 1#64) Test.up (fun t => (t.host.scratch, t.host.denyCw)) = some (0#64, 1) := by
  decide +kernel

theorem test_hyps_registers :
    (¬ ((8#13 = 8#13 ∧ 4 % 8 = 0) ∨ (8#13 = 4#13 ∧ 4 % 4 = 0))) ∧ Test.off.hostUp 0 = false ∧ Test.up.hostUp 63 = true ∧
    (cwAssigned 0 = true ∧ Test.up.vfReads 7 0 = true ∧ cwAssigned 0x28 = true ∧ Test.up.vfReads 7 0x28 = false ∧ (0x1010#26).toNat % 8 = 0) ∧
    16 ≤ (16#64).toNat ∧ (15#64).toNat < 16 ∧ (Test.up.slot 1023).owner.toNat = 0 ∧ (63 : Fin 64) ≠ 0 ∧ Test.up.keepLimited keepBench = false ∧
    Test.up.keepLimited (keepRetire 47) = false ∧
    ({ Test.up with host := { HostIf.reset with keepCount := [(keepRetire 47, 200000)] } } : State).keepLimited (keepRetire 47) = true := by decide +kernel

theorem test_ident : Test.look (.ident 7#16 [9#8, 1#8, 0#8, 0#8, 0#8, 0#8, 0#8, 0#8]) Test.up (fun t => (t.fab.chipId, t.fab.chipValid)) = some (9#8, true) := by
  decide +kernel
theorem test_traj : Test.look (.traj 7#16 ([1#8, 0#8, 1#8, 0#8] ++ toLE 8 5000 ++ toLE 2 3000 ++ [0#8, 0#8])) Test.up
    (fun t => t.draw.pend) = some (some { id := 1, points := [{ rt := 5000, w := 2900 }] }) := by decide +kernel

/-- Requests served with an empty queue and at its head; behind another with room and without; a repeat; no PTC ACTIVE. -/
theorem test_hyps_served :
    let r : TslReply := { type := 0x0B, seq := 7, status := 0, reason := 0, payload := [] }
    let q := fun (l : List (Nat × Nat × List Byte)) => ({ Test.up with tray := { Tray.reset with queue := l } } : State)
    let f : State := { Test.up with tray := { Tray.reset with stored := [r] } }
    (∀ ty : Nat, Served Test.up ty 9) ∧ Served (q [(2, 9, [])]) 2 9 ∧ Served (Test.rec Test.one) 0x0A 5 ∧
    ((f.tray.stored.find? fun r => decide (r.type = 0x0B) && decide (r.seq = 7)) = some r) ∧ State.reset.ptc.hasActive = false ∧
    (∀ y ∈ (q [(1, 1, [])]).tray.queue, ¬ (y.1 = 0x0B ∧ y.2.1 = 9)) ∧ [(1, 2), (1, 3)].length < 3 ∧ 3 ≤ [(1, 2), (1, 3), (1, 4)].length ∧
    (List.replicate 7 0#8).length < 8 :=
  ⟨fun _ => ⟨by decide, (fun r h => absurd h (List.not_mem_nil)), .inl rfl⟩, ⟨by decide, by decide, .inr ⟨[], [], rfl⟩⟩, ⟨by decide, by decide, .inl rfl⟩, by decide, by decide,
    by decide, by decide, by decide, by decide⟩

/-- The limits of IDENT, REC_READ and TRAJ, and jobs that a JOB_ABORT finds or does not. -/
theorem test_hyps_requests :
    let s := Test.job Test.core
    ((2000#16).toNat ≤ 2000 ∧ (7#8).toNat ≤ 7 ∧ ¬ (2001#16).toNat ≤ 2000 ∧ ¬ (8#8).toNat ≤ 7 ∧ (3#8).getLsbD 0 = true ∧ (0#8).getLsbD 0 = false) ∧
    (s.fab.chipValid = true ∧ 4#8 ≠ s.fab.chipId ∧ (s.slot 0).state ≠ .free ∧ Test.up.fab.chipValid = false ∧ Test.up.slots = [] ∧
      ({ Test.slot with noChip := true } : Slot).noChip = true ∧ (Test.up.slot 1023).state = .free) ∧
    (((s.slot 0).job = 9#16 ∧ (s.slot 0).state = .running) ∧ ∀ n ∈ s.liveSlots, (s.slot n).job = 9#16 → n = 0) ∧
    ((127#8).toNat ≤ 127 ∧ (0x7F00#16).toNat + (256#16).toNat ≤ 0x8000 ∧ ¬ (0x7F08#16).toNat + (256#16).toNat ≤ 0x8000 ∧ 8 ≤ (8#16).toNat) ∧
    ((toLE 8 5000 ++ toLE 2 3000 ++ [0#8, 0#8]).length = 12 * (1#8).toNat ∧ (33#8).toNat = 33 ∧ s.rt.now ≤ 0#64 ∧ (4#64 : BitVec 64) < 5#64 ∧
      600 ≤ (600#16).toNat ∧ (2900#16).toNat ≤ 2900) ∧ s.svc ≠ .off := by
  try dsimp only
  repeat' apply And.intro
  all_goals decide +kernel

def Test.tray (y : Tray) : State := { Test.up with tray := y }

theorem test_unknown_request : Test.look (.tslFrameReceive (tslFrame 0x0C 0 1 0 0 [])) Test.up (fun t => (t.tray.stored.map (·.status), t.tray.queue.length)) =
    some ([5], 0) := by decide +kernel
theorem test_queue_full : Test.look (.tslFrameReceive (tslFrame 1 0 9 0 0 [])) (Test.tray { Tray.reset with queue := [(1, 1, []), (1, 2, []), (1, 3, []), (1, 4, [])] })
    (fun t => (t.tray.stored.map (·.status), t.tray.queue.length)) = some ([4], 4) := by decide +kernel

theorem test_hyps_tray :
    let r : TslReply := { type := 1, seq := 7, status := 0, reason := 0, payload := [] }
    let s : State := { Test.tray { Tray.reset with stored := [r], queue := [(2, 8, [])], link := true } with lt := 10000000 }
    (tslParse (tslFrame 1 0 1 0 0 [1#8]) = some (1, 1, [1#8]) ∧ tslParse (tslFrame 1 0 1 0 0 [1#8]).tail = none ∧ tslParse [] = none) ∧
    (s.tray.heardAt + 10000000 ≤ s.lt ∧ ¬ s.tray.heardAt + 10000000 ≤ s.lt - 1) ∧
    (0x19 ∈ ptcOps ∧ 0x06 ∉ ptcOps ∧ s.svc ≠ .init ∧ s.svc ≠ .saving ∧ s.ptc.switching = false ∧ s.ptc.running = none ∧
      s.ptc.repeated { rack := true, func := 0, seq := 9#16, tag := 0#16 } = none) ∧ (∃ x ∈ s.tray.stored, x.type = 1 ∧ x.seq = 7) ∧
    (∀ x ∈ s.tray.stored, ¬ (x.type = 2 ∧ x.seq = 8)) ∧ (∃ x ∈ s.tray.queue, x.1 = 2 ∧ x.2.1 = 8) ∧ (∀ x ∈ s.tray.queue, ¬ (x.1 = 0x0B ∧ x.2.1 = 9)) ∧
    (1 ≤ (0x0B#8).toNat ∧ (0x0B#8).toNat ≤ 0x0B ∧ ¬ (0x0C#8).toNat ≤ 0x0B ∧ ¬ 1 ≤ (0#8).toNat) ∧ s.tray.queue.length < 4 ∧ s.tray.link = true ∧
    Test.up.tray.link = false ∧ s.ptc.hasActive = true ∧ State.reset.ptc.hasActive = false ∧ s.svc ≠ .off ∧ State.reset.svc ≠ .off := by
  try dsimp only
  repeat' apply And.intro
  all_goals decide +kernel

/-- 44 V in LINEAR11: 704 × 2^−4 (PMBus). -/
theorem test_linear11 : Test.look .mfrVinMin Test.up (fun t => t.out.head?) = some (some (.pmbus [0xC0#8, 0xE2#8])) := by decide +kernel
theorem test_setdasa : Test.look (.setdasa 0x30#7 0x09#7) Test.up (fun t => t.tray.dynAddr) = some (some 9#7) := by decide +kernel
/-- The module with a region of die 0 at this temperature. -/
def Test.warm (temp : Nat) (y : Tray) : State :=
  { Test.tray y with reg := { RegSys.reset with regions := [(0, { Region.reset with temp })] } }

theorem test_ibi : Test.look (.sensorThresholdIbi 0) (Test.warm 95 { Tray.reset with dynAddr := some 9#7, ibi := true }) (fun t => t.out.head?) =
    some (some (.i3c [3#8])) := by decide +kernel
theorem test_tap : Test.look .highz Test.up (fun t => t.tap.instr) = some .bypass := by decide +kernel

theorem test_hyps_management :
    let y : Tray := { Tray.reset with dynAddr := some 9#7, ibi := true }
    ((0x30#7).toNat = 0x30 + Tray.reset.slotId ∧ Tray.reset.dynAddr = none ∧ y.dynAddr = some 9#7 ∧ (1#8).getLsbD 0 = true ∧ Tray.reset.dynAddr ≠ some 9#7) ∧
    ((2#8).toNat < 3 ∧ 7 < (8#8).toNat ∧ (950 : Int) ≤ (Test.warm 95 y).sensor 3 ∧ (Test.warm 90 y).sensor 3 ≤ (950 : Int) - 50 ∧
      (950 : Int) - 50 < (Test.warm 91 y).sensor 3 ∧ (Test.warm 91 y).sensor 3 < 950 ∧ Tbl.get false y.armedOff 6 = false ∧ y.dynAddr.isSome = true) ∧
    (({ State.reset with svc := .benched } : State).svc = .benched ∧ State.reset.svc = .init ∧ State.reset.up.started = 0 ∧ Test.up.svc ≠ .benched ∧ Test.up.svc ≠ .init) := by
  try dsimp only
  repeat' apply And.intro
  all_goals decide +kernel

theorem test_power_on : Test.look (.powerOn 44000#16) Test.off (fun t => (t.svc, t.recorder.pcyc, t.pwr.busMv)) = some (.init, 1#24, 44000) := by decide +kernel
theorem test_power_low : Test.look (.powerOn 43999#16) Test.off (fun t => t.svc) = some .off := by decide +kernel
/-- INIT with the bus converters started: the first rail of the order, VT1 at 5, is the one that starts. -/
def Test.starting : State := { State.reset with up := { BringUp.reset with phase := 2, started := 8, coolOk := true }, ptc := Test.pairUp }

theorem test_retry : Test.look (.railStartTimeout 5) Test.starting (fun t => (t.svc, Tbl.get false t.up.retried 5)) = some (.init, true) := by decide +kernel

theorem test_hyps_bring_up :
    let i : State := { State.reset with up := { BringUp.reset with phase := 2 }, ptc := Test.pairUp }
    let w : State := { i with up := { BringUp.reset with phase := 5, checkAt := 5 }, lt := 1000000005 }
    let g : State := { i with up := { BringUp.reset with phase := 3 } }
    let z : State := { Test.starting with up := { Test.starting.up with retried := [(5, true)] } }
    let f : State := { State.reset with svc := .filling, mem := { MemSys.reset with fill := 1, t1Filled := true } }
    let q := Test.rst (Test.run 4 0) Slot.reset Core.reset
    (Test.off.svc = .off ∧ 44000 ≤ (44000#16).toNat ∧ (58000#16).toNat ≤ 58000 ∧ ¬ 44000 ≤ (43999#16).toNat ∧ ¬ (58001#16).toNat ≤ 58000) ∧
    (i.svc = .init ∧ i.up.phase = 2 ∧ i.up.coolOk = false ∧ (39#16).toNat < 40 ∧ 40 ≤ (40#16).toNat ∧ w.up.phase = 5 ∧ w.ptc.hasActive = true ∧
      w.up.checkAt + 1000000000 ≤ w.lt ∧ ¬ w.up.checkAt + 1000000000 ≤ w.lt - 1) ∧
    (i.ptc.hasActive = true ∧ g.ptc.hasActive = true ∧ g.svc = .init ∧ g.up.phase = 3 ∧ i.up.phase ≠ 3 ∧ i.benchAtLimit = false ∧ i.keepLimited keepBench = false ∧ State.reset.up.phase = 1) ∧
    (f.svc = .filling ∧ f.mem.fill = 1 ∧ f.rst.drain = none ∧ f.mem.t1Filled = true ∧ f.mem.t2Filled = false ∧ (99#7).toNat < 100 ∧ 100 ≤ (100#7).toNat ∧ State.reset.mem.fill ≠ 1) ∧
    (z.startingRail = some 5 ∧ (z.rail 5).state ≠ 1 ∧ Tbl.get false z.up.retried 5 = true ∧ Test.starting.startingRail = some 5 ∧
      Tbl.get false Test.starting.up.retried 5 = false ∧ z.startingRail ≠ some 4 ∧ f.startingRail = none) ∧
    (({ Test.up with pwr := { Power.reset with closed := false } } : State).pwr.closed = false ∧ Test.up.svc ≠ .off) ∧
    ((∃ r ∈ q.rst.runs, r.level = 4) ∧ q.rst.drain = none ∧ q.tray.pwrReq = false ∧ ¬ ∃ r ∈ Test.up.rst.runs, r.level = 4) ∧
    (Test.up.hostUp 0 = true ∧ Test.up.svc = .ready ∧ Test.up.slots = [] ∧ (0#24 : BitVec 24) = Test.up.up.epoch ∧ 1#24 ≠ Test.up.up.epoch) := by
  try dsimp only
  repeat' apply And.intro
  all_goals decide +kernel

theorem test_hold_release : Test.look (.thermalHoldRelease 600#16 40#16) { Test.up with cool := { Cool.reset with held := true } } (fun t => t.cool.held) =
    some false := by decide +kernel
theorem test_flow_loss : Test.look (.flowSample 39#16) { Test.up with cool := { Cool.reset with below := 99 } } (fun t => (t.cool.noFlow, t.cool.losses)) =
    some (true, 1) := by decide +kernel

theorem test_hyps_coolant :
    let s : State := { Test.warm 110 Tray.reset with
      cool := { Cool.reset with below := 99, above := 999, trip := [(1, some 5)] }, lt := 10000005,
      mem := { MemSys.reset with stackTab := [(7, { Stack.reset with throt := 3, level3Ms := 10000 })] } }
    (s.svc ≠ .off ∧ (39#16).toNat < 40 ∧ 40 ≤ (40#16).toNat ∧ 99 ≤ s.cool.below ∧ s.cool.noFlow = false ∧ Cool.reset.below < 99 ∧ Cool.reset.above < 999) ∧
    (5 + 10000000 ≤ s.lt ∧ ¬ 5 + 10000000 ≤ s.lt - 1 ∧ (∀ j < 432, dieOfRegion j = 1 → (s.region j).temp < 105) ∧ 110 ≤ (s.region 0).temp ∧
      ((Test.warm 104 Tray.reset).region 0).temp < 105 ∧ 105 ≤ ((Test.warm 105 Tray.reset).region 0).temp ∧
      ((Test.warm 109 Tray.reset).region 0).temp < 110 ∧ Tbl.get none s.cool.trip 1 = some 5 ∧
      ¬ Tbl.get none s.cool.trip 0 ≠ none ∧ dieOfRegion 431 = 1 ∧ s.rst.runs = [] ∧ s.svc = .ready) ∧
    ((s.stack 7).throt = 3 ∧ 10000 ≤ (s.stack 7).level3Ms ∧ ¬ 10000 ≤ 9999 ∧ (s.stack 0).throt ≠ 3 ∧ (600#16).toInt ≤ 600 ∧ ¬ (601#16).toInt ≤ 600) := by decide +kernel

/-! Invariants, formats and sums. -/

theorem test_hyps_form : State.reset.wf ∧ step State.reset = .next State.reset.tick ∧
    200000 ≤ Tbl.get 0 ({ HostIf.reset with keepCount := [(keepBench, 200000)] } : HostIf).keepCount keepBench ∧ State.reset.keepBound := by
  refine ⟨⟨by decide, by decide, by decide⟩, rfl, by decide, fun _ => by simp [State.reset, HostIf.reset]⟩

/-- FP16: the largest finite code, the smallest subnormal, an infinity and a NaN; E4M3 has its NaN at 0x7F. -/
theorem test_hyps_formats :
    let v := decodeElem .fp16 0x7BFF none
    0x7BFF < 2 ^ Fmt.fp16.width ∧ v.isNan = false ∧ v.isInf = false ∧ (decodeElem .fp16 1 none).isInf = false ∧ (decodeElem .fp16 0x7C00 none).isInf = true ∧
    (decodeElem .fp16 0x7E00 none).isNan = true ∧ (decodeElem .e4m3 0x7F none).isNan = true ∧ (decodeElem .e4m3 0x7E none).isNan = false := by decide

/-- Ties in 3/2 and 5/2, and an exact value (R40). -/
theorem test_rounding : roundTo .rne false 3 0 1 = (2, true) ∧ roundTo .rne false 5 0 1 = (2, true) ∧ roundTo .rup false 5 0 1 = (3, true) ∧
    roundTo .rdn true 5 0 1 = (3, true) ∧ roundTo .rtz true 5 0 1 = (2, true) ∧ roundTo .rne false 4 0 1 = (2, false) := by decide

theorem test_hyps_sums :
    let k : KafBits := 0#128
    (∃ E S, kafRead k = .fin E S) ∧ (∀ v ∈ [FVal.fin false 1 0, FVal.fin true 3 (-2)], v.isNan = false ∧ v.isInf = false) ∧
    [1#128, 2#128].Perm [2#128, 1#128] ∧ Test.desc.form ≠ 2 := by
  exact ⟨⟨_, _, rfl⟩, by decide, List.Perm.swap _ _ _, by decide⟩
end Sys2Proof.Machine
end

section
/-! PROOF. Rounding of an exact magnitude (R40). -/

namespace Sys2Proof.Machine

/-- R40: whether a mode takes the upper of the two neighbours of m / 2^k, for a value between them. -/
def RMode.roundsUp (mode : RMode) (neg : Bool) (m k : Nat) : Bool :=
  match mode with
  | .rne => decide (2 ^ k < 2 * (m % 2 ^ k)) || (decide (2 * (m % 2 ^ k) = 2 ^ k) && decide (m / 2 ^ k % 2 = 1))
  | .rtz => false
  | .rdn => neg
  | .rup => !neg

/-- In units of 2^(e + k) with k > 0 the significand is shifted right by k. -/
theorem units_shift (e : Int) (k : Nat) :
    ¬ e + ((k + 1 : Nat) : Int) ≤ e ∧ (e + ((k + 1 : Nat) : Int) - e).toNat = k + 1 := by
  omega

theorem roundTo_of_dvd (mode : RMode) (neg : Bool) {m k : Nat} (e : Int) (hr : m % 2 ^ k = 0) :
    roundTo mode neg m e (e + k) = (m / 2 ^ k, false) := by
  cases k with
  | zero => simp [roundTo]
  | succ k =>
    obtain ⟨hq, hk⟩ := units_shift e k
    simp only [roundTo, if_neg hq, hk, Nat.shiftRight_eq_div_pow, if_pos hr]

theorem roundTo_of_not_dvd (mode : RMode) (neg : Bool) {m k : Nat} (e : Int) (hr : m % 2 ^ k ≠ 0) :
    roundTo mode neg m e (e + k) = (m / 2 ^ k + (mode.roundsUp neg m k).toNat, true) := by
  cases k with
  | zero => exact absurd (Nat.mod_one m) hr
  | succ k =>
    obtain ⟨hq, hk⟩ := units_shift e k
    have half (r : Nat) : (2 ^ k < r ↔ 2 ^ (k + 1) < 2 * r) ∧ (r = 2 ^ k ↔ 2 * r = 2 ^ (k + 1)) := by
      rw [Nat.pow_succ]; omega
    have pick (b : Bool) (n : Nat) : (if b = true then n + 1 else n) = n + b.toNat := by cases b <;> rfl
    simp only [roundTo, if_neg hq, hk, Nat.shiftRight_eq_div_pow, Nat.add_sub_cancel, (half _).1, (half _).2, if_neg hr, pick]
    cases mode <;> rfl

/-- Settles O59: an exact value goes to itself; another lies strictly between its neighbours, and the mode picks one. -/
theorem roundingIsExact : Obligations.RoundingIsExact := by
  unfold Obligations.RoundingIsExact
  intro mode neg m k e
  have hm : m / 2 ^ k * 2 ^ k + m % 2 ^ k = m := Nat.div_add_mod' m (2 ^ k)
  have hlt : m % 2 ^ k < 2 ^ k := Nat.mod_lt m (Nat.two_pow_pos k)
  by_cases hr : m % 2 ^ k = 0
  · have hn : m / 2 ^ k * 2 ^ k = m := by omega
    have hp : 0 ≠ 2 ^ k := Nat.ne_of_lt (Nat.two_pow_pos k)
    simp [roundTo_of_dvd mode neg e hr, hn, hr, hp]
  · have hup (b : Bool) : (m / 2 ^ k + b.toNat) * 2 ^ k = m / 2 ^ k * 2 ^ k + if b then 2 ^ k else 0 := by
      cases b <;> simp [Nat.add_mul]
    simp only [roundTo_of_not_dvd mode neg e hr, hup]
    refine ⟨?between, ?neighbour, ?inexact, ?rne, ?rtz, ?rdn, ?rup⟩
    case between => split <;> simp <;> omega
    case neighbour => cases mode.roundsUp neg m k <;> simp
    case inexact => simp [hr]
    case rne =>
      rintro rfl
      cases hb : RMode.rne.roundsUp neg m k <;> simp [RMode.roundsUp] at hb ⊢ <;> omega
    case rtz => rintro rfl; simp [RMode.roundsUp]
    case rdn => rintro rfl; cases neg <;> simp [RMode.roundsUp] <;> omega
    case rup => rintro rfl; cases neg <;> simp [RMode.roundsUp] <;> omega

end Sys2Proof.Machine
end

section
/-! PROOF. Sums in the accumulation format do not depend on order (R51, R52, R58, R66, R267). The idea: a term or a KAF value enters a sum as a
sum of its own that is joined to it, and joining is commutative and associative. -/

namespace Sys2Proof.Machine

/-- Two sums formed apart on one window, taken together. -/
def KafAcc.join (a b : KafAcc) : KafAcc :=
  { sum := a.sum + b.sum, nan := a.nan || b.nan, pos := a.pos || b.pos, neg := a.neg || b.neg,
    flags := a.flags ||| b.flags, mismatches := a.mismatches + b.mismatches }

theorem KafAcc.join_right_comm (a b c : KafAcc) : (a.join b).join c = (a.join c).join b := by
  simp only [KafAcc.join, KafAcc.mk.injEq]
  refine ⟨?_, ?_, ?_, ?_, ?_, ?_⟩ <;> ac_rfl

/-- What a term adds to a sum is the same whatever the sum holds (R51). -/
theorem KafAcc.term_eq_join (a : KafAcc) (E : Int) (v : FVal) : a.term E v = a.join (KafAcc.term {} E v) := by
  cases v with
  | nan => simp [KafAcc.term, KafAcc.join]
  | inf neg => cases neg <;> simp [KafAcc.term, KafAcc.join]
  | fin neg m e => simp [KafAcc.term, KafAcc.join]

/-- So is what a KAF value adds (R58, R59). -/
theorem KafAcc.kaf_eq_join (a : KafAcc) (E : Int) (k : KafBits) : a.kaf E k = a.join (KafAcc.kaf {} E k) := by
  unfold KafAcc.kaf
  cases kafRead k with
  | fin F S => by_cases hF : F = E <;> simp [hF, KafAcc.join]
  | nan => simp [KafAcc.join]
  | inf neg => cases neg <;> simp [KafAcc.join]
  | flt b => exact a.term_eq_join E (fp b)
  | malformed => simp [KafAcc.join]

/-- What enters by joining may enter in any order. -/
theorem KafAcc.right_comm_of_eq_join {α : Type} {f : KafAcc → α → KafAcc} {own : α → KafAcc} (h : ∀ a x, f a x = a.join (own x))
    (a : KafAcc) (x y : α) : f (f a x) y = f (f a y) x := by
  simp only [h, KafAcc.join_right_comm a (own x)]

theorem KafAcc.term_right_comm (a : KafAcc) (E : Int) (v w : FVal) : (a.term E v).term E w = (a.term E w).term E v :=
  KafAcc.right_comm_of_eq_join (fun a v => a.term_eq_join E v) a v w

theorem KafAcc.kaf_right_comm (a : KafAcc) (E : Int) (k l : KafBits) : (a.kaf E k).kaf E l = (a.kaf E l).kaf E k :=
  KafAcc.right_comm_of_eq_join (fun a k => a.kaf_eq_join E k) a k l

/-! KAF values and placed terms. -/

theorem kafSum_perm (E : Int) {ks ls : List KafBits} (h : ks.Perm ls) : kafSum E ks = kafSum E ls := by
  have hfold := h.foldl_eq' (f := fun a k => KafAcc.kaf a E k) fun k _ l _ a => a.kaf_right_comm E k l
  simp only [kafSum, kafSumOn, hfold]

theorem kafAddTerms_perm (k : KafBits) (E : Int) {vs ws : List FVal} (h : vs.Perm ws) :
    kafAddTerms k E vs = kafAddTerms k E ws := by
  have hfold := h.foldl_eq' (f := fun a v => KafAcc.term a E v) fun v _ w _ a => a.term_right_comm E v w
  simp only [kafAddTerms, hfold]

/-- Only finite terms have entered. -/
def KafAcc.allFinite (a : KafAcc) : Prop := a.nan = false ∧ a.pos = false ∧ a.neg = false

theorem KafAcc.result_of_allFinite {a : KafAcc} (h : a.allFinite) (E : Int) : a.result E = (kafWrite (.fin E a.sum), a.flags) := by
  obtain ⟨hn, hp, hm⟩ := h
  simp [KafAcc.result, hn, hp, hm]

/-- Finite terms leave a sum finite and add what each of them places. -/
theorem KafAcc.foldl_term_of_finite (E : Int) (vs : List FVal) (hv : ∀ v ∈ vs, v.isNan = false ∧ v.isInf = false) (a : KafAcc) (ha : a.allFinite) :
    (vs.foldl (fun a v => a.term E v) a).allFinite ∧
      (vs.foldl (fun a v => a.term E v) a).sum = a.sum + (vs.map fun v => (KafAcc.term {} E v).sum).sum := by
  induction vs generalizing a with
  | nil => simp [ha]
  | cons v vs ih =>
    obtain ⟨hvn, hvi⟩ := hv v List.mem_cons_self
    have htail := fun w hw => hv w (List.mem_cons_of_mem v hw)
    cases v with
    | nan => cases hvn
    | inf neg => cases hvi
    | fin neg m e =>
      obtain ⟨hfin, hsum⟩ := ih htail (a.term E (.fin neg m e)) ha
      refine ⟨hfin, ?_⟩
      simp only [List.foldl_cons, hsum, List.map_cons, List.sum_cons]
      simp [KafAcc.term, Int.add_assoc]

/-- R47: a finite value's window is its exponent field. -/
theorem kafExp_of_fin {k : KafBits} {E S : Int} (h : kafRead k = .fin E S) : BitVec.ofInt 16 E = k.extractLsb' 112 16 := by
  simp only [kafRead] at h
  by_cases hw : windowOk (kafExp k) = true
  · rw [if_pos hw] at h
    obtain ⟨rfl, -⟩ := KafVal.fin.inj h
    exact BitVec.ofInt_toInt
  · rw [if_neg hw] at h
    repeat' split at h
    all_goals cases h

theorem kafWrite_fin_sig (E S : Int) : (kafWrite (.fin E S)).extractLsb' 0 112 = BitVec.ofInt 112 S :=
  BitVec.extractLsb'_append_eq_right

theorem kafWrite_fin_exp (E S : Int) : (kafWrite (.fin E S)).extractLsb' 112 16 = BitVec.ofInt 16 E :=
  BitVec.extractLsb'_append_eq_left

/-- R51: the whole encoding of a finite element after finite terms. -/
theorem kafAddTerms_of_finite {k : KafBits} {E S : Int} (vs : List FVal) (hk : kafRead k = .fin E S)
    (hv : ∀ v ∈ vs, v.isNan = false ∧ v.isInf = false) :
    (kafAddTerms k E vs).1 = kafWrite (.fin E (S + (vs.map fun v => (KafAcc.term {} E v).sum).sum)) := by
  have hstart : KafAcc.kaf {} E k = { sum := S } := by simp [KafAcc.kaf, hk]
  obtain ⟨hfin, hsum⟩ := KafAcc.foldl_term_of_finite E vs hv { sum := S } ⟨rfl, rfl, rfl⟩
  rw [kafAddTerms, hstart, KafAcc.result_of_allFinite hfin, hsum]

/-! Contributions to a chunk of a reduction. -/

/-- A contribution's element, where it has one, joins what an element of the chunk has accumulated. -/
def KafAcc.kafOpt (a : KafAcc) (E : Int) (e : Option KafBits) : KafAcc := e.elim a (a.kaf E)

theorem KafAcc.kafOpt_eq_join (a : KafAcc) (E : Int) (e : Option KafBits) : a.kafOpt E e = a.join (KafAcc.kafOpt {} E e) := by
  cases e with
  | none => simp [KafAcc.kafOpt, KafAcc.join]
  | some k => exact a.kaf_eq_join E k

theorem accumulate_eq (d : RedDesc) (acc : List KafAcc) (es : List KafBits) :
    accumulate d acc es = (List.range d.count).map fun j => (acc.getD j {}).kafOpt d.window es[j]? := by
  refine List.map_congr_left fun j _ => ?_
  cases es[j]? <;> rfl

theorem accumulate_accumulate (d : RedDesc) (acc : List KafAcc) (es fs : List KafBits) :
    accumulate d (accumulate d acc es) fs =
      (List.range d.count).map fun j => ((acc.getD j {}).kafOpt d.window es[j]?).kafOpt d.window fs[j]? := by
  rw [accumulate_eq d (accumulate d acc es), accumulate_eq d acc]
  refine List.map_congr_left fun j hj => ?_
  simp [List.mem_range.mp hj]

theorem accumulate_right_comm (d : RedDesc) (acc : List KafAcc) (es fs : List KafBits) :
    accumulate d (accumulate d acc es) fs = accumulate d (accumulate d acc fs) es := by
  simp only [accumulate_accumulate]
  exact List.map_congr_left fun j _ => KafAcc.right_comm_of_eq_join (fun a e => a.kafOpt_eq_join d.window e) _ _ _

/-- R52: a result's flags are those of the terms, with INVALID where infinities of both signs have entered. -/
theorem KafAcc.result_flags (a : KafAcc) (E : Int) : (a.result E).2 = a.flags ||| flagIf (a.pos && a.neg) flINVALID := by
  unfold KafAcc.result
  cases a.nan <;> cases a.pos <;> cases a.neg <;> simp [flagIf]

/-- Joining drops no flag: the flags of an earlier result are among those of a later one. -/
theorem KafAcc.result_flags_join (a b : KafAcc) (E : Int) :
    (a.result E).2 ||| ((a.join b).result E).2 = ((a.join b).result E).2 := by
  simp only [KafAcc.result_flags, KafAcc.join]
  cases a.pos <;> cases a.neg <;> grind [flagIf]

/-- All flags that the results of a list of elements raise. -/
def resultFlags (E : Int) (acc : List KafAcc) : FlagByte := acc.foldl (fun f a => f ||| (a.result E).2) 0#8

theorem foldl_result_flags (E : Int) (acc : List KafAcc) (f : FlagByte) :
    acc.foldl (fun f a => f ||| (a.result E).2) f = f ||| resultFlags E acc := by
  induction acc generalizing f with
  | nil => simp [resultFlags]
  | cons a acc ih => rw [resultFlags, List.foldl_cons, List.foldl_cons, ih, ih (0#8 ||| _), BitVec.zero_or, BitVec.or_assoc]

theorem resultFlags_cons (E : Int) (a : KafAcc) (acc : List KafAcc) :
    resultFlags E (a :: acc) = (a.result E).2 ||| resultFlags E acc := by
  rw [resultFlags, List.foldl_cons, foldl_result_flags, BitVec.zero_or]

/-- Every element's flags stay, so all of them do. -/
theorem resultFlags_map_join (E : Int) (js : List Nat) (acc more : Nat → KafAcc) :
    resultFlags E (js.map acc) ||| resultFlags E (js.map fun j => (acc j).join (more j)) =
      resultFlags E (js.map fun j => (acc j).join (more j)) := by
  induction js with
  | nil => simp [resultFlags]
  | cons j js ih =>
    simp only [List.map_cons, resultFlags_cons]
    rw [← ih, ← KafAcc.result_flags_join]
    grind

/-- The flags of a chunk's earlier results are among those of its later ones. -/
theorem resultFlags_accumulate (d : RedDesc) (acc : List KafAcc) (es fs : List KafBits) :
    resultFlags d.window (accumulate d acc es) ||| resultFlags d.window (accumulate d (accumulate d acc es) fs) =
      resultFlags d.window (accumulate d (accumulate d acc es) fs) := by
  rw [accumulate_accumulate, accumulate_eq]
  simp only [KafAcc.kafOpt_eq_join (KafAcc.kafOpt _ _ _), resultFlags_map_join]

/-- What a contribution does to a chunk of a KAF reduction. -/
theorem RedInst.add_eq {d : RedDesc} (hd : d.form ≠ 2) (x : RedInst) (c : Contribution) :
    (x.add d c).1 =
      let acc := accumulate d x.acc (c.elems.take d.count)
      { x with
        count := x.count + 1
        acc := acc
        sum := acc.map fun a => (a.result d.window).1
        flag := x.flag ||| c.flag ||| resultFlags d.window acc } := by
  simp [RedInst.add, hd, List.foldl_map, foldl_result_flags]

/-- After two contributions the flags of the results between them are taken up in the last ones. -/
theorem RedInst.add_add_eq {d : RedDesc} (hd : d.form ≠ 2) (x : RedInst) (c e : Contribution) :
    ((x.add d c).1.add d e).1 =
      let acc := accumulate d (accumulate d x.acc (c.elems.take d.count)) (e.elems.take d.count)
      { x with
        count := x.count + 2
        acc := acc
        sum := acc.map fun a => (a.result d.window).1
        flag := x.flag ||| (c.flag ||| e.flag) ||| resultFlags d.window acc } := by
  simp only [RedInst.add_eq hd, RedInst.mk.injEq, true_and, and_true]
  rw [← resultFlags_accumulate]
  grind

theorem RedInst.add_right_comm {d : RedDesc} (hd : d.form ≠ 2) (x : RedInst) (c e : Contribution) :
    ((x.add d c).1.add d e).1 = ((x.add d e).1.add d c).1 := by
  rw [x.add_add_eq hd, x.add_add_eq hd, accumulate_right_comm, BitVec.or_comm c.flag]

/-- Settles O60: everything enters by joining, in whatever order. -/
theorem sumsIgnoreOrder : Obligations.SumsIgnoreOrder := by
  unfold Obligations.SumsIgnoreOrder
  refine ⟨?finite, fun E ks ls h => kafSum_perm E h, fun k E vs ws h => kafAddTerms_perm k E h, ?contributions⟩
  case finite =>
    intro k E S vs hk hv placed
    have hplaced : placed = fun v => (KafAcc.term {} E v).sum := by
      funext v
      cases v with
      | nan => rfl
      | inf neg => cases neg <;> rfl
      | fin neg m e => exact (Int.zero_add _).symm
    rw [kafAddTerms_of_finite vs hk hv, kafWrite_fin_sig, kafWrite_fin_exp, kafExp_of_fin hk, hplaced]
    exact ⟨rfl, rfl⟩
  case contributions =>
    intro d x cs ds hd h
    exact h.foldl_eq' (fun c _ e _ y => y.add_right_comm hd c e) x

end Sys2Proof.Machine
end

section
/-! PROOF. Little-endian bytes (R6) as bit vectors: what a load assembles and what a store takes apart. -/

namespace Sys2Proof.Machine

theorem leNat_lt (bs : List Byte) : leNat bs < 2 ^ (8 * bs.length) := by
  induction bs with
  | nil => simp [leNat]
  | cons b bs ih =>
    have hb : b.toNat < 256 := b.isLt
    have hp : 2 ^ (8 * (b :: bs).length) = 256 * 2 ^ (8 * bs.length) := by
      rw [List.length_cons, Nat.mul_succ, Nat.pow_add]; omega
    rw [leNat, hp]
    omega

theorem Mem.readLE_lt (m : Mem) (a n : Nat) : Mem.readLE m a n < 2 ^ (8 * n) := by
  simpa [Mem.readLE] using leNat_lt (Mem.read m a n)

theorem Mem.readLE_succ (m : Mem) (a n : Nat) :
    Mem.readLE m a (n + 1) = (Mem.read8 m a).toNat + 256 * Mem.readLE m (a + 1) n := rfl

/-- A byte in front of a little-endian number is its lowest byte. -/
theorem ofNat_lowByte (w : Nat) (b : Byte) (x : Nat) :
    BitVec.ofNat (w + 8) (b.toNat + 256 * x) = BitVec.ofNat w x ++ b := by
  apply BitVec.eq_of_toNat_eq
  have hb : b.toNat < 2 ^ 8 := b.isLt
  have hq : (b.toNat + 256 * x) / 2 ^ 8 = x := by omega
  rw [BitVec.toNat_append, BitVec.toNat_ofNat, BitVec.toNat_ofNat, Nat.shiftLeft_eq,
    Nat.mul_comm (x % 2 ^ w), ← Nat.two_pow_add_eq_or_of_lt hb, Nat.pow_add, Nat.mul_comm (2 ^ w), Nat.mod_mul, hq]
  omega

theorem Mem.ofNat_readLE_one (m : Mem) (a : Nat) : BitVec.ofNat 8 (Mem.readLE m a 1) = Mem.read8 m a := by
  simp [Mem.readLE, Mem.read, leNat]

theorem Mem.ofNat_readLE_succ (m : Mem) (a n : Nat) :
    BitVec.ofNat (8 * n + 8) (Mem.readLE m a (n + 1)) =
      BitVec.ofNat (8 * n) (Mem.readLE m (a + 1) n) ++ Mem.read8 m a := by
  rw [Mem.readLE_succ, ofNat_lowByte]

theorem Mem.ofNat_readLE_two (m : Mem) (a : Nat) :
    BitVec.ofNat 16 (Mem.readLE m a 2) = Mem.read8 m (a + 1) ++ Mem.read8 m a := by
  rw [← Mem.ofNat_readLE_one]; exact Mem.ofNat_readLE_succ m a 1

theorem Mem.ofNat_readLE_four (m : Mem) (a : Nat) :
    BitVec.ofNat 32 (Mem.readLE m a 4) =
      Mem.read8 m (a + 3) ++ Mem.read8 m (a + 2) ++ Mem.read8 m (a + 1) ++ Mem.read8 m a := by
  have h3 : BitVec.ofNat 24 (Mem.readLE m (a + 1) 3) = Mem.read8 m (a + 3) ++ Mem.read8 m (a + 2) ++ Mem.read8 m (a + 1) := by
    rw [← Mem.ofNat_readLE_two m (a + 2)]; exact Mem.ofNat_readLE_succ m (a + 1) 2
  rw [← h3]; exact Mem.ofNat_readLE_succ m a 3

/-- A zero-extended load is the number read. -/
theorem Mem.zeroExtend_readLE (m : Mem) (a n : Nat) :
    (BitVec.ofNat (8 * n) (Mem.readLE m a n)).zeroExtend 64 = BitVec.ofNat 64 (Mem.readLE m a n) := by
  apply BitVec.eq_of_toNat_eq
  simp [Nat.mod_eq_of_lt (Mem.readLE_lt m a n)]

/-- Byte j of a little-endian number is the byte at offset j. -/
theorem Mem.readLE_byte (m : Mem) (a n j : Nat) (h : j < n) :
    BitVec.ofNat 8 (Mem.readLE m a n / 256 ^ j) = Mem.read8 m (a + j) := by
  induction n generalizing a j with
  | zero => omega
  | succ n ih =>
    have hb : (Mem.read8 m a).toNat < 256 := (Mem.read8 m a).isLt
    cases j with
    | zero =>
      apply BitVec.eq_of_toNat_eq
      rw [Mem.readLE_succ, BitVec.toNat_ofNat, Nat.pow_zero, Nat.div_one]
      simp only [Nat.add_zero]
      omega
    | succ j =>
      have hq : Mem.readLE m a (n + 1) / 256 ^ (j + 1) = Mem.readLE m (a + 1) n / 256 ^ j := by
        rw [Mem.readLE_succ, Nat.pow_succ', ← Nat.div_div_eq_div_mul]
        congr 1
        omega
      rw [hq, ih (a + 1) j (by omega)]
      congr 1
      omega

theorem ofNat64_extract_byte (x j : Nat) (h : j < 8) :
    (BitVec.ofNat 64 x).extractLsb' (8 * j) 8 = BitVec.ofNat 8 (x / 256 ^ j) := by
  apply BitVec.eq_of_toNat_eq
  have hp : (256 : Nat) ^ j = 2 ^ (8 * j) := by rw [Nat.pow_mul]
  have hs : 2 ^ 64 = 2 ^ (8 * j) * 2 ^ (64 - 8 * j) := by rw [← Nat.pow_add]; congr 1; omega
  have hd : 2 ^ 8 ∣ 2 ^ (64 - 8 * j) := Nat.pow_dvd_pow 2 (by omega)
  rw [BitVec.extractLsb'_toNat, BitVec.toNat_ofNat, BitVec.toNat_ofNat, Nat.shiftRight_eq_div_pow, hp, hs,
    Nat.mod_mul_right_div_self, Nat.mod_mod_of_dvd _ hd]

@[simp] theorem length_toLE (n x : Nat) : (toLE n x).length = n := by
  induction n generalizing x with
  | zero => rfl
  | succ n ih => simp [toLE, ih]

theorem toLE_getD (n x j : Nat) (h : j < n) : (toLE n x).getD j 0#8 = BitVec.ofNat 8 (x / 256 ^ j) := by
  induction n generalizing x j with
  | zero => omega
  | succ n ih =>
    cases j with
    | zero => simp [toLE]
    | succ j => rw [toLE, List.getD_cons_succ, ih (x / 256) j (by omega), Nat.div_div_eq_div_mul, Nat.pow_succ']

/-- The low bytes of a register, lowest first. -/
theorem toLE_toNat_getD (n : Nat) (x : BitVec 64) (j : Nat) (h : j < n) (hn : n ≤ 8) :
    (toLE n x.toNat).getD j 0#8 = x.extractLsb' (8 * j) 8 := by
  rw [toLE_getD n _ j h, ← ofNat64_extract_byte _ j (by omega), BitVec.ofNat_toNat, BitVec.setWidth_eq]

end Sys2Proof.Machine
end

section
/-! PROOF. What a precise fault does (R112, R114): the core stops with its record, its context ends, and nothing of the program it ran
is touched. -/

namespace Sys2Proof.Machine

/-! What a change of some components leaves. -/

theorem OnlyChanges.cores_eq {cs : List Comp} {s t : State} (h : OnlyChanges cs s t) (hc : Comp.cores ∉ cs) : t.cores = s.cores := h .cores hc

theorem OnlyChanges.core_eq {cs : List Comp} {s t : State} (h : OnlyChanges cs s t) (hc : Comp.cores ∉ cs) (k : Nat) : t.core k = s.core k := by
  rw [State.core, h.cores_eq hc, State.core]

theorem OnlyChanges.slot_eq {cs : List Comp} {s t : State} (h : OnlyChanges cs s t) (hc : Comp.slots ∉ cs) (n : Nat) : t.slot n = s.slot n := by
  have hs : t.slots = s.slots := h .slots hc
  rw [State.slot, hs, State.slot]

/-! Cores of a context. -/

/-- A change that does nothing more when repeated reaches every core of a list. -/
theorem State.core_modCores {f : Core → Core} (hf : ∀ c, f (f c) = f c) (ks : List Nat) (s : State) (k : Nat) :
    (s.modCores ks f).core k = if k ∈ ks then f (s.core k) else s.core k := by
  induction ks generalizing s with
  | nil => rfl
  | cons j ks ih =>
    have step : (s.modCores (j :: ks) f).core k = ((s.modCore j f).modCores ks f).core k := rfl
    rw [step, ih, State.modCore, State.core_setCore]
    by_cases hkj : k = j
    · subst hkj; simp [hf]
    · simp [hkj]

theorem Tbl.mem_of_get_ne {α : Type} {d : α} {t : Tbl α} {n : Nat} (h : Tbl.get d t n ≠ d) : (n, Tbl.get d t n) ∈ t := by
  induction t with
  | nil => exact absurd rfl h
  | cons kv t ih =>
    obtain ⟨k, v⟩ := kv
    by_cases hk : n = k
    · simp [Tbl.get, hk]
    · simp only [Tbl.get, hk, if_false] at h ⊢
      exact List.mem_cons_of_mem _ (ih h)

theorem State.mem_coresOf {s : State} {k : Nat} {r : Resident} (h : (s.core k).res = some r) : k ∈ s.coresOf r.slot := by
  have hne : s.core k ≠ Core.reset := by
    intro e
    rw [e] at h
    cases h
  have hmem : (k, s.core k) ∈ s.cores := Tbl.mem_of_get_ne hne
  simp only [State.coresOf, List.mem_map, List.mem_filter]
  exact ⟨(k, s.core k), ⟨hmem, by simp [h]⟩, rfl⟩

/-! The end of a context (R114, R326, R327). -/

/-- The slot of a context that an event has ended, at its new state and cause. -/
theorem State.endCtx_slot (s : State) (n : Nat) (dst : CtxState) (cause : Nat) (own : Bool) :
    ((s.endCtx n dst cause own).slot n).state = dst ∧ ((s.endCtx n dst cause own).slot n).cause = BitVec.ofNat 8 cause := by
  unfold State.endCtx
  dsimp only
  split
  · rw [(raiseSlot_only _ _).slot_eq (by decide), (dropInsts_only _).slot_eq (by decide), (modCores_only _ _).slot_eq (by decide)]
    simp
  · rw [(dropInsts_only _).slot_eq (by decide), (modCores_only _ _).slot_eq (by decide)]
    simp

theorem State.core_dropInsts (s : State) (n k : Nat) :
    ∃ os cs, (s.dropInsts n).core k = { s.core k with offloads := os, contribs := cs } := by
  unfold State.dropInsts
  dsimp only
  rw [State.core_modCores (f := fun c => { c with offloads := [], contribs := [] }) fun c => rfl]
  split
  · exact ⟨[], [], rfl⟩
  · exact ⟨(s.core k).offloads, (s.core k).contribs, rfl⟩

/-- A core of a context into which nothing is being copied stops with the context, and loses its part in reductions. -/
theorem State.endCtx_core (s : State) (n k : Nat) (dst : CtxState) (cause : Nat) (own : Bool) (hk : k ∈ s.coresOf n)
    (hload : (s.slot n).busy ≠ some .load) (hrestore : (s.slot n).busy ≠ some .restore) :
    ∃ os cs, (s.endCtx n dst cause own).core k = { (s.core k).stop with offloads := os, contribs := cs } := by
  have hslot : (s.stopRotation n).slot n = s.slot n := (stopRotation_only n).slot_eq (by decide) n
  have hcore : (s.stopRotation n).core k = s.core k := (stopRotation_only n).core_eq (by decide) k
  have hcores : (s.stopRotation n).coresOf n = s.coresOf n := by
    rw [State.coresOf, (stopRotation_only n).cores_eq (by decide), State.coresOf]
  have stopped (x : Slot) : ∃ os cs,
      ((((s.stopRotation n).setSlot n x).modCores (s.coresOf n) Core.stop).dropInsts n).core k =
        { (s.core k).stop with offloads := os, contribs := cs } := by
    obtain ⟨os, cs, h⟩ := State.core_dropInsts (((s.stopRotation n).setSlot n x).modCores (s.coresOf n) Core.stop) n k
    rw [State.core_modCores (f := Core.stop) (fun c => rfl), if_pos hk, State.core_setSlot, hcore] at h
    exact ⟨os, cs, h⟩
  have hcopy : ((s.slot n).loading || decide ((s.slot n).busy = some .restore)) = false := by
    simp [Slot.loading, hload, hrestore]
  unfold State.endCtx
  dsimp only
  rw [hslot, hcores, hcopy]
  split
  · rw [(raiseSlot_only _ _).core_eq (by decide)]
    exact stopped _
  · exact stopped _

/-! A faulted core and its context. -/

theorem addDump_only (s : State) (d : Dump) : OnlyChanges [.rst, .recorder] s (s.addDump d) := by
  unfold State.addDump
  dsimp only
  split
  · exact (rst_only _).mono (by decide)
  · exact ((rst_only (s := s) _).mono (by decide)).trans ((record_only _ _ _).mono (by decide))

theorem modSlot_only (s : State) (n : Nat) (f : Slot → Slot) : OnlyChanges [.slots] s (s.modSlot n f) := setSlot_only _ _

/-- The state and cause in which a precise fault leaves its context (R114). -/
def faultEnd (code : BitVec 8) : CtxState × BitVec 8 :=
  (if code = fcScratchData then .suspect else .aborted, if code = fcScratchData then 0x02#8 else 0x01#8)

/-- What follows the end of a context that a fault ends changes no core and not the state or cause of its slot. -/
def AfterEnd (e t : State) (n : Nat) : Prop :=
  (∀ k, t.core k = e.core k) ∧ (t.slot n).state = (e.slot n).state ∧ (t.slot n).cause = (e.slot n).cause ∧
  OnlyChanges endingContext e t

theorem AfterEnd.trans {e t u : State} {n : Nat} (h : AfterEnd e t n) (g : AfterEnd t u n) : AfterEnd e u n := by
  obtain ⟨h1, h2, h3, h4⟩ := h
  obtain ⟨g1, g2, g3, g4⟩ := g
  exact ⟨fun k => (g1 k).trans (h1 k), g2.trans h2, g3.trans h3, h4.trans g4⟩

theorem AfterEnd.of_only {cs : List Comp} {e t : State} {n : Nat} (h : OnlyChanges cs e t) (hc : Comp.cores ∉ cs) (hs : Comp.slots ∉ cs)
    (hsub : cs ⊆ endingContext) : AfterEnd e t n :=
  ⟨h.core_eq hc, by rw [h.slot_eq hs], by rw [h.slot_eq hs], h.mono hsub⟩

theorem State.suspectCtx_after (s : State) (n k : Nat) : AfterEnd (s.endCtx n .suspect 0x02 false) (s.suspectCtx n k) n := by
  unfold State.suspectCtx
  dsimp only
  have decision : AfterEnd (s.endCtx n .suspect 0x02 false) ((s.endCtx n .suspect 0x02 false).abortDecision n 0x02 0xFF) n :=
    .of_only (abortDecision_only _ _ _) (by decide) (by decide) (by decide)
  generalize (s.endCtx n .suspect 0x02 false).abortDecision n 0x02 0xFF = a at *
  have core : AfterEnd a (a.modSlot n fun x => { x with pw := { x.pw with fcore := k } }) n :=
    ⟨fun _ => rfl, by simp [State.modSlot], by simp [State.modSlot], (modSlot_only _ _ _).mono (by decide)⟩
  have noted (b : State) : AfterEnd b (b.ctxRecord 5 n 0x02) n :=
    .of_only (record_only _ _ _) (by decide) (by decide) (by decide)
  have dumped (b : State) : AfterEnd b (b.dump 0xFE 0x0D n (b.coresOf n) fun q => decide (q = k)) n :=
    .of_only (addDump_only _ _) (by decide) (by decide) (by decide)
  split
  · exact (decision.trans core).trans (noted _)
  · exact ((decision.trans core).trans (noted _)).trans (dumped _)

theorem State.faultCtx_after (s : State) (n k : Nat) (f : FaultRec) (hrun : (s.slot n).state = .running) (hf : (s.core k).fault = some f) :
    ∃ cause, AfterEnd (s.endCtx n (faultEnd f.code).1 cause false) (s.faultCtx n k).settle n ∧
      BitVec.ofNat 8 cause = (faultEnd f.code).2 := by
  have settles (a : State) : AfterEnd a a.settle n := .of_only settle_only (by decide) (by decide) (by decide)
  unfold State.faultCtx
  rw [hrun, hf]
  by_cases hcode : f.code = fcScratchData
  · simp only [faultEnd, hcode, if_true]
    exact ⟨0x02, (s.suspectCtx_after n k).trans (settles _), rfl⟩
  · simp only [faultEnd, hcode, if_false]
    refine ⟨0x01, AfterEnd.trans ?_ (settles _), rfl⟩
    rw [State.abortCtx, if_pos (by simp [Slot.abortable, hrun])]
    exact .of_only (abortDecision_only _ _ _) (by decide) (by decide) (by decide)

/-- R114: a fault of a core of a RUNNING context stops the core and ends the context. -/
theorem State.faultCtx_ends (s : State) (k : Nat) (r : Resident) (f : FaultRec) (hres : (s.core k).res = some r)
    (hrun : (s.slot r.slot).state = .running) (hload : (s.slot r.slot).busy ≠ some .load)
    (hrestore : (s.slot r.slot).busy ≠ some .restore) (hf : (s.core k).fault = some f) :
    let t := (s.faultCtx r.slot k).settle
    (∃ os cs, t.core k = { (s.core k).stop with offloads := os, contribs := cs }) ∧
    (t.slot r.slot).state = (faultEnd f.code).1 ∧ (t.slot r.slot).cause = (faultEnd f.code).2 ∧ OnlyChanges endingContext s t := by
  obtain ⟨cause, ⟨hcores, hstate, hcause, honly⟩, hcode⟩ := s.faultCtx_after r.slot k f hrun hf
  obtain ⟨os, cs, hcore⟩ := s.endCtx_core r.slot k (faultEnd f.code).1 cause false (State.mem_coresOf hres) hload hrestore
  obtain ⟨endState, endCause⟩ := s.endCtx_slot r.slot (faultEnd f.code).1 cause false
  exact ⟨⟨os, cs, (hcores k).trans hcore⟩, hstate.trans endState, (hcause.trans endCause).trans hcode,
    ((endCtx_only _ _ _ _).mono (by decide)).trans honly⟩

/-! An attempt that faults. -/

/-- Nothing leaves a core that emits nothing, and the rest of the module does not see its change but for a fault. -/
theorem State.settleCore_faulted (S : State) (k : Nat) (before c : Core) (r : Resident)
    (hS : S.core k = c) (hid : S.setCore k c = S)
    (hr : c.res = some r) (he : c.emit = []) (ho : c.outbound = []) (hc : c.contribs = []) (hh : c.hint = none)
    (hi : c.issued = before.issued) (hf : c.fault.isSome = true) (hb : before.fault = none) :
    S.settleCore k before = (S.faultCtx r.slot k).settle := by
  have same {d : Core} (h : d = c) : S.setCore k d = S := h ▸ hid
  have noEmit : (S.modCore k fun c => { c with emit := [] }) = S := same (by rw [hS, ← he])
  have noOut : S.sendOut k r.slot = S := by
    rw [State.sendOut, hS, ho]
    exact same (by simp only [hS, ho, List.filter_nil]; rw [← ho])
  have noContrib : S.contribute k r.slot [] = S := same (by rw [hS, ← hc])
  have noHint : S.takeHint k = S := by rw [State.takeHint, hS, hh]
  unfold State.settleCore
  simp only [hS, hr, he, hc, noEmit, State.postAll, List.foldl_nil, noOut, noContrib, noHint, hi, if_true, hf, hb, Option.isNone_none, and_self]

/-- The last syllable of a bundle of its own: the attempt is of that syllable (R98). -/
theorem Core.present_alone (e : Env) (c : Core) (i : Instr) (iss : Issue) (y : Syl) (hy : sylOf i = some y)
    (hrun : c.running = true) (hh : c.holding = false) (hb : c.bundle = []) (hl : iss.last = true) :
    c.present e i iss = (c.gathered i).attempt e [y] := by
  have hsyl : (c.gathered i).syls = [y] := by simp [Core.syls, Core.gathered, hy]
  have hg : ({ c with bundle := insertSyl i iss.slot c.bundle, holding := iss.last } : Core) = c.gathered i := by
    simp [Core.gathered, hb, hl, insertSyl]
  unfold Core.present
  rw [if_neg (by simp [hrun, hh])]
  dsimp only
  rw [hg, if_pos hl, hsyl]

/-- A syllable that faults alone in its bundle: the attempt takes the fault. It waits for nothing of its own (log entry 8). -/
theorem Core.attempt_faults (e : Env) (d : Core) (y : Syl) (f : FaultAt)
    (h1 : e.hold = false) (h2 : e.permitted = true) (h3 : e.clockChange = false) (hfw : d.fetchWait = 0) (hff : fetchFault d = none)
    (hdf : d.deferred = none) (hdep : y.dep d = false) (hfault : sylFault e d [y] y = some f) :
    d.attempt e [y] = d.takeFault { code := f.1, slot := y.iss.slot.val, deferred := false, pc := d.pc, addr := f.2 } := by
  have hable : d.able e [y] = [] := by
    have unable (z : Syl) (hz : z ∈ d.able e [y]) : False := by
      simp only [Core.able, Core.live, hff, Option.isSome_none, Bool.false_eq_true, if_false, List.mem_filter, List.mem_singleton,
        Bool.and_eq_true, Option.isNone_iff_eq_none] at hz
      obtain ⟨⟨rfl, hact, hbit⟩, hnone⟩ := hz
      simp [sylFault, hact, hbit, hnone] at hfault
    exact List.eq_nil_iff_forall_not_mem.2 unable
  have hlive : (d.live [y]).any (fun z => z.dep d) = false := by
    rw [List.any_eq_false]
    intro z hz
    simp only [Core.live, hff, Option.isSome_none, Bool.false_eq_true, if_false, List.mem_filter, List.mem_singleton] at hz
    simp [hz.1, hdep]
  have hstall : d.stallCause e [y] = none := by
    simp [Core.stallCause, h1, h2, h3, hfw, hlive, hdf, hable]
  simp only [Core.attempt, hstall, hdf, hff, firstFault, List.findSome?, hfault, Option.map_some]

theorem State.coreRuns_resident {s : State} {k : Nat} (h : s.coreRuns k = true) :
    ∃ r, (s.core k).res = some r ∧ (s.slot r.slot).state = .running ∧ s.slotOf k = r.slot := by
  cases hres : (s.core k).res with
  | none => simp [State.coreRuns, hres] at h
  | some r => exact ⟨r, rfl, by simpa [State.coreRuns, hres] using h, by simp [State.slotOf, hres]⟩

/-- The module when an attempt has made core k into c, before what follows it. -/
def State.attempted (s : State) (k : Nat) (c : Core) : State := { (s.setCore k c) with free := s.free + 1 }

@[simp] theorem State.core_attempted (s : State) (k : Nat) (c : Core) : (s.attempted k c).core k = c := by
  simp [State.attempted, State.core, State.setCore]

theorem attempted_only (s : State) (k : Nat) (c : Core) : OnlyChanges [.cores, .free] s (s.attempted k c) :=
  ((setCore_only (s := s) k c).mono (by decide)).trans ((free_only _).mono (by decide))

/-- The record of a precise fault in the bundle that a core is on (R114). -/
def Core.preciseFault (c : Core) (iss : Issue) (f : FaultAt) : FaultRec :=
  { code := f.1, slot := iss.slot.val, deferred := false, pc := c.pc, addr := f.2 }

/-- The core that a fault of its bundle of one syllable leaves. -/
def Core.faulted (c : Core) (i : Instr) (iss : Issue) (f : FaultAt) : Core := (c.gathered i).takeFault (c.preciseFault iss f)

theorem Core.faulted_fault {c : Core} (h : c.fault = none) (i : Instr) (iss : Issue) (f : FaultAt) :
    (c.faulted i iss f).fault = some (c.preciseFault iss f) := by
  simp [Core.faulted, Core.takeFault, Core.gathered, h]

section
variable {s : State} {i : Instr} {iss : Issue} {y : Syl} {f : FaultAt}
  (hy : sylOf i = some y) (hiss : y.iss = iss) (hready : Ready s iss) (hdep : y.dep ((s.core iss.core).gathered i) = false)
  (hfault : sylFault (s.env iss.core) ((s.core iss.core).gathered i) [y] y = some f)
include hy hiss hready hdep hfault

/-- A syllable that faults alone in its bundle: its core takes the fault, and what follows is the end of its context. -/
theorem syllable_faulted :
    s.syllable i iss =
      ((s.attempted iss.core ((s.core iss.core).faulted i iss f)).faultCtx (s.slotOf iss.core) iss.core).settle := by
  obtain ⟨runs, running, notHolding, noBundle, last, noHold, permitted, noChange, fetched, noFetchFault, noDeferred, noEmit, noOut,
    noContrib, noHint⟩ := hready
  obtain ⟨r, hres, -, hslot⟩ := State.coreRuns_resident runs
  have hnone : (s.core iss.core).fault = none := Core.running_fault running
  have hpresent : (s.core iss.core).present (s.env iss.core) i iss = (s.core iss.core).faulted i iss f := by
    rw [Core.present_alone _ _ i iss y hy running notHolding noBundle last,
      Core.attempt_faults _ (Core.gathered _ i) y f noHold permitted noChange fetched noFetchFault noDeferred hdep hfault, hiss]
    rfl
  rw [State.syllable, if_pos runs, State.onCore, hpresent, hslot]
  exact State.settleCore_faulted _ iss.core (s.core iss.core) _ r (State.core_attempted s _ _) (State.setCore_free_twice s _ _ _) hres
    noEmit noOut noContrib noHint rfl (by rw [Core.faulted_fault hnone]; rfl) hnone

/-- A precise fault of a syllable alone in its bundle, whether of its bits or of what it meets. -/
theorem syllable_faults (hexec : exec i s = .next (s.syllable i iss)) (hsettled : Settled s iss.core) : FaultsWith i s iss f.1 f.2 := by
  have hrun := syllable_faulted hy hiss hready hdep hfault
  obtain ⟨runs, running, -⟩ := hready
  obtain ⟨notLoading, notRestoring⟩ := hsettled
  obtain ⟨r, hres, hstate, hslot⟩ := State.coreRuns_resident runs
  have hrecord := Core.faulted_fault (Core.running_fault running) i iss f
  have hcore := State.core_attempted s iss.core ((s.core iss.core).faulted i iss f)
  rw [hslot] at hrun notLoading notRestoring
  obtain ⟨⟨os, cs, hend⟩, endState, endCause, honly⟩ :=
    (s.attempted iss.core ((s.core iss.core).faulted i iss f)).faultCtx_ends iss.core r ((s.core iss.core).preciseFault iss f)
      (by rw [hcore]; exact hres) hstate notLoading notRestoring (by rw [hcore, hrecord])
  rw [← hrun, hcore] at hend
  rw [← hrun, ← hslot] at endState endCause
  rw [← hrun] at honly
  refine ⟨s.syllable i iss, hexec, ?record, ?g, ?p, ?v, ?sp, ?pc, ?asw, ?stopped, endState, endCause,
    ((attempted_only _ _ _).mono (by decide)).trans honly⟩
  case record => rw [hend]; exact hrecord
  all_goals rw [hend]; rfl

end

end Sys2Proof.Machine
end

section
/-! PROOF. Scalar loads and stores (R123, R115). One lemma for every load that is clear, one for every store, and one for the faults; a
mnemonic is a size and, for a load, an extension. -/

namespace Sys2Proof.Machine

/-! The rules. -/

theorem clearMarks_get (bad : Tbl Bool) (w n x : Nat) :
    Tbl.get false (clearMarks bad w n) x = (Tbl.get false bad x && !decide (w ≤ x ∧ x < w + n)) := by
  induction n generalizing bad w with
  | zero =>
    have h : ¬ (w ≤ x ∧ x < w + 0) := by omega
    rw [clearMarks, decide_eq_false h, Bool.not_false, Bool.and_true]
  | succ n ih =>
    rw [clearMarks, ih, Tbl.get_set]
    by_cases hx : x = w
    · simp [hx]
    · have h : (w + 1 ≤ x ∧ x < w + 1 + n) ↔ (w ≤ x ∧ x < w + (n + 1)) := by omega
      simp only [hx, if_false, h]

/-- The words that a write of n bytes from a covers whole are those whose marks it clears (log entry 7). -/
theorem Core.spWrite_marks (c : Core) (a : Nat) (bs : List Byte) (w : Nat) :
    Tbl.get false (c.spWrite a bs).spBad w =
      (Tbl.get false c.spBad w && !decide (a ≤ 8 * w ∧ 8 * w + 8 ≤ a + bs.length)) := by
  have h : ((a + 7) / 8 ≤ w ∧ w < (a + 7) / 8 + ((a + bs.length) / 8 - (a + 7) / 8)) ↔ (a ≤ 8 * w ∧ 8 * w + 8 ≤ a + bs.length) := by
    omega
  simp only [Core.spWrite, clearMarks_get, h]

/-- The bytes of a store of the low bytes of a register, and every other byte as it was. -/
theorem Mem.read8_write_low (m : Mem) (a n x : Nat) (v : BitVec 64) (hn : n ≤ 8) :
    Mem.read8 (Mem.write m a (toLE n v.toNat)) x =
      if a ≤ x ∧ x < a + n then v.extractLsb' (8 * (x - a)) 8 else Mem.read8 m x := by
  rw [Mem.read8_write, length_toLE]
  by_cases h : a ≤ x ∧ x < a + n
  · rw [if_pos h, if_pos h, toLE_toNat_getD n v (x - a) (by omega) hn]
  · rw [if_neg h, if_neg h]

/-- The bits of a syllable alone in its bundle raise no fault where its group may stand (R99, R103, R104). -/
theorem bitFault_alone (y : Syl) (hillegal : y.illegal = false) (hslot : slotAllowed y.group y.iss.slot.val = true)
    (hs1 : y.s1Only = false) (hformat : y.badFormat = false) : bitFault [y] y = none := by
  simp [bitFault, doubleDest, hillegal, hslot, hs1, hformat]

/-! What an access finds, in the order of the checks (R115, R123; the order is log entry 52). -/

section
variable {load : Bool} {o : BitVec 18} {size : Nat} {c : Core}

theorem ldstFault_range (h : spEnd ≤ ldstAddr c o size) :
    ldstFault load o size c = some (fcScratchRange, BitVec.ofNat 64 (ldstAddr c o size)) := by
  simp [ldstFault, h]

theorem ldstFault_alignment (hrange : ldstAddr c o size < spEnd) (h : ldstAddr c o size % size ≠ 0) :
    ldstFault load o size c = some (fcAlignment, BitVec.ofNat 64 (ldstAddr c o size)) := by
  simp [ldstFault, Nat.not_le.2 hrange, h]

theorem ldstFault_data (hrange : ldstAddr c o size < spEnd) (halign : ldstAddr c o size % size = 0)
    (h : (c.badIn (ldstAddr c o size) size).isSome = true) :
    ldstFault true o size c = some (fcScratchData, BitVec.ofNat 64 (ldstAddr c o size)) := by
  simp [ldstFault, Nat.not_le.2 hrange, halign, h]

theorem ldstFault_none (hrange : ldstAddr c o size < spEnd) (halign : ldstAddr c o size % size = 0)
    (h : load = true → c.badIn (ldstAddr c o size) size = none) : ldstFault load o size c = none := by
  cases load with
  | false => simp [ldstFault, Nat.not_le.2 hrange, halign]
  | true => simp [ldstFault, Nat.not_le.2 hrange, halign, h rfl]

end

/-! One load and one store, of any size. -/

/-- A syllable is a scalar access of `size` bytes, as the issue logic sees one: a load that also checks the words it reads, or a store. -/
structure IsAccess (y : Syl) (iss : Issue) (load : Bool) (o : BitVec 18) (size : Nat) : Prop where
  iss_eq : y.iss = iss
  group_eq : y.group = 0x3
  illegal_eq : y.illegal = false
  s1Only_eq : y.s1Only = false
  badFormat_eq : y.badFormat = false
  lanes_eq : y.lanes = false
  dep_eq : ∀ c, y.dep c = false
  wait_eq : ∀ e c, y.wait e c = false
  fault_eq : ∀ e c, y.fault e c = ldstFault load o size c
  busy_eq : ∀ e c, y.busy e c = c.touches (ldstAddr c o size) size

theorem loadSyl_isAccess (iss : Issue) (o : BitVec 18) (size : Nat) (ext : Nat → BitVec 64) :
    IsAccess (loadSyl iss o size ext) iss true o size :=
  ⟨rfl, rfl, rfl, rfl, rfl, rfl, fun _ => rfl, fun _ _ => rfl, fun _ _ => rfl, fun _ _ => rfl⟩

theorem storeSyl_isAccess (iss : Issue) (o : BitVec 18) (size : Nat) : IsAccess (storeSyl iss o size) iss false o size :=
  ⟨rfl, rfl, rfl, rfl, rfl, rfl, fun _ => rfl, fun _ _ => rfl, fun _ _ => rfl, fun _ _ => rfl⟩

/-- What a core that has just issued a bundle and emits nothing shows to what follows the bundle. -/
theorem Ready.advance_quiet {s : State} {iss : Issue} (h : Ready s iss) :
    let c := (s.core iss.core).advance
    c.res = (s.core iss.core).res ∧ c.emit = [] ∧ c.outbound = [] ∧ c.contribs = [] ∧ c.hint = none ∧ c.fault = none ∧
    c.issued = (s.core iss.core).issued + 1#48 := by
  obtain ⟨-, running, -, -, -, -, -, -, -, -, -, noEmit, noOut, noContrib, noHint⟩ := h
  exact ⟨rfl, noEmit, noOut, noContrib, noHint, Core.running_fault running, rfl⟩

section
variable {i : Instr} {s : State} {iss : Issue} {o : BitVec 18} {size : Nat} {load : Bool} {y : Syl}

/-- R99: slot 1 is the slot of group 0x3. -/
theorem IsAccess.bitFault_eq (h : IsAccess y iss load o size) (hslot : iss.slot.val = 1) : bitFault [y] y = none := by
  refine bitFault_alone y h.illegal_eq ?_ h.s1Only_eq h.badFormat_eq
  rw [h.group_eq, h.iss_eq, hslot]
  rfl

theorem IsAccess.active_eq (h : IsAccess y iss load o size) (c : Core) : y.active c = c.acts iss := by
  rw [Syl.active, h.lanes_eq, h.iss_eq]
  rfl

variable (hexec : exec i s = .next (s.syllable i iss)) (hready : Ready s iss) (hslot : iss.slot.val = 1)
  (hacts : (s.core iss.core).acts iss = true)
include hexec hready hslot hacts

/-- A clear access issues, and its effect is all that changes on the core. -/
theorem access_issues {c : Core} (hy : sylOf i = some y) (h : IsAccess y iss load o size)
    (hfault : ldstFault load o size (s.core iss.core) = none)
    (hfree : (s.core iss.core).touches (ldstAddr (s.core iss.core) o size) size = false)
    (hc : y.act (s.env iss.core) ((s.core iss.core).gathered i) (s.core iss.core).advance = c)
    (hq : c.res = (s.core iss.core).res ∧ c.emit = [] ∧ c.outbound = [] ∧ c.contribs = [] ∧ c.hint = none ∧
      c.fault = none ∧ c.issued = (s.core iss.core).issued + 1#48) :
    Issues i s iss.core c := by
  rw [Issues, hexec]
  exact congrArg _ (syllable_issues s i iss y c hy hready ((h.active_eq _).trans hacts) (h.bitFault_eq hslot)
    ((h.fault_eq _ _).trans hfault) (h.dep_eq _) (h.wait_eq _ _) ((h.busy_eq _ _).trans hfree) hc hq)

/-- R123: a load that is clear writes the number read, extended, and nothing else. -/
theorem load_issues {ext : Nat → BitVec 64} {v : BitVec 64} (hy : sylOf i = some (loadSyl iss o size ext))
    (hrange : ldstAddr (s.core iss.core) o size < spEnd) (halign : ldstAddr (s.core iss.core) o size % size = 0)
    (hgood : (s.core iss.core).badIn (ldstAddr (s.core iss.core) o size) size = none)
    (hfree : (s.core iss.core).touches (ldstAddr (s.core iss.core) o size) size = false)
    (hv : ext (Mem.readLE (s.core iss.core).sp (ldstAddr (s.core iss.core) o size) size) = v) :
    Issues i s iss.core ((s.core iss.core).advance.wrG (fD o) v) :=
  access_issues hexec hready hslot hacts hy (loadSyl_isAccess iss o size ext) (ldstFault_none hrange halign fun _ => hgood) hfree
    (congrArg (Core.wrG _ (fD o)) hv) hready.advance_quiet

/-- R123: a store that is clear writes the low bytes of its register, and nothing but the scratchpad and its marks. -/
theorem store_issues (hy : sylOf i = some (storeSyl iss o size))
    (hrange : ldstAddr (s.core iss.core) o size < spEnd) (halign : ldstAddr (s.core iss.core) o size % size = 0)
    (hfree : (s.core iss.core).touches (ldstAddr (s.core iss.core) o size) size = false) :
    Issues i s iss.core ((s.core iss.core).advance.spWrite (ldstAddr (s.core iss.core) o size)
      (toLE size ((s.core iss.core).rdG (fD o)).toNat)) :=
  access_issues hexec hready hslot hacts hy (storeSyl_isAccess iss o size)
    (ldstFault_none hrange halign fun h => absurd h Bool.false_ne_true) hfree rfl hready.advance_quiet

/-- R115: an access that R123 refuses faults with the code of the check that it fails first, and its address. -/
theorem access_faults {code : BitVec 8} (hsettled : Settled s iss.core) (hy : sylOf i = some y) (h : IsAccess y iss load o size)
    (hfault : ldstFault load o size (s.core iss.core) = some (code, BitVec.ofNat 64 (ldstAddr (s.core iss.core) o size))) :
    FaultsWith i s iss code ((s.core iss.core).rdG (fA o) + fImm8 o * BitVec.ofNat 64 size) := by
  have hactive : y.active ((s.core iss.core).gathered i) = true := (h.active_eq _).trans hacts
  rw [ldstAddr, BitVec.ofNat_toNat, BitVec.setWidth_eq] at hfault
  have hsyl : sylFault (s.env iss.core) ((s.core iss.core).gathered i) [y] y =
      some (code, (s.core iss.core).rdG (fA o) + fImm8 o * BitVec.ofNat 64 size) := by
    rw [sylFault, h.bitFault_eq hslot, if_pos hactive, h.fault_eq]
    exact hfault
  exact syllable_faults hy h.iss_eq hready (h.dep_eq _) hsyl hexec hsettled

end

/-- Settles O5: each mnemonic is `load_issues` or `store_issues` at its size, and `access_faults` at the check that it fails. -/
theorem scratchpadLoadsAndStores : Obligations.ScratchpadLoadsAndStores := by
  unfold Obligations.ScratchpadLoadsAndStores
  refine ⟨?loads, ?stores, ?faults⟩
  case loads =>
    intro s iss o hready hslot hacts c a clear byte put
    have issues {i : Instr} {size : Nat} {ext : Nat → BitVec 64} {v : BitVec 64} (hexec : exec i s = .next (s.syllable i iss))
        (hy : sylOf i = some (loadSyl iss o size ext)) (h : clear size) (hv : ext (Mem.readLE c.sp (a size) size) = v) :
        Issues i s iss.core (put v) := by
      obtain ⟨hrange, halign, hgood, hfree⟩ := h
      exact load_issues hexec hready hslot hacts hy hrange halign hgood hfree hv
    have unsigned (n : Nat) {x : BitVec (8 * n)} (hx : BitVec.ofNat (8 * n) (Mem.readLE c.sp (a n) n) = x) :
        BitVec.ofNat 64 (Mem.readLE c.sp (a n) n) = x.zeroExtend 64 := by
      rw [← hx, Mem.zeroExtend_readLE]
    have one : BitVec.ofNat 8 (Mem.readLE c.sp (a 1) 1) = byte 1 0 := Mem.ofNat_readLE_one _ _
    have two : BitVec.ofNat 16 (Mem.readLE c.sp (a 2) 2) = byte 2 1 ++ byte 2 0 := Mem.ofNat_readLE_two _ _
    have four : BitVec.ofNat 32 (Mem.readLE c.sp (a 4) 4) = byte 4 3 ++ byte 4 2 ++ byte 4 1 ++ byte 4 0 := Mem.ofNat_readLE_four _ _
    refine ⟨?byte, ?half, ?word, ?double⟩
    case byte => exact fun h => ⟨issues rfl rfl h (congrArg _ one), issues rfl rfl h (unsigned 1 one)⟩
    case half => exact fun h => ⟨issues rfl rfl h (congrArg _ two), issues rfl rfl h (unsigned 2 two)⟩
    case word => exact fun h => ⟨issues rfl rfl h (congrArg _ four), issues rfl rfl h (unsigned 4 four)⟩
    case double =>
      refine fun h => ⟨_, issues rfl rfl h rfl, fun j hj => ?_⟩
      rw [ofNat64_extract_byte _ j hj, Mem.readLE_byte _ _ _ j hj]
  case stores =>
    intro s iss o hready hslot hacts c a stores
    have issues {i : Instr} {size : Nat} (hsize : size ≤ 8) (hexec : exec i s = .next (s.syllable i iss))
        (hy : sylOf i = some (storeSyl iss o size)) : stores i size := by
      intro hrange halign hfree
      refine ⟨_, _, store_issues hexec hready hslot hacts hy hrange halign hfree, fun x => ?_, fun w => ?_⟩
      · exact Mem.read8_write_low c.sp (a size) size x (c.rdG (fD o)) hsize
      · exact (c.advance.spWrite_marks (a size) _ w).trans (by rw [length_toLE]; rfl)
    exact ⟨issues (by decide) rfl rfl, issues (by decide) rfl rfl, issues (by decide) rfl rfl, issues (by decide) rfl rfl⟩
  case faults =>
    intro s iss o hready hsettled hslot hacts c a place load
    have places {i : Instr} {size : Nat} {y : Syl} {ld : Bool} (hexec : exec i s = .next (s.syllable i iss)) (hy : sylOf i = some y)
        (h : IsAccess y iss ld o size) : place i size :=
      ⟨fun hrange => access_faults hexec hready hslot hacts hsettled hy h (ldstFault_range hrange),
        fun hrange halign => access_faults hexec hready hslot hacts hsettled hy h (ldstFault_alignment hrange halign)⟩
    have loads {i : Instr} {size : Nat} {ext : Nat → BitVec 64} (hexec : exec i s = .next (s.syllable i iss))
        (hy : sylOf i = some (loadSyl iss o size ext)) : load i size :=
      ⟨places hexec hy (loadSyl_isAccess iss o size ext), fun hrange halign hbad =>
        access_faults hexec hready hslot hacts hsettled hy (loadSyl_isAccess iss o size ext) (ldstFault_data hrange halign hbad)⟩
    exact ⟨loads rfl rfl, loads rfl rfl, loads rfl rfl, loads rfl rfl, loads rfl rfl, loads rfl rfl, loads rfl rfl,
      places rfl rfl (storeSyl_isAccess iss o 1), places rfl rfl (storeSyl_isAccess iss o 2),
      places rfl rfl (storeSyl_isAccess iss o 4), places rfl rfl (storeSyl_isAccess iss o 8)⟩

end Sys2Proof.Machine
end

section
/-! PROOF. A submission never leaves the recorder as it was (R526, R527): it is merged, counted as suppressed, or appended, and each of
these counts. -/

namespace Sys2Proof.Machine

theorem Recorder.merge_ne (r : Recorder) (x : Record) : r.merge x ≠ r := by
  intro h
  have hmod : r.mod + 1#16 = r.mod := congrArg Recorder.mod h
  bv_omega

theorem Recorder.append_ne (r : Recorder) (ty : Nat) (key : BitVec 64) (vals : List (BitVec 64)) : r.append ty key vals ≠ r := by
  intro h
  have hseq : r.nextSeq + 1#32 = r.nextSeq := congrArg Recorder.nextSeq h
  bv_omega

/-- R527: one more occurrence of a TYPE that the flood limit suppresses. -/
def Recorder.suppress (r : Recorder) (ty : Nat) : Recorder := { r with suppressed := Tbl.update 0 r.suppressed ty (· + 1) }

theorem Recorder.suppress_ne (r : Recorder) (ty : Nat) : r.suppress ty ≠ r := by
  intro h
  have hcount : Tbl.get 0 (Tbl.update 0 r.suppressed ty (· + 1)) ty = Tbl.get 0 r.suppressed ty :=
    congrArg (fun q : Recorder => Tbl.get 0 q.suppressed ty) h
  rw [Tbl.update, Tbl.get_set_same] at hcount
  omega

/-- R526, R527: what an event can do to the recorder. -/
theorem Recorder.write_cases (r : Recorder) (ty : Nat) (key : BitVec 64) (vals : List (BitVec 64)) :
    (∃ x, r.write ty key vals = r.merge x) ∨ r.write ty key vals = r.suppress ty ∨ r.write ty key vals = r.append ty key vals := by
  unfold Recorder.write
  split
  next x _ => exact .inl ⟨x, rfl⟩
  next =>
    split
    · exact .inr (.inl rfl)
    · exact .inr (.inr rfl)

theorem Recorder.write_ne (r : Recorder) (ty : Nat) (key : BitVec 64) (vals : List (BitVec 64)) : r.write ty key vals ≠ r := by
  obtain ⟨x, h⟩ | h | h := r.write_cases ty key vals
  · rw [h]; exact r.merge_ne x
  · rw [h]; exact r.suppress_ne ty
  · rw [h]; exact r.append_ne ty key vals

theorem Recorder.write_lostPending (r : Recorder) (ty : Nat) (key : BitVec 64) (vals : List (BitVec 64)) :
    (r.write ty key vals).lostPending = r.lostPending := by
  obtain ⟨x, h⟩ | h | h := r.write_cases ty key vals <;> rw [h] <;> rfl

/-- R527: where submissions were lost, the LOST record takes their count; a write itself keeps it. -/
theorem Recorder.submit_ne (r : Recorder) (ty : Nat) (key : BitVec 64) (vals : List (BitVec 64)) : r.submit ty key vals ≠ r := by
  unfold Recorder.submit
  by_cases hlost : r.lostPending = 0
  · rw [if_pos hlost]
    exact r.write_ne ty key vals
  · rw [if_neg hlost]
    intro h
    have hcount := congrArg Recorder.lostPending h
    rw [Recorder.write_lostPending, Recorder.write_lostPending] at hcount
    exact hlost hcount.symm

theorem State.recordOpen_recorder_ne (s : State) (vals : List Nat) : (s.recordOpen vals).recorder ≠ s.recorder := Recorder.submit_ne _ _ _ _

end Sys2Proof.Machine
end

section
/-! PROOF. The I3C target and the test access port (R575, R605, R606). Outside OFF a command acts, and what it does is a change of the
tray's or the port's own state with at most one output. -/

namespace Sys2Proof.Machine

/-! The rules. -/

theorem State.onTray_on {s : State} (hon : s.svc ≠ .off) (act : State → State) : s.onTray act = act s := if_neg hon

theorem modTray_only (s : State) (f : Tray → Tray) : OnlyChanges [.tray] s (s.modTray f) := tray_only _

theorem modTap_only (s : State) (f : Tap → Tap) : OnlyChanges [.tap] s (s.modTap f) := by
  intro c h
  cases c <;> simp_all [sameComp, State.modTap]

theorem draw1_only (s : State) : OnlyChanges [.free] s s.draw1.2 := free_only _

/-- The n low bytes of a number are those of its remainder. -/
theorem toLE_mod (n x : Nat) : toLE n (x % 256 ^ n) = toLE n x := by
  induction n generalizing x with
  | zero => rfl
  | succ n ih =>
    have hlow : BitVec.ofNat 8 (x % (256 * 256 ^ n)) = BitVec.ofNat 8 x := by
      apply BitVec.eq_of_toNat_eq
      simp only [BitVec.toNat_ofNat]
      exact Nat.mod_mul_right_mod x 256 (256 ^ n)
    rw [toLE, toLE, Nat.pow_succ', hlow, Nat.mod_mul_right_div_self, ih]

/-- A 16-bit sensor word of a number that is not negative. -/
theorem toLE_two_ofInt (x : Nat) : toLE 2 (BitVec.ofInt 16 (x : Int)).toNat = toLE 2 x := by
  rw [BitVec.ofInt_natCast, BitVec.toNat_ofNat]
  exact toLE_mod 2 x

/-! I3C (R575). -/

theorem Tray.addressed_iff (y : Tray) (addr : Option (BitVec 7)) : y.addressed addr = true ↔ addr = none ∨ addr = y.dynAddr := by
  cases addr <;> simp [Tray.addressed]

theorem State.sensor_measured (s : State) {i : Nat} (hi : i < 3) : s.sensor i = Tbl.get 0 s.tray.sensors i := if_pos hi

theorem State.sensor_drop (s : State) : s.sensor 7 = (s.cool.dp : Int) := by
  simp [State.sensor]

theorem State.sensor_unlisted (s : State) {i : Nat} (hi : 7 < i) : s.sensor i = 0 := by
  have h (j : Nat) (hj : j ≤ 7) : i ≠ j := by omega
  simp [State.sensor, show ¬ i < 3 by omega, h]

section
variable {s : State} (hon : s.svc ≠ .off)
include hon

/-- SETDASA acts on the target's own static address while it holds no other (log entry 102). -/
theorem execSetdasa_eq (static dyn : BitVec 7) : execSetdasa static dyn s =
    if static.toNat = 0x30 + s.tray.slotId ∧ s.tray.dynAddr = none then .next { s with tray := { s.tray with dynAddr := some dyn } }
    else .next s := by
  rw [execSetdasa, State.onTray_on hon, State.modTray]
  split <;> rfl

theorem execRstdaa_eq : execRstdaa s = .next { s with tray := { s.tray with dynAddr := none } } :=
  congrArg Host.Outcome.next (State.onTray_on hon _)

/-- ENEC and DISEC: a command code for this target that names the in-band interrupts. -/
theorem State.setIbi_eq (addr : Option (BitVec 7)) (ev : BitVec 8) (on : Bool) : s.setIbi addr ev on =
    { s with tray := if (addr = none ∨ addr = s.tray.dynAddr) ∧ ev.getLsbD 0 = true then { s.tray with ibi := on } else s.tray } := by
  rw [State.setIbi, State.onTray_on hon, State.modTray]
  simp only [Bool.and_eq_true, Tray.addressed_iff]

theorem State.getStatus_elsewhere {addr : BitVec 7} (h : s.tray.dynAddr ≠ some addr) : s.getStatus addr = s := by
  rw [State.getStatus, State.onTray_on hon, if_neg h]

/-- GETSTATUS: a free vendor byte, and a second byte of which only the activity mode in its two top bits is free (log entry 102). -/
theorem State.getStatus_addressed {addr : BitVec 7} (h : s.tray.dynAddr = some addr) :
    s.getStatus addr = s.draw1.2.emit (.i3c [BitVec.ofNat 8 (s.draw1.1 % 256), BitVec.ofNat 8 (s.draw1.1 / 256 % 4 * 64)]) := by
  rw [State.getStatus, State.onTray_on hon, if_pos h]
  rfl

theorem State.sensorRead_elsewhere {addr : BitVec 7} (h : s.tray.dynAddr ≠ some addr) (i : Nat) (v : Int) : s.sensorRead addr i v = s := by
  rw [State.sensorRead, State.onTray_on hon, if_neg h]

/-- A measured sensor: the read stores what it finds. -/
theorem State.sensorRead_measured {addr : BitVec 7} (h : s.tray.dynAddr = some addr) {i : Nat} (hi : i < 3) (v : Int) :
    s.sensorRead addr i v =
      (s.modTray fun t => { t with sensors := Tbl.set 0 t.sensors i v }).emit (.i3c (toLE 2 (BitVec.ofInt 16 v).toNat)) := by
  have hv : (s.modTray fun t => { t with sensors := Tbl.set 0 t.sensors i v }).sensor i = v :=
    (State.sensor_measured _ hi).trans (Tbl.get_set_same 0 s.tray.sensors i v)
  simp only [State.sensorRead, State.onTray_on hon, if_pos h, if_pos hi, hv]

/-- Every other index follows the module's own telemetry. -/
theorem State.sensorRead_telemetry {addr : BitVec 7} (h : s.tray.dynAddr = some addr) {i : Nat} (hi : ¬ i < 3) (v : Int) :
    s.sensorRead addr i v = s.emit (.i3c (toLE 2 (BitVec.ofInt 16 (s.sensor i)).toNat)) := by
  simp only [State.sensorRead, State.onTray_on hon, if_pos h, if_neg hi]

end

/-! In-band interrupts (R575). -/

/-- The threshold of a sensor with an interrupt, in 0.1 °C: regions at 95 °C, cartridges at 65 °C. -/
def ibiLimit (i : Nat) : Int := if i < 5 then 950 else 650

/-- The interrupt of a sensor fires: it is at its threshold and armed, and the target has an address and may interrupt. -/
abbrev State.ibiFires (s : State) (i : Nat) : Prop :=
  ibiLimit i ≤ s.sensor i ∧ Tbl.get false s.tray.armedOff i = false ∧ s.tray.ibi = true ∧ s.tray.dynAddr.isSome = true

section
variable {s : State} (hon : s.svc ≠ .off) {i : Nat}
include hon

/-- A fall of 5 °C below the threshold arms the interrupt again; one that fires disarms it (log entry 102). -/
theorem State.sensorIbi_eq : s.sensorIbi i =
    if s.sensor i ≤ ibiLimit i - 50 then s.modTray fun t => { t with armedOff := Tbl.set false t.armedOff i false }
    else if s.ibiFires i then
      (s.modTray fun t => { t with armedOff := Tbl.set false t.armedOff i true }).emit (.i3c [BitVec.ofNat 8 i])
    else s := by
  rw [State.sensorIbi, State.onTray_on hon]
  rfl

theorem State.sensorIbi_fires (h : s.ibiFires i) :
    s.sensorIbi i = (s.modTray fun t => { t with armedOff := Tbl.set false t.armedOff i true }).emit (.i3c [BitVec.ofNat 8 i]) := by
  have hlow : ¬ s.sensor i ≤ ibiLimit i - 50 := by
    obtain ⟨hreached, -⟩ := h
    omega
  rw [State.sensorIbi_eq hon, if_neg hlow, if_pos h]

theorem State.sensorIbi_fallen (h : s.sensor i ≤ ibiLimit i - 50) :
    s.sensorIbi i = s.modTray fun t => { t with armedOff := Tbl.set false t.armedOff i false } := by
  rw [State.sensorIbi_eq hon, if_pos h]

theorem State.sensorIbi_quiet (h : ¬ s.ibiFires i) (hlow : ibiLimit i - 50 < s.sensor i) : s.sensorIbi i = s := by
  rw [State.sensorIbi_eq hon, if_neg (Int.not_le.2 hlow), if_neg h]

end

theorem armedOff_modTray (s : State) (i : Nat) (b : Bool) :
    Tbl.get false (s.modTray fun t => { t with armedOff := Tbl.set false t.armedOff i b }).tray.armedOff i = b :=
  Tbl.get_set_same false s.tray.armedOff i b

/-! The test access port (R605, R606). -/

theorem State.tapActs_iff (s : State) : s.tapActs = true ↔ s.svc = .benched ∨ (s.svc = .init ∧ s.up.started = 0) := by
  simp [State.tapActs]

theorem State.tapGuard_acts {s : State} (hon : s.svc ≠ .off) (h : s.tapActs = true) (act : State → State) : s.tapGuard act = act s :=
  (State.onTray_on hon _).trans (if_pos h)

/-- R606: elsewhere the port selects BYPASS, with a record, whatever the instruction would have done. -/
theorem State.tapGuard_bypass {s : State} (hon : s.svc ≠ .off) (h : ¬ s.tapActs = true) (act : State → State) :
    s.tapGuard act = (s.modTap fun t => { t with instr := .bypass }).recordOpen [] :=
  (State.onTray_on hon _).trans (if_neg h)

/-- Settles O53: each command outside OFF is the one change of its lemma above; the refused instructions of the port share one. -/
theorem sensorBusAndTestPort : Obligations.SensorBusAndTestPort := by
  unfold Obligations.SensorBusAndTestPort
  refine ⟨?sensorBus, ?testPort⟩
  case sensorBus =>
    intro s hon y put
    refine ⟨execSetdasa_eq hon, execRstdaa_eq hon, ?switches, ?replies, ?thresholds⟩
    case switches =>
      intro addr ev hit
      exact ⟨congrArg Host.Outcome.next (State.setIbi_eq hon addr ev true), congrArg Host.Outcome.next (State.setIbi_eq hon addr ev false)⟩
    case replies =>
      intro addr index v
      have read {t : State} (h : s.sensorRead addr index.toNat v.toInt = t) : exec (.sensorRead addr index v) s = .next t :=
        congrArg Host.Outcome.next h
      refine ⟨fun h => ⟨congrArg Host.Outcome.next (State.getStatus_elsewhere hon h), read (State.sensorRead_elsewhere hon h _ _)⟩,
        fun h => ⟨?status, ?measured, ?drop, ?unlisted⟩⟩
      case status =>
        refine ⟨_, _, _, congrArg Host.Outcome.next (State.getStatus_addressed hon h), rfl, ?_,
          ((draw1_only s).mono (by decide)).trans ((emit_only _).mono (by decide))⟩
        have hmode : ∀ m < 4, BitVec.ofNat 8 (m * 64) &&& 0x3F#8 = 0#8 := by decide
        exact hmode _ (Nat.mod_lt _ (by decide))
      case measured =>
        intro hi
        have hrun := State.sensorRead_measured hon h hi v.toInt
        rw [BitVec.ofInt_toInt] at hrun
        exact ⟨_, read hrun, rfl, (State.sensor_measured _ hi).trans (Tbl.get_set_same 0 s.tray.sensors _ _),
          ((modTray_only s _).mono (by decide)).trans ((emit_only _).mono (by decide))⟩
      case drop =>
        rintro rfl
        have hrun := State.sensorRead_telemetry hon h (i := 7) (by decide) v.toInt
        rw [State.sensor_drop, toLE_two_ofInt] at hrun
        exact read hrun
      case unlisted =>
        intro hi
        have hrun := State.sensorRead_telemetry hon h (i := index.toNat) (by omega) v.toInt
        rw [State.sensor_unlisted s hi] at hrun
        exact read hrun
    case thresholds =>
      intro k v lim off fires
      have hlim : lim = ibiLimit (3 + k.val) := by
        have hk : k.val < 2 ↔ 3 + k.val < 5 := by omega
        simp only [lim, ibiLimit, hk]
      have hfires : fires = s.ibiFires (3 + k.val) := by simp only [fires, hlim]; rfl
      have runs {t : State} (h : s.sensorIbi (3 + k.val) = t) : exec (.sensorThresholdIbi k) s = .next t := congrArg Host.Outcome.next h
      rw [hfires, hlim]
      refine ⟨fun h => ?fire, fun h => ?fallen, fun h hlow => runs (State.sensorIbi_quiet hon h hlow)⟩
      case fire =>
        exact ⟨_, runs (State.sensorIbi_fires hon h), rfl, armedOff_modTray s _ true,
          ((modTray_only s _).mono (by decide)).trans ((emit_only _).mono (by decide))⟩
      case fallen =>
        exact ⟨_, runs (State.sensorIbi_fallen hon h), armedOff_modTray s _ false, modTray_only s _⟩
  case testPort =>
    intro s pins data hon shows cells acts
    have always (act : State → State) : (.next (s.onTray act) : Host.Outcome State Fault Refusal) = .next (act s) :=
      congrArg Host.Outcome.next (State.onTray_on hon act)
    refine ⟨always _, always _, always _, fun h => ?acting, fun h => ?refused⟩
    case acting =>
      have hacts := s.tapActs_iff.2 h
      have guarded (act : State → State) : (.next (s.tapGuard act) : Host.Outcome State Fault Refusal) = .next (act s) :=
        congrArg Host.Outcome.next (State.tapGuard_acts hon hacts act)
      exact ⟨guarded _, guarded _, guarded _⟩
    case refused =>
      have hrefused : ¬ s.tapActs = true := fun hacts => h (s.tapActs_iff.1 hacts)
      have bypasses (act : State → State) : ∃ t, (.next (s.tapGuard act) : Host.Outcome State Fault Refusal) = .next t ∧
          t.tap = { s.tap with instr := .bypass } ∧ t.recorder ≠ s.recorder ∧ OnlyChanges [.tap, .recorder, .free] s t :=
        ⟨_, congrArg Host.Outcome.next (State.tapGuard_bypass hon hrefused act), rfl, State.recordOpen_recorder_ne _ _,
          ((modTap_only s _).mono (by decide)).trans ((recordOpen_only _).mono (by decide))⟩
      intro c hc
      simp only [List.mem_cons, List.not_mem_nil, or_false] at hc
      obtain rfl | rfl | rfl := hc
      · exact bypasses _
      · exact bypasses _
      · exact bypasses _

end Sys2Proof.Machine
end

section
/-! PROOF. Coolant flow (R610, R611). A sample moves the counters of the flow; where the flow is lost or returns it also forms the totals
of the cartridges anew. -/

namespace Sys2Proof.Machine

/-! Frames. -/

theorem cool_only (s : State) (d : Cool) : OnlyChanges [.cool] s { s with cool := d } := by intro c h; cases c <;> simp_all [sameComp]
theorem carts_only (s : State) (d : Carts) : OnlyChanges [.carts] s { s with carts := d } := by intro c h; cases c <;> simp_all [sameComp]
theorem setRail_only (s : State) (i : Nat) (x : Rail) : OnlyChanges [.pwr] s (s.setRail i x) := by
  intro c h; cases c <;> simp_all [sameComp, State.setRail]

theorem sampleDp_only (s : State) (dp : Nat) : OnlyChanges [.cool, .tray] s (s.sampleDp dp) :=
  ((cool_only s { s.cool with dp }).mono (by decide)).trans ((tray_only { s.tray with sensors := Tbl.set 0 s.tray.sensors 7 dp }).mono (by decide))

theorem busHeld_only (s : State) : OnlyChanges [.pwr] s s.busHeld :=
  OnlyChanges.ite (fun _ => OnlyChanges.refl _ _) fun _ => setRail_only _ _ _

/-- The cartridges with their totals formed anew, and no charge taken while the flow is lost (R611). -/
def State.newTotals (s : State) : Carts := if s.cool.noFlow then { s.carts.totals with cAvail := 0 } else s.carts.totals

theorem State.newTotals_cAvail {s : State} (h : s.cool.noFlow = true) : s.newTotals.cAvail = 0 := by rw [State.newTotals, if_pos h]

/-- Totals formed anew: the cartridges take them, the bus follows, and a record may be written. -/
theorem State.cartTotals_cases (s : State) :
    s.cartTotals = ({ s with carts := s.newTotals } : State).busHeld ∨
    s.cartTotals = (({ s with carts := s.newTotals } : State).busHeld).record 0x070 4 [] := by
  by_cases starts : (s.newTotals.taper && !s.carts.taper && s.pwr.closed) = true
  · exact .inr (if_pos starts)
  · exact .inl (if_neg starts)

theorem cartTotals_only (s : State) : OnlyChanges [.carts, .pwr, .recorder] s s.cartTotals := by
  have formed : OnlyChanges [.carts, .pwr, .recorder] s ({ s with carts := s.newTotals } : State).busHeld :=
    ((carts_only s _).mono (by decide)).trans ((busHeld_only _).mono (by decide))
  rcases s.cartTotals_cases with h | h <;> rw [h]
  · exact formed
  · exact formed.trans ((record_only _ _ _).mono (by decide))

@[simp] theorem State.cartTotals_cool (s : State) : s.cartTotals.cool = s.cool := cartTotals_only s .cool (by decide)

@[simp] theorem State.cartTotals_carts (s : State) : s.cartTotals.carts = s.newTotals := by
  have formed : ({ s with carts := s.newTotals } : State).busHeld.carts = s.newTotals := busHeld_only _ .carts (by decide)
  rcases s.cartTotals_cases with h | h <;> rw [h]
  · exact formed
  · exact formed

/-! The counters of a sample (R610). -/

/-- The hundredth sample in a row below the threshold loses the flow; the thousandth at or above it returns a lost one. -/
def Cool.loses (c : Cool) : Bool := decide (99 ≤ c.below) && !c.noFlow
def Cool.regains (c : Cool) : Bool := decide (999 ≤ c.above) && c.noFlow

/-- The counters after a sample below the threshold, and after one at or above it. -/
def Cool.low (c : Cool) (dp : Nat) : Cool :=
  { c with dp, below := c.below + 1, above := 0, noFlow := c.noFlow || c.loses, losses := if c.loses then satAdd 0xFFFF c.losses 1 else c.losses }
def Cool.high (c : Cool) (dp : Nat) : Cool := { c with dp, above := c.above + 1, below := 0, noFlow := c.noFlow && !c.regains }

section
variable {c : Cool} {dp : Nat}

theorem Cool.loses_iff : c.loses = true ↔ 99 ≤ c.below ∧ c.noFlow = false := by
  simp only [Cool.loses, Bool.and_eq_true, decide_eq_true_eq, Bool.not_eq_true']

theorem Cool.regains_iff : c.regains = true ↔ 999 ≤ c.above ∧ c.noFlow = true := by
  simp only [Cool.regains, Bool.and_eq_true, decide_eq_true_eq]

theorem Cool.not_loses (h : c.below < 99 ∨ c.noFlow = true) : c.loses = false := by
  refine Bool.eq_false_iff.2 fun hloses => ?_
  obtain ⟨hlong, hflow⟩ := Cool.loses_iff.1 hloses
  rcases h with hshort | hlost
  · exact Nat.not_le.2 hshort hlong
  · exact Bool.false_ne_true (hflow.symm.trans hlost)

theorem Cool.not_regains (h : c.above < 999 ∨ c.noFlow = false) : c.regains = false := by
  refine Bool.eq_false_iff.2 fun hregains => ?_
  obtain ⟨hlong, hlost⟩ := Cool.regains_iff.1 hregains
  rcases h with hshort | hflow
  · exact Nat.not_le.2 hshort hlong
  · exact Bool.false_ne_true (hflow.symm.trans hlost)

theorem Cool.low_noFlow : (c.low dp).noFlow = true ↔ c.noFlow = true ∨ 99 ≤ c.below := by
  cases h : c.noFlow <;> simp [Cool.low, Cool.loses, h]

/-- A loss is counted, up to the width of its register. -/
theorem Cool.low_losses (h : c.loses = true) : (c.low dp).losses = min 0xFFFF (c.losses + 1) := by
  simp only [Cool.low, h, if_true, satAdd]
  split <;> omega

theorem Cool.high_noFlow : (c.high dp).noFlow = true ↔ c.noFlow = true ∧ c.above < 999 := by
  cases h : c.noFlow <;> simp [Cool.high, Cool.regains, h]

end

/-! What a sample does to the module. -/

/-- The module after a sample that leaves the counters as c; `totals` says that the totals of the cartridges are formed anew. -/
def State.sampled (s : State) (dp : Nat) (c : Cool) (totals : Bool) : State :=
  if totals then ({ s.sampleDp dp with cool := c } : State).cartTotals else { s.sampleDp dp with cool := c }

@[simp] theorem State.sampled_cool (s : State) (dp : Nat) (c : Cool) (totals : Bool) : (s.sampled dp c totals).cool = c := by
  cases totals <;> simp [State.sampled]

@[simp] theorem State.sampled_carts (s : State) (dp : Nat) (c : Cool) : (s.sampled dp c false).carts = s.carts := rfl

theorem State.sampled_cAvail (s : State) (dp : Nat) {c : Cool} (h : c.noFlow = true) : (s.sampled dp c true).carts.cAvail = 0 := by
  rw [State.sampled, if_pos rfl, State.cartTotals_carts]
  exact State.newTotals_cAvail h

theorem sampled_only (s : State) (dp : Nat) (c : Cool) (totals : Bool) :
    OnlyChanges [.cool, .tray, .carts, .pwr, .recorder] s (s.sampled dp c totals) := by
  have counted : OnlyChanges [.cool, .tray, .carts, .pwr, .recorder] s { s.sampleDp dp with cool := c } :=
    ((sampleDp_only s dp).mono (by decide)).trans ((cool_only _ c).mono (by decide))
  exact OnlyChanges.ite (fun _ => counted.trans ((cartTotals_only _).mono (by decide))) fun _ => counted

section
variable {s : State} {dp : Nat}

theorem State.flowSample_off (hoff : s.svc = .off) : s.flowSample dp = s.sampled dp { s.cool with dp } false := if_pos hoff

theorem State.flowSample_low (hon : s.svc ≠ .off) (hdp : dp < noFlowDp) : s.flowSample dp = s.sampled dp (s.cool.low dp) s.cool.loses :=
  (if_neg hon).trans (if_pos hdp)

theorem State.flowSample_high (hon : s.svc ≠ .off) (hdp : ¬ dp < noFlowDp) :
    s.flowSample dp = s.sampled dp (s.cool.high dp) s.cool.regains :=
  (if_neg hon).trans (if_neg hdp)

/-- Every sample reads the pressure drop, and sets the counters to some values. -/
theorem State.flowSample_cases (s : State) (dp : Nat) : ∃ c totals, c.dp = dp ∧ s.flowSample dp = s.sampled dp c totals := by
  by_cases hon : s.svc = .off
  · exact ⟨_, _, rfl, State.flowSample_off hon⟩
  · by_cases hdp : dp < noFlowDp
    · exact ⟨_, _, rfl, State.flowSample_low hon hdp⟩
    · exact ⟨_, _, rfl, State.flowSample_high hon hdp⟩

theorem flowSample_only : OnlyChanges [.cool, .tray, .carts, .pwr, .recorder] s (s.flowSample dp) := by
  obtain ⟨c, totals, -, h⟩ := s.flowSample_cases dp
  exact h ▸ sampled_only s dp c totals

theorem State.flowSample_dp : (s.flowSample dp).cool.dp = dp := by
  obtain ⟨c, totals, hdp, h⟩ := s.flowSample_cases dp
  rw [h, State.sampled_cool, hdp]

end

end Sys2Proof.Machine
end

section
/-! PROOF. An L3 that the module decides (R492 to R501, R518): its run stands, unless its count benches the module. -/

namespace Sys2Proof.Machine

/-- A reset of this level and cause is under way. -/
def State.resetRuns (s : State) (level cause : Nat) : Prop := ∃ r ∈ s.rst.runs, r.level = level ∧ r.cause = cause

theorem keepWrite_rst (s : State) (off : Nat) (v : BitVec 64) : (s.keepWrite off v).rst = s.rst := keepWrite_only off v .rst (by decide)

/-- What becomes of a context at an L3 touches what an abort touches. -/
theorem l3Ctx_only (s : State) (n : Nat) : OnlyChanges [.cores, .slots, .fab, .mem, .free, .host, .out] s (s.l3Ctx n) := by
  have aborts := abortCtx_only (s := s) n 0x08 3
  have stops : OnlyChanges [.cores, .slots, .fab, .mem, .free, .host, .out] s (s.modCores (s.coresOf n) Core.stop) :=
    (modCores_only _ _).mono (by decide)
  unfold State.l3Ctx
  dsimp only
  split
  · exact OnlyChanges.ite (fun _ => aborts) fun _ => stops
  · exact OnlyChanges.ite (fun _ => aborts) fun _ => stops
  · exact OnlyChanges.ite (fun _ => aborts) fun _ => OnlyChanges.refl _ _
  · exact aborts

theorem State.setService_svc (s : State) (v : Service) (d : BitVec 5) : (s.setService v d).svc = v := by
  have reported (t : State) (p : List Byte) : OnlyChanges [.tray, .out, .host] t ((t.raise 0 0 none).unsol 0x42 p) :=
    ((raise_only 0 0 none).mono (by decide)).trans ((unsol_only _ _).mono (by decide))
  by_cases h : s.svc = v ∧ s.degrade = d
  · rw [State.setService, if_pos h]
    exact h.1
  · rw [State.setService, if_neg h]
    exact (reported _ _ .svc (by decide)).1

theorem State.settle_benched {s : State} (h : s.svc = .benched) : s.settle.svc = .benched := by
  simp only [State.settle, h]
  exact State.setService_svc _ _ _

theorem State.settle_resetRuns {s : State} {level cause : Nat} (h : s.resetRuns level cause) : s.settle.resetRuns level cause := by
  have hrst : s.settle.rst = s.rst := settle_only .rst (by decide)
  rwa [State.resetRuns, hrst]

theorem State.settle_cool (s : State) : s.settle.cool = s.cool := settle_only .cool (by decide)

theorem State.settle_draw (s : State) : s.settle.draw = s.draw := settle_only .draw (by decide)

theorem State.settle_region (s : State) (j : Nat) : s.settle.region j = s.region j := by
  have hreg : s.settle.reg = s.reg := settle_only .reg (by decide)
  rw [State.region, hreg, State.region]

theorem State.enterBenched_svc (s : State) : s.enterBenched.svc = .benched := State.setService_svc _ _ _

/-- R518: a reset that counts is logged, which leaves the runs as they are; then the count is compared with the limit. -/
theorem State.countBench_eq (s : State) (level : Nat) :
    ∃ u : State, u.rst.runs = s.rst.runs ∧ s.countBench level = if u.benchLimit ≤ u.benchCount then u.enterBenched else u := by
  refine ⟨_, ?_, rfl⟩
  change (s.keepWrite _ _).rst.runs = s.rst.runs
  rw [keepWrite_rst]

theorem State.countBench_cases (s : State) (level : Nat) :
    (s.countBench level).svc = .benched ∨ (s.countBench level).rst.runs = s.rst.runs := by
  obtain ⟨u, hruns, h⟩ := s.countBench_eq level
  rw [h]
  split
  · exact .inl u.enterBenched_svc
  · exact .inr hruns

/-- R495, R501: an L3 that is decided ends or stops the contexts, stops every core, and starts the drain-discard. -/
def State.l3Stopped (s : State) : State :=
  let t := s.liveSlots.foldl State.l3Ctx s
  { (t.modCores (t.cores.map Prod.fst) Core.stop) with rst := { t.rst with drain := some 3, drainAt := t.lt } }

theorem State.l3Stopped_runs (s : State) : s.l3Stopped.rst.runs = s.rst.runs := by
  have hctx : (s.liveSlots.foldl State.l3Ctx s).rst = s.rst := OnlyChanges.foldl l3Ctx_only _ _ .rst (by decide)
  change (s.liveSlots.foldl State.l3Ctx s).rst.runs = s.rst.runs
  rw [hctx]

/-- R492 to R501, R518: an L3 enters its run; then the contexts and the cores stop, and it counts toward benching. -/
theorem State.startReset_three (s : State) (target cause : Nat) (cmd esc : Bool) (replay : Option Nat) :
    ∃ v : State, v.resetRuns 3 cause ∧ s.startReset 3 target cause cmd esc replay = (v.l3Stopped.countBench 3).settle := by
  refine ⟨_, ?run, rfl⟩
  exact ⟨_, List.mem_cons_self, rfl, rfl⟩

/-- An L3 that is decided is under way, unless it has benched the module. -/
theorem State.startReset_resetRuns (s : State) (target cause : Nat) (cmd esc : Bool) (replay : Option Nat) :
    let t := s.startReset 3 target cause cmd esc replay
    t.svc = .benched ∨ t.resetRuns 3 cause := by
  obtain ⟨v, hruns, h⟩ := s.startReset_three target cause cmd esc replay
  rw [h]
  rcases v.l3Stopped.countBench_cases 3 with hbench | hkept
  · exact .inl (State.settle_benched hbench)
  · refine .inr (State.settle_resetRuns ?_)
    rwa [State.resetRuns, hkept, State.l3Stopped_runs]

/-- R24: the service states in which the module decides an L3 of its own. -/
abbrev Service.resets (v : Service) : Prop := v = .ready ∨ v = .serving ∨ v = .degraded ∨ v = .filling

/-- R24, R498: with no reset under way, a reset of the module's own starts. -/
theorem State.ownReset_starts {s : State} (hsvc : s.svc.resets) (hruns : s.rst.runs = []) (level target cause : Nat) :
    s.ownReset level target cause = s.startReset level target cause false false none := by
  rcases hsvc with h | h | h | h <;> simp [State.ownReset, h, hruns]

/-! The thermal L3 (R600, R612). -/

theorem State.thermalReset_eq (s : State) : s.thermalReset =
    if (s.ownReset 3 0 0x0E).rst.runs.any fun r => decide (r.level = 3) && decide (r.cause = 0x0E) then
      { s.ownReset 3 0 0x0E with cool := { (s.ownReset 3 0 0x0E).cool with held := true } }
    else s.ownReset 3 0 0x0E := rfl

theorem State.thermalReset_svc (s : State) : s.thermalReset.svc = (s.ownReset 3 0 0x0E).svc := by
  rw [State.thermalReset_eq]
  split <;> rfl

/-- R600: an L3 with cause THERMAL holds the dies in reset. -/
theorem State.thermalReset_held {s : State} (h : (s.ownReset 3 0 0x0E).resetRuns 3 0x0E) :
    s.thermalReset.cool.held = true ∧ s.thermalReset.resetRuns 3 0x0E := by
  have hany : ((s.ownReset 3 0 0x0E).rst.runs.any fun r => decide (r.level = 3) && decide (r.cause = 0x0E)) = true := by
    simpa [State.resetRuns] using h
  rw [State.thermalReset_eq, if_pos hany]
  exact ⟨rfl, h⟩

/-- With no reset under way, a thermal reset benches the module, or holds the dies in reset. -/
theorem State.thermalReset_cases {s : State} (hsvc : s.svc.resets) (hruns : s.rst.runs = []) :
    s.thermalReset.svc = .benched ∨ (s.thermalReset.cool.held = true ∧ s.thermalReset.resetRuns 3 0x0E) := by
  have hstart := State.ownReset_starts hsvc hruns 3 0 0x0E
  rcases s.startReset_resetRuns 0 0x0E false false none with hbench | hrun
  · exact .inl (by rw [State.thermalReset_svc, hstart, hbench])
  · exact .inr (State.thermalReset_held (hstart ▸ hrun))

end Sys2Proof.Machine
end

section
/-! PROOF. The thermal trips (R600, R612) and the statement on coolant and trips. -/

namespace Sys2Proof.Machine

/-- A change that does nothing more when repeated reaches every region of a list. -/
theorem State.region_modRegions {f : Region → Region} (hf : ∀ x, f (f x) = f x) (is : List Nat) (s : State) (j : Nat) :
    (s.modRegions is f).region j = if j ∈ is then f (s.region j) else s.region j := by
  induction is generalizing s with
  | nil => rfl
  | cons i is ih =>
    have step : (s.modRegions (i :: is) f).region j = ((s.modRegion i f).modRegions is f).region j := rfl
    rw [step, ih, State.modRegion, State.region_setRegion]
    by_cases hji : j = i
    · subst hji; simp [hf]
    · simp [hji]

/-! The cut of a die (R600). -/

/-- The cut of a die was made 10 ms ago or more. -/
abbrev State.cutLong (s : State) (die : Nat) : Prop := ∃ t0, Tbl.get none s.cool.trip die = some t0 ∧ t0 + 10000000 ≤ s.lt

/-- No region of a die reads 105 °C. -/
abbrev State.dieCold (s : State) (die : Nat) : Prop := ∀ j < 432, dieOfRegion j = die → (s.region j).temp < 105

/-- A region capped at the lowest clock, with no other clock to follow (R600). -/
def Region.cutDown (x : Region) : Region := { x with cap := 0, nextClock := none }

theorem tripDie_only (s : State) (die : Nat) : OnlyChanges [.reg, .cool, .draw] s (s.tripDie die) :=
  (((modDraw_only (s := s) _).mono (by decide)).trans ((modRegions_only _ _).mono (by decide))).trans ((cool_only _ _).mono (by decide))

theorem State.tripDie_region (s : State) (die : Nat) {j : Nat} (hj : j < 432) :
    (s.tripDie die).region j = if dieOfRegion j = die then (s.region j).cutDown else s.region j := by
  have step : (s.tripDie die).region j =
    ((s.modDraw fun d => d.setLevel die 1).modRegions ((List.range 432).filter fun i => dieOfRegion i = die) Region.cutDown).region j := rfl
  rw [step, State.region_modRegions (f := Region.cutDown) fun _ => rfl]
  simp only [List.mem_filter, List.mem_range, hj, true_and, decide_eq_true_eq]
  rfl

theorem State.tripDie_draw (s : State) (die : Nat) : (s.tripDie die).draw = s.draw.setLevel die 1 :=
  (modRegions_only (s := s.modDraw fun d => d.setLevel die 1) _ _) .draw (by decide)

theorem State.tripDie_trip (s : State) (die : Nat) : Tbl.get none (s.tripDie die).cool.trip die = some s.lt := by
  have kept (t : State) (is : List Nat) (f : Region → Region) : (t.modRegions is f).lt = t.lt := modRegions_only is f .lt (by decide)
  rw [State.tripDie]
  simp [kept, State.modDraw]

theorem State.cutLong_iff {s : State} {die : Nat} :
    ((Tbl.get none s.cool.trip die).any fun t => decide (t + 10000000 ≤ s.lt)) = true ↔ s.cutLong die := by
  simp [State.cutLong, Option.any_eq_true]

theorem State.dieCold_iff {s : State} {die : Nat} :
    ((List.range 432).all fun q => decide (dieOfRegion q = die → (s.region q).temp < 105)) = true ↔ s.dieCold die := by
  simp only [List.all_eq_true, List.mem_range, decide_eq_true_eq, State.dieCold]

/-- The module with the level of a die cut, now or before. -/
def State.withCut (s : State) (die : Nat) : State := if (Tbl.get none s.cool.trip die).isSome then s else s.tripDie die

theorem State.withCut_of_none {s : State} {die : Nat} (h : Tbl.get none s.cool.trip die = none) : s.withCut die = s.tripDie die :=
  if_neg (by simp [h])

theorem State.withCut_of_some {s : State} {die : Nat} (h : Tbl.get none s.cool.trip die ≠ none) : s.withCut die = s :=
  if_pos (Option.isSome_iff_ne_none.2 h)

theorem withCut_only (s : State) (die : Nat) : OnlyChanges [.reg, .cool, .draw] s (s.withCut die) :=
  OnlyChanges.ite (fun _ => OnlyChanges.refl _ _) fun _ => tripDie_only s die

/-! What THERMAL_TRIP does, by the region's temperature. -/

section
variable {s : State} {i : Nat} (hon : s.svc ≠ .off)
include hon

/-- Below 105 °C a cut that is long enough ago is over with the die cold. -/
theorem State.thermalTrip_ends (htemp : (s.region i).temp < 105) (hlong : s.cutLong (dieOfRegion i)) (hcold : s.dieCold (dieOfRegion i)) :
    s.thermalTrip i = { s with cool := { s.cool with trip := Tbl.set none s.cool.trip (dieOfRegion i) none } } :=
  (if_neg hon).trans ((if_pos htemp).trans (if_pos (Bool.and_eq_true_iff.2 ⟨State.cutLong_iff.2 hlong, State.dieCold_iff.2 hcold⟩)))

theorem State.thermalTrip_stays (htemp : (s.region i).temp < 105) (h : ¬ (s.cutLong (dieOfRegion i) ∧ s.dieCold (dieOfRegion i))) :
    s.thermalTrip i = s := by
  refine (if_neg hon).trans ((if_pos htemp).trans (if_neg fun both => h ?_))
  obtain ⟨hlong, hcold⟩ := Bool.and_eq_true_iff.1 both
  exact ⟨State.cutLong_iff.1 hlong, State.dieCold_iff.1 hcold⟩

/-- From 105 °C the die's level is cut, and that is all while 110 °C and the 10 ms are not reached. -/
theorem State.thermalTrip_cuts (htemp : ¬ (s.region i).temp < 105) (hlow : ¬ 110 ≤ (s.region i).temp) (hlong : ¬ s.cutLong (dieOfRegion i)) :
    s.thermalTrip i = s.withCut (dieOfRegion i) := by
  refine (if_neg hon).trans ((if_neg htemp).trans (if_neg fun h => ?_))
  rcases Bool.or_eq_true_iff.1 h with hhigh | hafter
  · exact hlow (of_decide_eq_true hhigh)
  · exact hlong (State.cutLong_iff.1 hafter)

theorem State.thermalTrip_resets (htemp : ¬ (s.region i).temp < 105) (h : 110 ≤ (s.region i).temp ∨ s.cutLong (dieOfRegion i)) :
    s.thermalTrip i = (s.withCut (dieOfRegion i)).thermalReset :=
  (if_neg hon).trans ((if_neg htemp).trans
    (if_pos (Bool.or_eq_true_iff.2 (h.imp (fun hhigh => decide_eq_true hhigh) fun hlong => State.cutLong_iff.2 hlong))))

/-- The reset of the trip benches the module, or holds the dies. -/
theorem State.thermalTrip_cases (htemp : ¬ (s.region i).temp < 105) (h : 110 ≤ (s.region i).temp ∨ s.cutLong (dieOfRegion i))
    (hsvc : s.svc.resets) (hruns : s.rst.runs = []) :
    (s.thermalTrip i).svc = .benched ∨ ((s.thermalTrip i).cool.held = true ∧ (s.thermalTrip i).resetRuns 3 0x0E) := by
  have hsvc' : (s.withCut (dieOfRegion i)).svc = s.svc := (withCut_only s _ .svc (by decide)).1
  have hrst : (s.withCut (dieOfRegion i)).rst = s.rst := withCut_only s _ .rst (by decide)
  rw [State.thermalTrip_resets hon htemp h]
  exact State.thermalReset_cases (hsvc' ▸ hsvc) (hrst ▸ hruns)

end

theorem exec_thermalTrip {s t : State} {i : Fin 432} (h : s.thermalTrip i = t) : exec (.thermalTrip i) s = .next t.settle :=
  congrArg (fun u : State => Host.Outcome.next u.settle) h

/-! STACK_L3_TRIP (R612). -/

/-- A stack has been at level 3 for 10 s. -/
abbrev State.longAtLevel3 (s : State) (k : Nat) : Prop := (s.stack k).throt = 3 ∧ 10000 ≤ (s.stack k).level3Ms

theorem State.stackTrip_of_not {s : State} {k : Nat} (h : ¬ s.longAtLevel3 k) : s.stackTrip k = s :=
  if_pos (by omega)

theorem State.stackTrip_of_long {s : State} {k : Nat} (h : s.longAtLevel3 k) : s.stackTrip k =
    if s.thermalReset.cool.held then { s.thermalReset with cool := { s.thermalReset.cool with stackTrip := true } } else s.thermalReset :=
  if_neg (by omega)

/-- The reset of the trip benches the module, or holds the dies with STACK_TRIP set. -/
theorem State.stackTrip_cases {s : State} {k : Nat} (h : s.longAtLevel3 k) (hsvc : s.svc.resets) (hruns : s.rst.runs = []) :
    (s.stackTrip k).svc = .benched ∨
    ((s.stackTrip k).cool.held = true ∧ (s.stackTrip k).cool.stackTrip = true ∧ (s.stackTrip k).resetRuns 3 0x0E) := by
  rw [State.stackTrip_of_long h]
  rcases State.thermalReset_cases hsvc hruns with hbench | ⟨hheld, hrun⟩
  · refine .inl ?_
    split <;> exact hbench
  · rw [if_pos hheld]
    exact .inr ⟨hheld, rfl, hrun⟩

theorem exec_stackL3Trip {s t : State} {k : Fin 8} (h : s.stackTrip k = t) : exec (.stackL3Trip k) s = .next t.settle :=
  congrArg (fun u : State => Host.Outcome.next u.settle) h

/-! THERMAL_HOLD_RELEASE (R600). -/

theorem thermalRelease_only (s : State) (plate : Int) (dp : Nat) : OnlyChanges [.cool, .tray] s (s.thermalRelease plate dp) := by
  have read : OnlyChanges [.cool, .tray] s
      { s.sampleDp dp with tray := { (s.sampleDp dp).tray with sensors := Tbl.set 0 (s.sampleDp dp).tray.sensors 2 plate } } :=
    (sampleDp_only s dp).trans ((tray_only _).mono (by decide))
  exact OnlyChanges.ite (fun _ => read.trans ((cool_only _ _).mono (by decide))) fun _ => read

theorem State.thermalRelease_held (s : State) (plate : Int) (dp : Nat) :
    (s.thermalRelease plate dp).cool.held = if plate ≤ 600 ∧ noFlowDp ≤ dp then false else s.cool.held :=
  apply_ite (fun t : State => t.cool.held) _ _ _

/-- Settles O55: a sample is its counters, a trip is one of the cases of its region's temperature or its stack's level, and what follows
an event in the service state keeps the hold, the runs and BENCHED. -/
theorem coolantAndTrips : Obligations.CoolantAndTrips := by
  unfold Obligations.CoolantAndTrips
  intro s
  refine ⟨?flow, ?trip, ?stack, ?release⟩
  case flow =>
    intro dp
    refine ⟨s.flowSample dp.toNat, rfl, State.flowSample_dp, flowSample_only, fun hon hdp => ?low, fun hon hdp => ?high⟩
    case low =>
      rw [State.flowSample_low hon hdp, State.sampled_cool]
      refine ⟨rfl, rfl, Cool.low_noFlow, fun hlong hflow => ?_, fun h => ?_⟩
      · have hloses : s.cool.loses = true := Cool.loses_iff.2 ⟨hlong, hflow⟩
        exact ⟨Cool.low_losses hloses, hloses ▸ s.sampled_cAvail dp.toNat (Cool.low_noFlow.2 (.inr hlong))⟩
      · have hkeeps : s.cool.loses = false := Cool.not_loses h
        exact ⟨if_neg (by simp [hkeeps]), hkeeps ▸ rfl⟩
    case high =>
      rw [State.flowSample_high hon (Nat.not_lt.2 hdp), State.sampled_cool]
      refine ⟨rfl, rfl, Cool.high_noFlow, rfl, fun h => ?_⟩
      rw [Cool.not_regains h, State.sampled_carts]
  case trip =>
    intro i hon
    refine ⟨fun htemp h => exec_thermalTrip (State.thermalTrip_stays hon htemp h), ?ends, ?quiet, ?cuts, ?resets⟩
    case ends =>
      intro htemp hlong hcold
      refine ⟨_, exec_thermalTrip (State.thermalTrip_ends hon htemp hlong hcold), ?_, ?_⟩
      · rw [State.settle_cool]
        exact Tbl.get_set_same _ _ _ _
      · exact ((cool_only _ _).mono (by decide)).trans (settle_only.mono (by decide))
    case quiet =>
      intro hreached hlow hcut hlong
      refine exec_thermalTrip ?_
      rw [State.thermalTrip_cuts hon (by omega) (by omega) hlong, State.withCut_of_some hcut]
    case cuts =>
      intro hreached hlow hcut
      have hlong : ¬ s.cutLong (dieOfRegion i) := by
        rintro ⟨t0, h, -⟩
        exact Option.some_ne_none t0 (h.symm.trans hcut)
      have htrip : s.thermalTrip i = s.tripDie (dieOfRegion i) := by
        rw [State.thermalTrip_cuts hon (by omega) (by omega) hlong, State.withCut_of_none hcut]
      have honly : OnlyChanges ([.reg, .cool, .draw] ++ reporting) s (s.tripDie (dieOfRegion i)).settle :=
        ((tripDie_only s _).mono (by decide)).trans (settle_only.mono (by decide))
      refine ⟨_, exec_thermalTrip htrip, ?level, ?cut, fun j hj hdie => ?own, fun j hj hdie => ?other, honly .rst (by decide), honly⟩
      case level =>
        rw [State.settle_draw, State.tripDie_draw, Draw.setLevel]
        split <;> rfl
      case cut => rw [State.settle_cool, State.tripDie_trip]
      case own =>
        rw [State.settle_region, State.tripDie_region s _ hj, if_pos hdie]
        exact ⟨rfl, rfl⟩
      case other => rw [State.settle_region, State.tripDie_region s _ hj, if_neg hdie]
    case resets =>
      intro htemp hruns hsvc
      refine ⟨_, rfl, ?_⟩
      rcases State.thermalTrip_cases hon (by omega) (htemp.imp_right And.right) hsvc hruns with hbench | ⟨hheld, hrun⟩
      · exact .inl (State.settle_benched hbench)
      · exact .inr ⟨by rw [State.settle_cool, hheld], State.settle_resetRuns hrun⟩
  case stack =>
    intro k
    refine ⟨fun h => exec_stackL3Trip (State.stackTrip_of_not h), fun h hruns hsvc => ⟨_, rfl, ?_⟩⟩
    rcases State.stackTrip_cases h hsvc hruns with hbench | ⟨hheld, htrip, hrun⟩
    · exact .inl (State.settle_benched hbench)
    · rw [State.settle_cool]
      exact .inr ⟨hheld, htrip, State.settle_resetRuns hrun⟩
  case release =>
    intro plate dp
    exact ⟨_, rfl, thermalRelease_only s _ _, s.thermalRelease_held _ _⟩

end Sys2Proof.Machine
end
